-- ==== Sys2Proof/Word.lean ====
section
/-! DEFINITION. The register word, the byte and their plainest arithmetic (spec/00_scope.md 00.4, 00.5, R7). -/

namespace Sys2Proof

/-- A register: 32 bits (00.5). -/
abbrev Word := BitVec 32

/-- One byte of memory. -/
abbrev Byte := BitVec 8

/-- The `w` bits of `n` from bit `lo` up. -/
def bitsOf (n lo w : Nat) : Nat := n / 2 ^ lo % 2 ^ w

/-- `n` with its `w` bits from bit `lo` up replaced by the low `w` bits of `v`. -/
def putBits (n lo w v : Nat) : Nat :=
  n - bitsOf n lo w * 2 ^ lo + v % 2 ^ w * 2 ^ lo

/-- The two's-complement value of a `w`-bit field (00.4: signed fields). -/
def signedOf (w n : Nat) : Int :=
  if 2 ^ (w - 1) ≤ n % 2 ^ w then (n % 2 ^ w : Int) - 2 ^ w else (n % 2 ^ w : Int)

/-- The `w`-bit two's-complement pattern of an integer, wrapping. -/
def unsignedOf (w : Nat) (i : Int) : Nat := (i % 2 ^ w).toNat

/-- An unsigned count that stops at the top of its `w` bits (a saturating field). -/
def satNat (w n : Nat) : Nat := min n (2 ^ w - 1)

/-- A signed value that stops at the ends of its `w`-bit range (a saturating signed field). -/
def satInt (w : Nat) (i : Int) : Int := max (-(2 ^ (w - 1))) (min i (2 ^ (w - 1) - 1))

/-- RFC 1982 serial-number order on `w` bits: `a` is newer than `b` (R8). -/
def serialNewer (w a b : Nat) : Bool :=
  a % 2 ^ w != b % 2 ^ w && (a + 2 ^ w - b % 2 ^ w) % 2 ^ w < 2 ^ (w - 1)

/-- Division rounding up. -/
def divUp (a b : Nat) : Nat := (a + b - 1) / b

/-- Division of a signed value truncating toward zero. -/
def divTrunc (a : Int) (b : Int) : Int := Int.tdiv a b

/-- Division rounding to the nearest, halves away from zero. -/
def divNear (a : Int) (b : Int) : Int :=
  if b = 0 then 0
  else if 0 ≤ a then (2 * a + b) / (2 * b) else -((2 * (-a) + b) / (2 * b))

/-- Little-endian bytes of a value (R7): `k` bytes of `n`, the least significant first. -/
def leBytes : Nat → Nat → List Byte
  | 0, _ => []
  | k + 1, n => BitVec.ofNat 8 n :: leBytes k (n / 256)

/-- The value of little-endian bytes (R7). -/
def leValue : List Byte → Nat
  | [] => 0
  | b :: bs => b.toNat + 256 * leValue bs

/-- Big-endian bytes: network order where a message layout states it (R7). -/
def beBytes (k n : Nat) : List Byte := (leBytes k n).reverse

/-- The value of big-endian bytes. -/
def beValue (bs : List Byte) : Nat := leValue bs.reverse

/-- The `k` bytes from offset `i` of a byte string, missing ones 0. -/
def sliceBytes (bs : List Byte) (i k : Nat) : List Byte :=
  let s := (bs.drop i).take k
  s ++ List.replicate (k - s.length) 0

/-- The little-endian value of `k` bytes at offset `i`. -/
def leAt (bs : List Byte) (i k : Nat) : Nat := leValue (sliceBytes bs i k)

/-- The big-endian value of `k` bytes at offset `i`. -/
def beAt (bs : List Byte) (i k : Nat) : Nat := beValue (sliceBytes bs i k)

/-- Whether bit `k` of `n` is set. -/
def bitAt (n k : Nat) : Bool := n / 2 ^ k % 2 == 1

/-- `n` with bit `k` set to `b`. -/
def setBit (n k : Nat) (b : Bool) : Nat := putBits n k 1 (cond b 1 0)

end Sys2Proof
end

