-- ==== Sys2Proof/Syntax.lean ====
section
/-! DEFINITION. The commands of the block: one constructor of `Instr` for each row of the table of operations, with the row's
operands, and the data those operands are made of. -/

namespace Sys2Proof

/-- What the world outside decides during start-up (R68 to R74): whether the reference qualifies by the end of step 4, the strap
levels (BOOT in bits 1:0, CLKMODE in 3:2, PAIR_SIDE in 4) and whether they were stable at sampling, whether the island's self-test
passes, the inputs that its channels read closed by step 12, and whether the LPDDR4X trains. -/
structure StartUp where
  refOk : Bool
  straps : BitVec 5
  strapStable : Bool
  selfTest : Bool
  inputs : BitVec 24
  ddrTrains : Bool
deriving DecidableEq, Repr

/-- A copy of a profile (R127, Table 06-1): speeds in um/s, rates in mm/s^2. -/
structure Profile where
  vStart : Nat := 0
  vBrk : Nat := 0
  vMax : Nat := 0
  vStop : Nat := 0
  a1 : Nat := 0
  a2 : Nat := 0
  d1 : Nat := 0
  d2 : Nat := 0
deriving DecidableEq, Repr

/-- The path a vehicle message arrives on: a CAN controller, or UDP from an address and port (R320). -/
inductive Path where
  | can (ctl : Nat)
  | udp (ip port : Nat)
deriving DecidableEq, Repr

/-- One ledger record on its way to the ring (R379, R384): its header fields of Table 16-8 and its 40-byte body. -/
structure LRec where
  type : Nat
  flags : Nat
  seq : Nat
  tb : Nat
  qual : Nat
  boot : Nat
  body : List Byte
deriving DecidableEq, Repr

/-- One axis in a MIRROR frame (Table 15-2). -/
structure MirAxis where
  xpos : Int
  elec : Nat
  elecOff : Nat
  tgt : Int
  prof : Profile
  seg : Nat
  dirNeg : Bool
  /-- commanded speed, nm/s -/
  v : Nat
  /-- time spent in REV_HOLD, ns -/
  revHold : Nat
  steploss : Bool
deriving DecidableEq, Repr

/-- The header of a pair frame (Table 15-1) with what the receiver found: the lane and whether the CRC was right. -/
structure PairHdr where
  lane : Fin 2
  crcOk : Bool
  holds : Bool
  side : Bool
  epoch : Nat
  tb : Nat
deriving DecidableEq, Repr

/-- The state of a MIRROR frame (Table 15-2). -/
structure MirBody where
  /-- a full snapshot, which clears MIRROR_STALE -/
  snapshot : Bool
  /-- part of a resynchronisation: the journal, windows and ring slots sent replace the receiver's (R375) -/
  resync : Bool
  door : Nat
  doorElapsed : Nat
  doorCycle : Nat
  axes : List MirAxis
  /-- per slot: index, armed, working target, FIRE_CNT, MISSED -/
  slots : List (Nat × Bool × Int × Nat × Nat)
  /-- the words of the slots, motion sets, profile and trip registers that DOOR writes as it runs (log 71) -/
  progs : List (Nat × Word)
  d4 : Nat
  /-- per channel: interpolated position, 1/1,000 um, and POS_VALID -/
  fbk : List (Int × Bool)
  vote : Nat
  sin : Nat
  /-- MRAM stores of the cycle: journal and window entries, completions, ledger records -/
  stores : List (Nat × List Byte)
  expSeq : Option Nat
  /-- the path of the open export session (Table 14-13) -/
  expPath : Option Path
  nextSeq : Nat
  faults : List (Nat × Nat)
  tbVeh : Nat
  y : Int
  epochSet : Bool
  qual : Nat
  bound : Nat
  /-- per camera: frame number and FIDX of the last Frame Start -/
  nos : List (Nat × Nat)
  cfgCrc : Nat
  /-- CFG_CRC of copy A and copy B -/
  copyCrcs : Nat × Nat
  /-- the running configuration, in the frame that carries an apply's completion (19.10) -/
  cfg : Option (List (Nat × Word))
deriving DecidableEq, Repr

/-- A standby's MIRROR acknowledgement: the highest journal index it holds, the TB_LOCAL stamp of the last frame it applied, its health,
and the records that arose on it (R349, R368, R379). -/
structure MirAck where
  index : Option Nat
  applied : Nat
  health : Nat
  checks : Nat
  recs : List LRec
deriving DecidableEq, Repr

/-- What a MIRROR frame carries: state from the active or an acknowledgement from the standby. -/
inductive MirFrame where
  | state (b : MirBody)
  | ack (a : MirAck)
deriving DecidableEq, Repr

/-- What a HELLO frame tells (R343, R344): whether the peer meets R74 apart from the lease, its last committed journal entry, its serial
number, the highest SEQ of its ledger; and for the pair offset (R336) our own TB_LOCAL stamp it last received and how long it held it. -/
structure HelloInfo where
  candidate : Bool
  meets : Bool
  commit : Nat
  serial : Nat
  seq : Nat
  /-- PAIR_PROTO and PAIR_MIN of the running APP (R469) -/
  proto : Nat
  protoMin : Nat
  echo : Option (Nat × Nat)
deriving DecidableEq, Repr

/-- A console line that names a known command with well-formed arguments: its session, its tag in generated mode, and the CRC-32 of its
text as R402 takes it. -/
structure Ln where
  sess : Fin 6
  tag : Option Nat
  pcrc : Word
deriving DecidableEq, Repr

/-- A frame on a CAN bus: format bits, identifier (29-bit field, a base identifier in bits 28:18), DLC, data, and TB_LOCAL at its start of
frame (R277, R278, R290). -/
structure CanFrame where
  xtd : Bool
  rtr : Bool
  esi : Bool
  fdf : Bool
  brs : Bool
  id : Nat
  dlc : Nat
  data : List Byte
  sof : Nat
deriving DecidableEq, Repr

/-- An error on a CAN bus as the controller meets it (R288, ISO 11898-1:2015 fault confinement): its code (Table of CANn_STAT.ERRC), whether
in the data phase, whether the controller is transmitting; and for the exceptions of the standard: a dominant bit first after the error
flag, an ACK error of an error-passive transmitter with no dominant bit during its flag, a stuff error at a stuff bit sent recessive in
arbitration, a bit error inside an active error or overload flag, and the groups of eight further dominant bits after a flag. -/
structure CanErr where
  code : Nat
  data : Bool
  tx : Bool
  domAfterFlag : Bool
  ackPassive : Bool
  stuffArb : Bool
  inFlag : Bool
  extra : Nat
deriving DecidableEq, Repr

/-- A CSI-2 long packet as received (R218 to R220): header ECC (0 right, 1 corrected, 2 uncorrectable), virtual channel, data type, whether
the payload CRC was right, the raw pixel values (Y samples for YUV422), and whether the capture line buffer was full (R260). -/
structure CsiPacket where
  ecc : Fin 3
  vc : Fin 4
  dt : Nat
  crcOk : Bool
  pixels : List Nat
  full : Bool
deriving DecidableEq, Repr

/-- What the outputs of the safety island and the steering showed at a control-cycle boundary (R190, R193, R200, R342): the channels whose
result came late or failed its check, the outputs that read back otherwise than driven (TRACT_REL, LOCK_DRV, BRG_EN_N), whether a
self-test step failed, and the level of STEER_FB. -/
structure Boundary where
  late : BitVec 3
  mismatch : BitVec 3
  selfFail : Bool
  steerFb : Bool
deriving DecidableEq, Repr


/-- The commands and events of the block: one constructor for each row of the table. The first operand `t` of each is the
instant of the event in ns of TB_LOCAL (log 1). -/
inductive Instr where
  /-- POWER_ON_RESET (R49). -/
  | powerOnReset (t : Nat) (rails : BitVec 9)
  /-- RESET_N_RESET (R62). -/
  | resetNReset (t width : Nat)
  /-- RESET_RELEASE (R73). -/
  | resetRelease (t : Nat) (env : StartUp)
  /-- STRAP_SAMPLE (R68). -/
  | strapSample (t : Nat) (straps : BitVec 5) (stable : Bool)
  /-- REFERENCE_QUALIFY (R70). -/
  | referenceQualify (t : Nat)
  /-- REFERENCE_FAULT (R70). -/
  | referenceFault (t : Nat)
  /-- RSTMAP_PROGRAM (R62). -/
  | rstmapProgram (t : Nat) (level : Fin 4)
  /-- HOLDUP_ENERGY_UPDATE (R51). -/
  | holdupEnergyUpdate (t vsense : Nat)
  /-- SUPPLY_WARNING_ASSERT (R56). -/
  | supplyWarningAssert (t : Nat)
  /-- SUPPLY_WARNING_CLEAR (R58). -/
  | supplyWarningClear (t : Nat)
  /-- SUPPLY_HOLD (R59). -/
  | supplyHold (t : Nat)
  /-- THRESH_WRITE (R56). -/
  | threshWrite (t : Nat) (v : Word)
  /-- GATED_STORE_START (R52). -/
  | gatedStoreStart (t : Nat)
  /-- FUNCTION_RESET_REQUEST (R65). -/
  | functionResetRequest (t : Nat) (func : Fin 16)
  /-- IDLE_ACKNOWLEDGE (R65). -/
  | idleAcknowledge (t : Nat) (func : Fin 10)
  /-- FUNCTION_RESET_TIMEOUT (R65). -/
  | functionResetTimeout (t : Nat) (func : Fin 10)
  /-- RAW_TRANSITION (R78). -/
  | rawTransition (t : Nat) (ch : Fin 6) (a b : Bool)
  /-- DEFERRED_EDGE_ACCEPT (R78). -/
  | deferredEdgeAccept (t : Nat) (ch : Fin 6)
  /-- CABLE_FAULT_BEGIN (R77). -/
  | cableFaultBegin (t : Nat) (ch : Fin 6) (input : Fin 3)
  /-- CABLE_FAULT_END (R76). -/
  | cableFaultEnd (t : Nat) (ch : Fin 6) (input : Fin 3)
  /-- INDEX_PULSE (R80). -/
  | indexPulse (t : Nat) (ch : Fin 6) (hall : Bool)
  /-- INDEX_ARM (R80). -/
  | indexArm (t : Nat) (ch : Fin 6)
  /-- INDEX_DISARM (R80). -/
  | indexDisarm (t : Nat) (ch : Fin 6)
  /-- COUNT_WRITE (R82). -/
  | countWrite (t : Nat) (ch : Fin 6) (v : Word)
  /-- HALL_CHANGE (R83). -/
  | hallChange (t : Nat) (ax : Fin 4) (which : Fin 3) (magnet : Bool)
  /-- OBSERVER_UPDATE (R86). -/
  | observerUpdate (t : Nat) (ch : Fin 6)
  /-- STANDSTILL (R90). -/
  | standstill (t : Nat) (ch : Fin 6)
  /-- WHEEL_QUALIFIED (R94). -/
  | wheelQualified (t : Nat) (w : Fin 2)
  /-- WHEEL_DISAGREE (R95). -/
  | wheelDisagree (t : Nat)
  /-- DISAGREE_FAULT (R95). -/
  | disagreeFault (t : Nat)
  /-- VOTED_STANDSTILL (R96). -/
  | votedStandstill (t : Nat)
  /-- BLEND_COMPLETE (R98). -/
  | blendComplete (t : Nat)
  /-- PWC_PULSE (R100). -/
  | pwcPulse (t : Nat) (ch : Fin 6) (width : Nat)
  /-- SSI_FRAME (R101). -/
  | ssiFrame (t : Nat) (ch : Fin 6) (bits : Nat) (monoflop : Bool)
  /-- EXTRAPOLATED_FIRE (R109). -/
  | extrapolatedFire (t : Nat) (slot : Fin 64)
  /-- VEHICLE_TIME_FIRE (R107). -/
  | vehicleTimeFire (t : Nat) (slot : Fin 64)
  /-- PIN_PULSE_END (R114). -/
  | pinPulseEnd (t : Nat) (gpio : Fin 8)
  /-- SLOT_ARM (R118). -/
  | slotArm (t : Nat) (slot : Fin 64)
  /-- SLOT_DISARM (R111). -/
  | slotDisarm (t : Nat) (slot : Fin 64)
  /-- D4_SET (R108). -/
  | d4Set (t : Nat) (v : Word)
  /-- LATCH_FIFO_POP (R116). -/
  | latchFifoPop (t : Nat)
  /-- CONTROL_CYCLE_BOUNDARY (R13). -/
  | controlCycleBoundary (t : Nat) (b : Boundary)
  /-- PROFILE_TICK (R131). -/
  | profileTick (t : Nat)
  /-- MOT_START (R128). -/
  | motStart (t : Nat) (ax : Fin 4) (set : Fin 64)
  /-- MOT_STOP (R133). -/
  | motStop (t : Nat) (ax : Fin 4)
  /-- MOT_EMERG (R134). -/
  | motEmerg (t : Nat) (ax : Fin 4)
  /-- MOT_HALT (R135). -/
  | motHalt (t : Nat) (ax : Fin 4)
  /-- MOT_REREF (R137). -/
  | motReref (t : Nat) (ax : Fin 4)
  /-- TRIP_INPUT (R134). -/
  | tripInput (t : Nat) (ax : Fin 4) (src : Fin 4)
  /-- REV_HOLD_END (R131). -/
  | revHoldEnd (t : Nat) (ax : Fin 4)
  /-- HOLD_SCALE (R140). -/
  | holdScale (t : Nat) (ax : Fin 4)
  /-- STALL (R142). -/
  | stall (t : Nat) (ax : Fin 4)
  /-- CHOPPER_CYCLE_START (R148). -/
  | chopperCycleStart (t : Nat) (ax : Fin 4) (ph : Fin 2)
  /-- BLANKING_END (R149). -/
  | blankingEnd (t : Nat) (ax : Fin 4) (ph : Fin 2) (i : Int)
  /-- ON_STATE_END (R151). -/
  | onStateEnd (t : Nat) (ax : Fin 4) (ph : Fin 2) (i : Int)
  /-- OFF_PHASE_END (R152). -/
  | offPhaseEnd (t : Nat) (ax : Fin 4) (ph : Fin 2) (i mean : Int)
  /-- FORCE_TRIP (R157). -/
  | forceTrip (t : Nat) (ax : Fin 4)
  /-- FORCE_CAL (R158). -/
  | forceCal (t : Nat) (ax : Fin 4)
  /-- FORCE_FIT_END (R158). -/
  | forceFitEnd (t : Nat) (ax : Fin 4)
  /-- CLR_OFS (R153). -/
  | clrOfs (t : Nat) (ax : Fin 4)
  /-- BRIDGE_ENABLE_LOSS (R145). -/
  | bridgeEnableLoss (t : Nat) (ax : Fin 4)
  /-- OVERCURRENT (R159). -/
  | overcurrent (t : Nat) (ax : Fin 4) (ph : Fin 2)
  /-- OPEN_PHASE (R159). -/
  | openPhase (t : Nat) (ax : Fin 4) (ph : Fin 2)
  /-- ADC_CHECK (R159). -/
  | adcCheck (t : Nat) (ax : Fin 4) (offset : Int) (refErr : Nat)
  /-- CURRENT_SAG (R159). -/
  | currentSag (t : Nat) (ax : Fin 4) (ph : Fin 2)
  /-- WARNING_TIME_ELAPSED (R169). -/
  | warningTimeElapsed (t : Nat)
  /-- REWARN_ELAPSED (R170). -/
  | rewarnElapsed (t : Nat)
  /-- OPEN_TIMEOUT (R165). -/
  | openTimeout (t : Nat)
  /-- CLOSE_TIMEOUT (R165). -/
  | closeTimeout (t : Nat)
  /-- RECLOSE_ELAPSED (R165). -/
  | recloseElapsed (t : Nat)
  /-- LOCK_TIMEOUT (R175). -/
  | lockTimeout (t : Nat)
  /-- LEAF_OVERSPEED (R179). -/
  | leafOverspeed (t : Nat) (leaf : Fin 2)
  /-- PULSED_INPUT_CHECK (R184). -/
  | pulsedInputCheck (t : Nat) (tpo : Fin 4) (a b c : BitVec 24) (tpoOk : Bool)
  /-- STATIC_INPUT_CHANGE (R185). -/
  | staticInputChange (t : Nat) (input : Fin 24) (closed : BitVec 3)
  /-- DUAL_INPUT_DISCREPANCY (R187). -/
  | dualInputDiscrepancy (t : Nat) (pair : Fin 2)
  /-- INPUT_UNCHANGED (R188). -/
  | inputUnchanged (t : Nat) (input : Fin 24)
  /-- PUSHBUTTON_POST (R189). -/
  | pushbuttonPost (t : Nat) (input : Fin 24)
  /-- BRIDGE_STOP_TIMEOUT (R197). -/
  | bridgeStopTimeout (t : Nat)
  /-- SPEED_VETO_FAULT (R199). -/
  | speedVetoFault (t : Nat)
  /-- GRID_AGE_TIMEOUT (R209). -/
  | gridAgeTimeout (t : Nat) (cam : Fin 2)
  /-- VISION_ABSENT_END (R209). -/
  | visionAbsentEnd (t : Nat)
  /-- FRAME_START (R221). -/
  | frameStart (t : Nat) (cam : Fin 2) (fn : Nat)
  /-- LONG_PACKET (R220). -/
  | longPacket (t : Nat) (cam : Fin 2) (p : CsiPacket)
  /-- FRAME_END (R226). -/
  | frameEnd (t : Nat) (cam : Fin 2)
  /-- STREAM_LOSS (R223). -/
  | streamLoss (t : Nat) (cam : Fin 2)
  /-- NOS_ENABLE (R240). -/
  | nosEnable (t : Nat)
  /-- LPDDR4X_TRAINING_END (R261). -/
  | lpddr4xTrainingEnd (t : Nat) (ok : Bool) (attempts : Nat)
  /-- JOB_DISPATCH (R230). -/
  | jobDispatch (t : Nat) (clu : Fin 4)
  /-- CONV (R235). -/
  | conv (t : Nat) (clu : Fin 4)
  /-- DWCONV (R235). -/
  | dwconv (t : Nat) (clu : Fin 4)
  /-- POOL (R235). -/
  | pool (t : Nat) (clu : Fin 4)
  /-- ADD (R235). -/
  | add (t : Nat) (clu : Fin 4)
  /-- MUL (R235). -/
  | mul (t : Nat) (clu : Fin 4)
  /-- ACT (R235). -/
  | act (t : Nat) (clu : Fin 4)
  /-- RESIZE (R235). -/
  | resize (t : Nat) (clu : Fin 4)
  /-- CONCAT (R235). -/
  | concat (t : Nat) (clu : Fin 4)
  /-- WARP (R235). -/
  | warp (t : Nat) (clu : Fin 4)
  /-- DIFF (R235). -/
  | diff (t : Nat) (clu : Fin 4)
  /-- REGSUM (R235). -/
  | regsum (t : Nat) (clu : Fin 4)
  /-- THRESH (R235). -/
  | thresh (t : Nat) (clu : Fin 4)
  /-- JOB_END (R241). -/
  | jobEnd (t : Nat) (clu : Fin 4)
  /-- JOB_OVERRUN (R228). -/
  | jobOverrun (t : Nat) (clu : Fin 4)
  /-- CLUSTER_ECC_ERROR (R244). -/
  | clusterEccError (t : Nat) (clu : Fin 4)
  /-- L2_READ (R249). -/
  | l2Read (t : Nat) (agent : Fin 6) (off len : Nat) (ecc : Fin 4)
  /-- L2_WRITE (R249). -/
  | l2Write (t : Nat) (agent : Fin 6) (off : Nat) (bytes : List Byte) (ecc : Fin 4)
  /-- FILL_COMPLETE (R252). -/
  | fillComplete (t : Nat) (off : Nat)
  /-- GETS (R258). -/
  | getS (t : Nat) (who : Fin 5) (off : Nat)
  /-- WT (R258). -/
  | wt (t : Nat) (who : Fin 4) (off : Nat) (bytes : List Byte)
  /-- GETM (R258). -/
  | getM (t : Nat) (off : Nat)
  /-- PUTM (R258). -/
  | putM (t : Nat) (off : Nat) (bytes : List Byte)
  /-- INV (R258). -/
  | inv (t : Nat) (who : Fin 5) (off : Nat)
  /-- INVACK (R258). -/
  | invAck (t : Nat) (who : Fin 5) (off : Nat)
  /-- RECALL (R258). -/
  | recall (t : Nat) (off : Nat)
  /-- RECALLDATA (R258). -/
  | recallData (t : Nat) (off : Nat) (bytes : List Byte)
  /-- APP_COHERENCE_TIMEOUT (R258). -/
  | appCoherenceTimeout (t : Nat) (off : Nat)
  /-- PARTITION_RECONFIG (R256). -/
  | partitionReconfig (t : Nat) (p : Fin 5) (v : Word)
  /-- VMC_WRITE_BACK (R267). -/
  | vmcWriteBack (t : Nat) (p : Fin 5)
  /-- VMC_WRITE_BACK_INVALIDATE (R267). -/
  | vmcWriteBackInvalidate (t : Nat) (p : Fin 5)
  /-- PMC_CLEAR (R266). -/
  | pmcClear (t : Nat) (k : Fin 8) (v : Word)
  /-- CAN_FRAME_RECEIVED (R280). -/
  | canFrameReceived (t : Nat) (ctl : Fin 3) (f : CanFrame) (eccC : Nat) (eccU : Option (Fin 128))
  /-- CAN_FRAME_TRANSMITTED (R284). -/
  | canFrameTransmitted (t : Nat) (ctl : Fin 3) (sof : Nat) (loop : Option Nat) (eccU : Bool)
  /-- ARBITRATION_LOST (R284). -/
  | arbitrationLost (t : Nat) (ctl : Fin 3)
  /-- CAN_BUS_ERROR (R288). -/
  | canBusError (t : Nat) (ctl : Fin 3) (e : CanErr)
  /-- BUS_OFF_RECOVERY (R289). -/
  | busOffRecovery (t : Nat) (ctl : Fin 3)
  /-- TX_GO (R283). -/
  | txGo (t : Nat) (ctl : Fin 3) (v : Word)
  /-- TX_ABORT (R285). -/
  | txAbort (t : Nat) (ctl : Fin 3) (v : Word) (started : Bool)
  /-- INIT_REQUEST (R273). -/
  | initRequest (t : Nat) (ctl : Fin 3) (busy : Bool)
  /-- INIT_ENTERED (R273). -/
  | initEntered (t : Nat) (ctl : Fin 3)
  /-- INIT_CLEAR (R271). -/
  | initClear (t : Nat) (ctl : Fin 3)
  /-- MODE_CHANGE (R274). -/
  | modeChange (t : Nat) (ctl : Fin 3)
  /-- FIFO_RELEASE (R281). -/
  | fifoRelease (t : Nat) (ctl : Fin 3) (m : Fin 2) (v : Word)
  /-- TEV_RELEASE (R287). -/
  | tevRelease (t : Nat) (ctl : Fin 3) (v : Word)
  /-- BUFFER_LOCK (R282). -/
  | bufferLock (t : Nat) (ctl : Fin 3) (k : Fin 32)
  /-- BUFFER_RELEASE (R282). -/
  | bufferRelease (t : Nat) (ctl : Fin 3) (k : Fin 32)
  /-- BUFFER_UNLOCK (R282). -/
  | bufferUnlock (t : Nat) (ctl : Fin 3) (v : Word)
  /-- TIMESTAMP_WRAP (R290). -/
  | timestampWrap (t : Nat) (ctl : Fin 3)
  /-- ETH_FRAME_RECEIVED (R296). -/
  | ethFrameReceived (t : Nat) (port : Fin 2) (fcsOk : Bool) (frame : List Byte)
  /-- LINK_STATUS_CHANGE (R295). -/
  | linkStatusChange (t : Nat) (port : Fin 2) (up : Bool) (speed : Fin 3)
  /-- ADDRESS_AGE_OUT (R296). -/
  | addressAgeOut (t mac : Nat)
  /-- ARP_REQUEST (R299). -/
  | arpRequest (t : Nat) (port : Fin 2) (mac ip : Nat)
  /-- ICMP_ECHO (R299). -/
  | icmpEcho (t src dst : Nat) (data : List Byte)
  /-- UDP_DATAGRAM (R316). -/
  | udpDatagram (t src sport dst : Nat) (checksum : Bool) (data : List Byte)
  /-- TCP_CONNECT (R390). -/
  | tcpConnect (t ip port : Nat)
  /-- TCP_CLOSE (R390). -/
  | tcpClose (t : Nat) (k : Fin 4)
  /-- CON_IDLE_TIMEOUT (R390). -/
  | conIdleTimeout (t : Nat) (k : Fin 4)
  /-- SYNC_RECEIVED (R304). -/
  | syncReceived (t : Nat) (port : Fin 2) (domain ingress origin : Nat) (logInterval : Fin 6)
  /-- ANNOUNCE_RECEIVED (R303). -/
  | announceReceived (t : Nat) (port : Fin 2) (domain gm interval : Nat)
  /-- PDELAY_REQ_SEND (R303). -/
  | pdelayReqSend (t : Nat)
  /-- PDELAY_REQ_RECEIVED (R303). -/
  | pdelayReqReceived (t : Nat) (port : Fin 2) (ingress : Nat)
  /-- PDELAY_RESP_RECEIVED (R303). -/
  | pdelayRespReceived (t : Nat) (port : Fin 2) (receipt origin ingress : Nat)
  /-- RECEIPT_TIMEOUT (R304). -/
  | receiptTimeout (t : Nat)
  /-- REFERENCE_QUALIFIED (R304). -/
  | referenceQualified (t : Nat)
  /-- SERVO_SATURATION (R308). -/
  | servoSaturation (t : Nat)
  /-- ETHS_SELECTION_RESUME (R308). -/
  | ethsSelectionResume (t : Nat)
  /-- PPS_START (R311). -/
  | ppsStart (t : Nat)
  /-- PPS_END (R311). -/
  | ppsEnd (t : Nat)
  /-- DOOR_CMD (R319). -/
  | doorCmd (t : Nat) (path : Path) (addr : Nat) (data : List Byte)
  /-- DOOR_STATUS (R324). -/
  | doorStatus (t : Nat)
  /-- INTERLOCK_STATUS (R325). -/
  | interlockStatus (t : Nat)
  /-- EXPORT_START (R330). -/
  | exportStart (t : Nat) (path : Path) (addr : Nat) (data : List Byte)
  /-- EXPORT_ACKN (R331). -/
  | exportAckn (t : Nat) (path : Path) (addr : Nat) (data : List Byte)
  /-- EXPORT_STOP (R332). -/
  | exportStop (t : Nat) (path : Path) (addr : Nat) (data : List Byte)
  /-- EXPORT_DATA_SEND (R331). -/
  | exportDataSend (t : Nat)
  /-- EXPORT_RETRANSMIT (R332). -/
  | exportRetransmit (t : Nat)
  /-- SPEED_IN (R327). -/
  | speedIn (t : Nat) (path : Path) (id : Nat) (data : List Byte)
  /-- VEH_TIME (R328). -/
  | vehTime (t : Nat) (ctl : Fin 3) (id sof : Nat) (data : List Byte)
  /-- OCCUPANCY_DISCARD (R329). -/
  | occupancyDiscard (t : Nat)
  /-- RENEW (R339). -/
  | renew (t : Nat) (h : PairHdr)
  /-- MIRROR (R346). -/
  | mirror (t : Nat) (h : PairHdr) (f : MirFrame)
  /-- HEALTH (R349). -/
  | health (t : Nat) (h : PairHdr) (state checks : Nat)
  /-- HELLO (R343). -/
  | hello (t : Nat) (h : PairHdr) (i : HelloInfo)
  /-- HO_REQ (R357). -/
  | hoReq (t : Nat) (h : PairHdr)
  /-- HO_ACK (R357). -/
  | hoAck (t : Nat) (h : PairHdr)
  /-- TRANSFER (R357). -/
  | transfer (t : Nat) (h : PairHdr)
  /-- SAFE (R360). -/
  | safe (t : Nat) (h : PairHdr)
  /-- LEASE_RENEWAL (R338). -/
  | leaseRenewal (t : Nat)
  /-- LEASE_RELEASE (R338). -/
  | leaseRelease (t : Nat)
  /-- LEASE_EXPIRY (R351). -/
  | leaseExpiry (t : Nat)
  /-- LEASE_IN_TOGGLING (R340). -/
  | leaseInToggling (t : Nat)
  /-- LEASE_IN_STOPPED (R340). -/
  | leaseInStopped (t : Nat)
  /-- STEER_TIMEOUT (R342). -/
  | steerTimeout (t : Nat)
  /-- PAIR_LINK_DOWN (R335). -/
  | pairLinkDown (t : Nat)
  /-- HELLO_SEND (R336). -/
  | helloSend (t : Nat)
  /-- ELECT_WAIT_EXPIRY (R343). -/
  | electWaitExpiry (t : Nat)
  /-- HEALTH_SEND (R349). -/
  | healthSend (t : Nat)
  /-- PAIR_HEALTH (R350). -/
  | pairHealth (t : Nat)
  /-- MIRROR_MISSED (R346). -/
  | mirrorMissed (t : Nat)
  /-- HO_GO (R356). -/
  | hoGo (t : Nat)
  /-- HO_ACK_TIMEOUT (R356). -/
  | hoAckTimeout (t : Nat)
  /-- SPLIT_RETRY (R358). -/
  | splitRetry (t : Nat)
  /-- MIRROR_CONFIRM_TIMEOUT (R370). -/
  | mirrorConfirmTimeout (t : Nat) (slot : Fin 4096)
  /-- RESYNCHRONISATION_END (R375). -/
  | resynchronisationEnd (t : Nat)
  /-- LEDGER_RECORD_STORE (R382). -/
  | ledgerRecordStore (t : Nat)
  /-- STATE_CELL_WRITE (R385). -/
  | stateCellWrite (t : Nat)
  /-- TYPED_EDIT (R393). -/
  | typedEdit (t : Nat) (s : Fin 6) (bytes : List Byte)
  /-- ROLE_IDLE_TIMEOUT (R409). -/
  | roleIdleTimeout (t : Nat) (s : Fin 6)
  /-- AUTH_LOCK_END (R408). -/
  | authLockEnd (t : Nat) (s : Fin 6)
  /-- HELP (R413). -/
  | help (t : Nat) (l : Ln) (family : Option String)
  /-- PING (R413). -/
  | ping (t : Nat) (l : Ln)
  /-- MODE_GEN (R394). -/
  | modeGen (t : Nat) (l : Ln)
  /-- MODE_TYPED (R394). -/
  | modeTyped (t : Nat) (l : Ln)
  /-- SUB (R404). -/
  | sub (t : Nat) (l : Ln) (kind : String) (on : Bool)
  /-- ROLE (R407). -/
  | role (t : Nat) (l : Ln) (operate : Bool)
  /-- AUTH (R408). -/
  | auth (t : Nat) (l : Ln)
  /-- AUTH_RESP (R408). -/
  | authResp (t : Nat) (l : Ln) (resp : List Byte)
  /-- GET (R419). -/
  | get_ (t : Nat) (l : Ln) (names : List String) (pending_ : Bool)
  /-- SET (R420). -/
  | set_ (t : Nat) (l : Ln) (items : List (String × Int))
  /-- SET_REL_HOLD (R421). -/
  | setRelHold (t : Nat) (l : Ln) (on : Bool)
  /-- CONFIG_SHOW (R422). -/
  | configShow (t : Nat) (l : Ln) (layer : Fin 4)
  /-- CONFIG_CRC (R437). -/
  | configCrc (t : Nat) (l : Ln)
  /-- CONFIG_APPLY (R441). -/
  | configApply (t : Nat) (l : Ln)
  /-- CONFIG_SAVE (R439). -/
  | configSave (t : Nat) (l : Ln)
  /-- CONFIG_REVERT (R420). -/
  | configRevert (t : Nat) (l : Ln)
  /-- CONFIG_FACTORY (R420). -/
  | configFactory (t : Nat) (l : Ln)
  /-- DOOR_OPEN (R423). -/
  | doorOpen (t : Nat) (l : Ln) (ramp : Bool)
  /-- DOOR_CLOSE (R423). -/
  | doorClose (t : Nat) (l : Ln)
  /-- DOOR_RELEASE (R423). -/
  | doorRelease (t : Nat) (l : Ln)
  /-- DOOR_UNRELEASE (R423). -/
  | doorUnrelease (t : Nat) (l : Ln)
  /-- DOOR_RESET (R423). -/
  | doorReset (t : Nat) (l : Ln)
  /-- DOOR_ISOLATE (R423). -/
  | doorIsolate (t : Nat) (l : Ln)
  /-- DOOR_UNISOLATE (R423). -/
  | doorUnisolate (t : Nat) (l : Ln)
  /-- DOOR_STATUS_QUERY (R423). -/
  | doorStatusQuery (t : Nat) (l : Ln)
  /-- DOOR_MEAS (R423). -/
  | doorMeas (t : Nat) (l : Ln)
  /-- AXIS_STATUS (R413). -/
  | axisStatus (t : Nat) (l : Ln) (n : Nat)
  /-- AXIS_START (R424). -/
  | axisStart (t : Nat) (l : Ln) (n set : Nat)
  /-- AXIS_STOP (R425). -/
  | axisStop (t : Nat) (l : Ln) (n : Nat)
  /-- AXIS_EMERG (R425). -/
  | axisEmerg (t : Nat) (l : Ln) (n : Nat)
  /-- AXIS_HALT (R425). -/
  | axisHalt (t : Nat) (l : Ln) (n : Nat)
  /-- AXIS_REREF (R137). -/
  | axisReref (t : Nat) (l : Ln) (n : Nat)
  /-- CUR_STATUS (R413). -/
  | curStatus (t : Nat) (l : Ln) (n : Nat)
  /-- CUR_CAL (R158). -/
  | curCal (t : Nat) (l : Ln) (n : Nat)
  /-- CUR_CLROFS (R153). -/
  | curClrofs (t : Nat) (l : Ln) (n : Nat)
  /-- FBK_STATUS (R413). -/
  | fbkStatus (t : Nat) (l : Ln) (n : Nat)
  /-- FBK_ARM (R80). -/
  | fbkArm (t : Nat) (l : Ln) (n : Nat)
  /-- FBK_DISARM (R80). -/
  | fbkDisarm (t : Nat) (l : Ln) (n : Nat)
  /-- FBK_COUNT (R82). -/
  | fbkCount (t : Nat) (l : Ln) (n : Nat) (v : Int)
  /-- FBK_WHEEL (R413). -/
  | fbkWheel (t : Nat) (l : Ln)
  /-- DOM_STATUS (R413). -/
  | domStatus (t : Nat) (l : Ln)
  /-- DOM_SLOT (R413). -/
  | domSlot (t : Nat) (l : Ln) (n : Nat)
  /-- DOM_ARM (R112). -/
  | domArm (t : Nat) (l : Ln) (n : Nat)
  /-- DOM_DISARM (R111). -/
  | domDisarm (t : Nat) (l : Ln) (n : Nat)
  /-- DOM_D4 (R105). -/
  | domD4 (t : Nat) (l : Ln) (v : Int)
  /-- DOM_LF (R116). -/
  | domLf (t : Nat) (l : Ln)
  /-- DOM_LF_POP (R116). -/
  | domLfPop (t : Nat) (l : Ln)
  /-- VISION_STATUS (R426). -/
  | visionStatus (t : Nat) (l : Ln)
  /-- VISION_CAM (R426). -/
  | visionCam (t : Nat) (l : Ln) (n : Nat)
  /-- VISION_TENANT (R426). -/
  | visionTenant (t : Nat) (l : Ln) (n : Nat)
  /-- VISION_GRID (R426). -/
  | visionGrid (t : Nat) (l : Ln) (cam tenant : Nat)
  /-- VISION_TENANT_START (R426). -/
  | visionTenantStart (t : Nat) (l : Ln) (n : Nat)
  /-- VISION_TENANT_STOP (R426). -/
  | visionTenantStop (t : Nat) (l : Ln) (n : Nat)
  /-- CAN_STATUS (R413). -/
  | canStatus (t : Nat) (l : Ln) (n : Nat)
  /-- CAN_MODE (R274). -/
  | canMode (t : Nat) (l : Ln) (n : Nat) (mode : Fin 3)
  /-- CAN_INIT (R273). -/
  | canInit (t : Nat) (l : Ln) (n : Nat) (on : Bool)
  /-- ETH_STATUS (R413). -/
  | ethStatus (t : Nat) (l : Ln)
  /-- ETH_PORT (R413). -/
  | ethPort (t : Nat) (l : Ln) (n : Nat)
  /-- TIME_STATUS (R413). -/
  | timeStatus (t : Nat) (l : Ln)
  /-- TIME_NOW (R413). -/
  | timeNow (t : Nat) (l : Ln)
  /-- PAIR_STATUS (R413). -/
  | pairStatus (t : Nat) (l : Ln)
  /-- PAIR_HEALTH_QUERY (R413). -/
  | pairHealthQuery (t : Nat) (l : Ln)
  /-- PAIR_HANDOVER (R427). -/
  | pairHandover (t : Nat) (l : Ln)
  /-- QUEUE (R413). -/
  | queue (t : Nat) (l : Ln) (q : Nat)
  /-- QUEUE_KEY (R403). -/
  | queueKey (t : Nat) (l : Ln) (q key : Nat)
  /-- FAULT_LIST (R413). -/
  | faultList (t : Nat) (l : Ln)
  /-- FAULT_ACK (R486). -/
  | faultAck (t : Nat) (l : Option Ln) (code : Nat)
  /-- LEDGER_STATUS (R428). -/
  | ledgerStatus (t : Nat) (l : Ln)
  /-- LEDGER_READ (R428). -/
  | ledgerRead (t : Nat) (l : Ln) (seq count : Nat)
  /-- LEDGER_ACK (R429). -/
  | ledgerAck (t : Nat) (l : Ln) (seq : Nat)
  /-- UPDATE_STATUS (R430). -/
  | updateStatus (t : Nat) (l : Ln) (img : Option Nat)
  /-- UPDATE_BEGIN (R457). -/
  | updateBegin (t : Nat) (l : Ln) (img slot size : Nat)
  /-- UPDATE_DATA (R458). -/
  | updateData (t : Nat) (l : Ln) (off : Nat) (bytes : List Byte) (fails : Fin 3)
  /-- UPDATE_VERIFY (R460). -/
  | updateVerify (t : Nat) (l : Ln) (img slot : Nat)
  /-- VERIFICATION_END (R460). -/
  | verificationEnd (t : Nat)
  /-- UPDATE_ACTIVATE (R463). -/
  | updateActivate (t : Nat) (l : Ln) (img slot : Nat)
  /-- TRIAL_TIME_STORE (R467). -/
  | trialTimeStore (t : Nat)
  /-- TRIAL_TIME_LIMIT (R467). -/
  | trialTimeLimit (t : Nat)
  /-- UPDATE_CONFIRM (R468). -/
  | updateConfirm (t : Nat) (l : Ln) (img : Nat)
  /-- UPDATE_ABORT (R430). -/
  | updateAbort (t : Nat) (l : Ln) (img slot : Nat)
  /-- SELF_RESET_PULSE (R465). -/
  | selfResetPulse (t : Nat)
  /-- BOOT_BEGIN (R471). -/
  | bootBegin (t : Nat) (seq : Fin 256) (size : Nat)
  /-- BOOT_DATA (R471). -/
  | bootData (t : Nat) (seq : Fin 256) (off : Nat) (bytes : List Byte)
  /-- BOOT_VERIFY (R471). -/
  | bootVerify (t : Nat) (seq : Fin 256)
  /-- BOOT_RUN (R471). -/
  | bootRun (t : Nat) (seq : Fin 256)
  /-- RESET_FUNCTION (R432). -/
  | resetFunction (t : Nat) (l : Ln) (func : Fin 10)
  /-- SYS_INFO (R413). -/
  | sysInfo (t : Nat) (l : Ln)
  /-- SYS_CAUSE (R413). -/
  | sysCause (t : Nat) (l : Ln)
  /-- SYS_CAUSE_CLEAR (R64). -/
  | sysCauseClear (t : Nat) (l : Ln) (mask : Nat)
  /-- SYS_FRST (R413). -/
  | sysFrst (t : Nat) (l : Ln)
  /-- SYS_SUPPLY (R413). -/
  | sysSupply (t : Nat) (l : Ln)
  /-- FAULT_TAKE (R476). -/
  | faultTake (t : Nat)
  /-- FAULT_HANDLING_END (R478). -/
  | faultHandlingEnd (t : Nat)
  /-- EVENT_FAULT_CLEAR (R486). -/
  | eventFaultClear (t code : Nat)
  /-- COALESCED_RECORD (R479). -/
  | coalescedRecord (t code : Nat)
  /-- SNAPSHOT_READ (R494). -/
  | snapshotRead (t : Nat) (who : Fin 7) (addr : Nat)
  /-- BUS_ERROR_ACCESS (R493). -/
  | busErrorAccess (t : Nat) (addr width : Nat) (write : Bool)
  /-- REGISTER_WRITE (R9). -/
  | registerWrite (t addr : Nat) (v : Word)
  /-- MOTU_DEFERRAL_TIMEOUT (R25). -/
  | motuDeferralTimeout (t : Nat)
  /-- MOT_RESET_START_TIMEOUT (R483). -/
  | motResetStartTimeout (t : Nat)
  /-- VEH_TIME_GAP (R304). -/
  | vehTimeGap (t : Nat)
  /-- SYMBOL_LOCK_LOSS (R335). -/
  | symbolLockLoss (t : Nat) (lane : Fin 2)
  /-- BUS_SYNCHRONISATION (R273). -/
  | busSynchronisation (t : Nat) (ctl : Fin 3)
  /-- MALFORMED_LINE (R397). -/
  | malformedLine (t : Nat) (s : Fin 6) (bytes : List Byte) (framing full : Bool)
deriving DecidableEq, Repr

end Sys2Proof
end

