-- ==== Sys2Proof/Config.lean ====
section
/-! DEFINITION. What an implementation or the world outside fixes and the spec leaves open: free values without a body
(logs 10 to 13), so that no statement can rest on one of their values. -/

namespace Sys2Proof.Config

/-- Whether a RESET_N pulse of 100 ns to 1 us starts a reset (R40: not defined); read at the free-value counter. -/
opaque resetPulse : Nat → Bool

/-- The strap levels latched while a strap was changing in its sampling window (R513 does not state them). -/
opaque strapSample : Nat → BitVec 5

/-- A true-random byte: the 128-bit challenges of R408. -/
opaque randomByte : Nat → BitVec 8

/-- The way of an L2 set that pseudo-LRU replaces (the spec does not give its tree): the way for a set and a count. -/
opaque victimWay : Nat → Nat

/-- The error number of a request that R166 calls superseded; the spec gives none. -/
opaque supersededCode : BitVec 16

/-- A value the spec calls undefined or does not state; read at the free-value counter. -/
opaque freeWord : Nat → Nat

end Sys2Proof.Config
end

