-- ==== Sys2Proof/Machine/RegMap.lean ====
section
/-! DEFINITION. Every register of the chip at its address, every field with its bits and access code, and every reset value
(spec/22_register_index.md R491, R500, Tables 22-4 to 22-8, and the register sections of the block chapters). -/

namespace Sys2Proof.Machine

/-- A field of a register: the register's address, the field's lowest bit and its width. -/
structure Fld where
  addr : Nat
  lo : Nat
  w : Nat
deriving DecidableEq, Repr

/-- The access codes of Table 00-3 (R9). -/
inductive Access where
  | rw | ro | wo | w1c | rws
deriving DecidableEq, Repr

/-- One field of a register row: name, what follows the register's head and index in its console name (R418) in short and with the
register's own part, lowest bit, width, access, least and greatest value a write may set, and whether the field is signed. -/
structure FieldRow where
  name : String
  short : String
  long : String
  lo : Nat
  w : Nat
  acc : Access
  min : Nat
  max : Nat
  sgn : Bool
deriving DecidableEq, Repr

/-- `n` registers of one layout: the first one's address, how many, and the distance between two of them. -/
structure RegRow where
  blk : String
  name : String
  /-- The console name up to the index, and whether an index follows (R418). -/
  head : String
  indexed : Bool
  addr : Nat
  n : Nat
  stride : Nat
  fields : List FieldRow
deriving DecidableEq, Repr


/-! ### SUP (spec/03_power_reset_boot.md 03.8) -/

/-- The address of SUP_VSENSE_CFG. -/
abbrev SUP_VSENSE_CFG_REG : Nat := 0x40020000
abbrev SUP_VSENSE_CFG_THRESH_MV : Fld := ⟨SUP_VSENSE_CFG_REG, 0, 11⟩
abbrev SUP_VSENSE_CFG_CFG_ERR : Fld := ⟨SUP_VSENSE_CFG_REG, 16, 1⟩
/-- The address of SUP_STATUS. -/
abbrev SUP_STATUS_REG : Nat := 0x40020004
abbrev SUP_STATUS_WARN : Fld := ⟨SUP_STATUS_REG, 0, 1⟩
abbrev SUP_STATUS_HOLD : Fld := ⟨SUP_STATUS_REG, 1, 1⟩
abbrev SUP_STATUS_STORE_GATED : Fld := ⟨SUP_STATUS_REG, 2, 1⟩
abbrev SUP_STATUS_VSENSE_MV : Fld := ⟨SUP_STATUS_REG, 16, 12⟩
/-- The address of SUP_DIP_COUNT. -/
abbrev SUP_DIP_COUNT_REG : Nat := 0x40020008
abbrev SUP_DIP_COUNT_COUNT : Fld := ⟨SUP_DIP_COUNT_REG, 0, 32⟩
/-- The address of SUP_DIP_LAST. -/
abbrev SUP_DIP_LAST_REG : Nat := 0x4002000C
abbrev SUP_DIP_LAST_MIN_MV : Fld := ⟨SUP_DIP_LAST_REG, 0, 12⟩
abbrev SUP_DIP_LAST_HOLD : Fld := ⟨SUP_DIP_LAST_REG, 15, 1⟩
abbrev SUP_DIP_LAST_DUR_MS : Fld := ⟨SUP_DIP_LAST_REG, 16, 16⟩
/-- The address of SUP_HOLDUP_CFG0. -/
abbrev SUP_HOLDUP_CFG0_REG : Nat := 0x40020010
abbrev SUP_HOLDUP_CFG0_C_HOLD : Fld := ⟨SUP_HOLDUP_CFG0_REG, 0, 16⟩
abbrev SUP_HOLDUP_CFG0_DIV : Fld := ⟨SUP_HOLDUP_CFG0_REG, 16, 16⟩
/-- The address of SUP_HOLDUP_CFG1. -/
abbrev SUP_HOLDUP_CFG1_REG : Nat := 0x40020014
abbrev SUP_HOLDUP_CFG1_V_MIN : Fld := ⟨SUP_HOLDUP_CFG1_REG, 0, 12⟩
abbrev SUP_HOLDUP_CFG1_EFF : Fld := ⟨SUP_HOLDUP_CFG1_REG, 12, 7⟩
abbrev SUP_HOLDUP_CFG1_P_LOAD : Fld := ⟨SUP_HOLDUP_CFG1_REG, 24, 8⟩
/-- The address of SUP_HOLDUP_E. -/
abbrev SUP_HOLDUP_E_REG : Nat := 0x40020018
abbrev SUP_HOLDUP_E_E_AVAIL_UJ : Fld := ⟨SUP_HOLDUP_E_REG, 0, 24⟩
/-- The address of SUP_CAPCHK. -/
abbrev SUP_CAPCHK_REG : Nat := 0x4002001C
abbrev SUP_CAPCHK_C_MEAS : Fld := ⟨SUP_CAPCHK_REG, 0, 16⟩
abbrev SUP_CAPCHK_LOW : Fld := ⟨SUP_CAPCHK_REG, 16, 1⟩

/-! ### SYS (spec/03_power_reset_boot.md 03.8) -/

/-- The address of SYS_RST_CAUSE. -/
abbrev SYS_RST_CAUSE_REG : Nat := 0x40000000
abbrev SYS_RST_CAUSE_POR : Fld := ⟨SYS_RST_CAUSE_REG, 0, 1⟩
abbrev SYS_RST_CAUSE_RESETN : Fld := ⟨SYS_RST_CAUSE_REG, 1, 1⟩
abbrev SYS_RST_CAUSE_POR_RAIL : Fld := ⟨SYS_RST_CAUSE_REG, 8, 9⟩
abbrev SYS_RST_CAUSE_LAST_LEVEL : Fld := ⟨SYS_RST_CAUSE_REG, 24, 2⟩
/-- The address of SYS_STRAP. -/
abbrev SYS_STRAP_REG : Nat := 0x40000004
abbrev SYS_STRAP_BOOT : Fld := ⟨SYS_STRAP_REG, 0, 2⟩
abbrev SYS_STRAP_CLKMODE : Fld := ⟨SYS_STRAP_REG, 2, 2⟩
abbrev SYS_STRAP_SIDE : Fld := ⟨SYS_STRAP_REG, 4, 1⟩
/-- The address of SYS_CLK_STAT. -/
abbrev SYS_CLK_STAT_REG : Nat := 0x40000008
abbrev SYS_CLK_STAT_REF_OK : Fld := ⟨SYS_CLK_STAT_REG, 0, 1⟩
abbrev SYS_CLK_STAT_PLL_MAIN_LOCK : Fld := ⟨SYS_CLK_STAT_REG, 1, 1⟩
abbrev SYS_CLK_STAT_PLL_TB_LOCK : Fld := ⟨SYS_CLK_STAT_REG, 2, 1⟩
abbrev SYS_CLK_STAT_SAFE_CLK_OK : Fld := ⟨SYS_CLK_STAT_REG, 3, 1⟩
abbrev SYS_CLK_STAT_CLK_FAULT : Fld := ⟨SYS_CLK_STAT_REG, 4, 1⟩
/-- The address of SYS_BOOT_STAT. -/
abbrev SYS_BOOT_STAT_REG : Nat := 0x4000000C
abbrev SYS_BOOT_STAT_SOURCE : Fld := ⟨SYS_BOOT_STAT_REG, 0, 2⟩
abbrev SYS_BOOT_STAT_FALLBACK : Fld := ⟨SYS_BOOT_STAT_REG, 2, 1⟩
abbrev SYS_BOOT_STAT_TRIAL : Fld := ⟨SYS_BOOT_STAT_REG, 3, 1⟩
/-- The address of SYS_BOOT_COUNT. -/
abbrev SYS_BOOT_COUNT_REG : Nat := 0x40000010
abbrev SYS_BOOT_COUNT_COUNT : Fld := ⟨SYS_BOOT_COUNT_REG, 0, 32⟩
/-- The address of SYS_FRST_CTRL. -/
abbrev SYS_FRST_CTRL_REG : Nat := 0x40000020
abbrev SYS_FRST_CTRL_FUNC : Fld := ⟨SYS_FRST_CTRL_REG, 0, 4⟩
abbrev SYS_FRST_CTRL_GO : Fld := ⟨SYS_FRST_CTRL_REG, 8, 1⟩
/-- The address of SYS_FRST_STAT. -/
abbrev SYS_FRST_STAT_REG : Nat := 0x40000024
abbrev SYS_FRST_STAT_BUSY : Fld := ⟨SYS_FRST_STAT_REG, 0, 10⟩
/-- The address of SYS_FRST_TMOn. -/
abbrev SYS_FRST_TMO_REG (i : Nat) : Nat := 0x40000040 + 0x4 * i
abbrev SYS_FRST_TMO_TMO (i : Nat) : Fld := ⟨SYS_FRST_TMO_REG i, 0, 14⟩
/-- The address of SYS_FRST_LOGn. -/
abbrev SYS_FRST_LOG_REG (i : Nat) : Nat := 0x40000080 + 0x4 * i
abbrev SYS_FRST_LOG_COUNT (i : Nat) : Fld := ⟨SYS_FRST_LOG_REG i, 0, 16⟩
abbrev SYS_FRST_LOG_TMO_COUNT (i : Nat) : Fld := ⟨SYS_FRST_LOG_REG i, 16, 8⟩
abbrev SYS_FRST_LOG_LAST_TMO (i : Nat) : Fld := ⟨SYS_FRST_LOG_REG i, 24, 1⟩

/-! ### FUSE (spec/03_power_reset_boot.md 03.8,20.10,22.4) -/

/-- The address of FUSE_SERIAL_LO. -/
abbrev FUSE_SERIAL_LO_REG : Nat := 0x40010000
abbrev FUSE_SERIAL_LO_SERIAL : Fld := ⟨FUSE_SERIAL_LO_REG, 0, 32⟩
/-- The address of FUSE_SERIAL_HI. -/
abbrev FUSE_SERIAL_HI_REG : Nat := 0x40010004
abbrev FUSE_SERIAL_HI_SERIAL : Fld := ⟨FUSE_SERIAL_HI_REG, 0, 32⟩
/-- The address of FUSE_DBG. -/
abbrev FUSE_DBG_REG : Nat := 0x40010008
abbrev FUSE_DBG_DBG_EN : Fld := ⟨FUSE_DBG_REG, 0, 1⟩
/-- The address of FUSE_RSTMAP. -/
abbrev FUSE_RSTMAP_REG : Nat := 0x40010040
abbrev FUSE_RSTMAP_POR_LEVEL : Fld := ⟨FUSE_RSTMAP_REG, 0, 2⟩
abbrev FUSE_RSTMAP_RESETN_LEVEL : Fld := ⟨FUSE_RSTMAP_REG, 2, 2⟩
abbrev FUSE_RSTMAP_PROGRAMMED : Fld := ⟨FUSE_RSTMAP_REG, 4, 1⟩

/-! ### FBK (spec/04_feedback.md 04.9) -/

/-- The address of FBK_CHn_CFG. -/
abbrev FBK_CH_CFG_REG (i : Nat) : Nat := 0x40050000 + 0x100 * i
abbrev FBK_CH_CFG_ENABLE (i : Nat) : Fld := ⟨FBK_CH_CFG_REG i, 0, 1⟩
abbrev FBK_CH_CFG_MODE (i : Nat) : Fld := ⟨FBK_CH_CFG_REG i, 1, 2⟩
abbrev FBK_CH_CFG_DIR_INV (i : Nat) : Fld := ⟨FBK_CH_CFG_REG i, 3, 1⟩
abbrev FBK_CH_CFG_INDEX_MODE (i : Nat) : Fld := ⟨FBK_CH_CFG_REG i, 4, 2⟩
abbrev FBK_CH_CFG_REF_SRC (i : Nat) : Fld := ⟨FBK_CH_CFG_REG i, 6, 1⟩
abbrev FBK_CH_CFG_Z_GATE (i : Nat) : Fld := ⟨FBK_CH_CFG_REG i, 7, 4⟩
abbrev FBK_CH_CFG_SPD_MODE (i : Nat) : Fld := ⟨FBK_CH_CFG_REG i, 11, 2⟩
abbrev FBK_CH_CFG_SPAN4 (i : Nat) : Fld := ⟨FBK_CH_CFG_REG i, 13, 1⟩
abbrev FBK_CH_CFG_PT_MODE (i : Nat) : Fld := ⟨FBK_CH_CFG_REG i, 14, 2⟩
abbrev FBK_CH_CFG_Z_DIS (i : Nat) : Fld := ⟨FBK_CH_CFG_REG i, 16, 1⟩
/-- The address of FBK_CHn_FILT. -/
abbrev FBK_CH_FILT_REG (i : Nat) : Nat := 0x40050004 + 0x100 * i
abbrev FBK_CH_FILT_T_MIN (i : Nat) : Fld := ⟨FBK_CH_FILT_REG i, 0, 14⟩
abbrev FBK_CH_FILT_CF_TIME (i : Nat) : Fld := ⟨FBK_CH_FILT_REG i, 16, 8⟩
/-- The address of FBK_CHn_PITCH. -/
abbrev FBK_CH_PITCH_REG (i : Nat) : Nat := 0x40050008 + 0x100 * i
abbrev FBK_CH_PITCH_PITCH_NM (i : Nat) : Fld := ⟨FBK_CH_PITCH_REG i, 0, 32⟩
/-- The address of FBK_CHn_SPD. -/
abbrev FBK_CH_SPD_REG (i : Nat) : Nat := 0x4005000C + 0x100 * i
abbrev FBK_CH_SPD_BW_HZ (i : Nat) : Fld := ⟨FBK_CH_SPD_REG i, 0, 12⟩
abbrev FBK_CH_SPD_T_ZERO (i : Nat) : Fld := ⟨FBK_CH_SPD_REG i, 16, 11⟩
/-- The address of FBK_CHn_CHG. -/
abbrev FBK_CH_CHG_REG (i : Nat) : Nat := 0x40050010 + 0x100 * i
abbrev FBK_CH_CHG_F_HI (i : Nat) : Fld := ⟨FBK_CH_CHG_REG i, 0, 16⟩
abbrev FBK_CH_CHG_F_LO (i : Nat) : Fld := ⟨FBK_CH_CHG_REG i, 16, 16⟩
/-- The address of FBK_CHn_OBS_G1. -/
abbrev FBK_CH_OBS_G1_REG (i : Nat) : Nat := 0x40050014 + 0x100 * i
abbrev FBK_CH_OBS_G1_G (i : Nat) : Fld := ⟨FBK_CH_OBS_G1_REG i, 0, 32⟩
/-- The address of FBK_CHn_OBS_G2. -/
abbrev FBK_CH_OBS_G2_REG (i : Nat) : Nat := 0x40050018 + 0x100 * i
abbrev FBK_CH_OBS_G2_G (i : Nat) : Fld := ⟨FBK_CH_OBS_G2_REG i, 0, 32⟩
/-- The address of FBK_CHn_COUNT. -/
abbrev FBK_CH_COUNT_REG (i : Nat) : Nat := 0x40050020 + 0x100 * i
abbrev FBK_CH_COUNT_COUNT (i : Nat) : Fld := ⟨FBK_CH_COUNT_REG i, 0, 32⟩
/-- The address of FBK_CHn_POS. -/
abbrev FBK_CH_POS_REG (i : Nat) : Nat := 0x40050024 + 0x100 * i
abbrev FBK_CH_POS_POS_UM (i : Nat) : Fld := ⟨FBK_CH_POS_REG i, 0, 32⟩
/-- The address of FBK_CHn_LATCH_TS_LO. -/
abbrev FBK_CH_LATCH_TS_LO_REG (i : Nat) : Nat := 0x40050028 + 0x100 * i
abbrev FBK_CH_LATCH_TS_LO_VALUE (i : Nat) : Fld := ⟨FBK_CH_LATCH_TS_LO_REG i, 0, 32⟩
/-- The address of FBK_CHn_LATCH_TS_HI. -/
abbrev FBK_CH_LATCH_TS_HI_REG (i : Nat) : Nat := 0x4005002C + 0x100 * i
abbrev FBK_CH_LATCH_TS_HI_VALUE (i : Nat) : Fld := ⟨FBK_CH_LATCH_TS_HI_REG i, 0, 32⟩
/-- The address of FBK_CHn_LATCH_CNT. -/
abbrev FBK_CH_LATCH_CNT_REG (i : Nat) : Nat := 0x40050030 + 0x100 * i
abbrev FBK_CH_LATCH_CNT_VALUE (i : Nat) : Fld := ⟨FBK_CH_LATCH_CNT_REG i, 0, 32⟩
/-- The address of FBK_CHn_SPEED. -/
abbrev FBK_CH_SPEED_REG (i : Nat) : Nat := 0x40050034 + 0x100 * i
abbrev FBK_CH_SPEED_SPEED_UM (i : Nat) : Fld := ⟨FBK_CH_SPEED_REG i, 0, 32⟩
/-- The address of FBK_CHn_SPEED_FRAC. -/
abbrev FBK_CH_SPEED_FRAC_REG (i : Nat) : Nat := 0x40050038 + 0x100 * i
abbrev FBK_CH_SPEED_FRAC_FRAC (i : Nat) : Fld := ⟨FBK_CH_SPEED_FRAC_REG i, 0, 16⟩
/-- The address of FBK_CHn_STAT. -/
abbrev FBK_CH_STAT_REG (i : Nat) : Nat := 0x4005003C + 0x100 * i
abbrev FBK_CH_STAT_STANDSTILL (i : Nat) : Fld := ⟨FBK_CH_STAT_REG i, 0, 1⟩
abbrev FBK_CH_STAT_FIRST (i : Nat) : Fld := ⟨FBK_CH_STAT_REG i, 1, 1⟩
abbrev FBK_CH_STAT_REVERSAL (i : Nat) : Fld := ⟨FBK_CH_STAT_REG i, 2, 1⟩
abbrev FBK_CH_STAT_DIR (i : Nat) : Fld := ⟨FBK_CH_STAT_REG i, 3, 1⟩
abbrev FBK_CH_STAT_SRC (i : Nat) : Fld := ⟨FBK_CH_STAT_REG i, 4, 1⟩
abbrev FBK_CH_STAT_POS_VALID (i : Nat) : Fld := ⟨FBK_CH_STAT_REG i, 5, 1⟩
abbrev FBK_CH_STAT_ARMED (i : Nat) : Fld := ⟨FBK_CH_STAT_REG i, 6, 1⟩
abbrev FBK_CH_STAT_CABLE (i : Nat) : Fld := ⟨FBK_CH_STAT_REG i, 8, 3⟩
abbrev FBK_CH_STAT_WR_ERR (i : Nat) : Fld := ⟨FBK_CH_STAT_REG i, 16, 1⟩
/-- The address of FBK_CHn_FAULT. -/
abbrev FBK_CH_FAULT_REG (i : Nat) : Nat := 0x40050040 + 0x100 * i
abbrev FBK_CH_FAULT_CABLE_S (i : Nat) : Fld := ⟨FBK_CH_FAULT_REG i, 0, 3⟩
abbrev FBK_CH_FAULT_ILLEGAL (i : Nat) : Fld := ⟨FBK_CH_FAULT_REG i, 3, 1⟩
abbrev FBK_CH_FAULT_REJ_RATE (i : Nat) : Fld := ⟨FBK_CH_FAULT_REG i, 4, 1⟩
abbrev FBK_CH_FAULT_SSI (i : Nat) : Fld := ⟨FBK_CH_FAULT_REG i, 5, 1⟩
abbrev FBK_CH_FAULT_INDEX_ERR (i : Nat) : Fld := ⟨FBK_CH_FAULT_REG i, 6, 1⟩
/-- The address of FBK_CHn_ECNT. -/
abbrev FBK_CH_ECNT_REG (i : Nat) : Nat := 0x40050044 + 0x100 * i
abbrev FBK_CH_ECNT_EDGE_REJ (i : Nat) : Fld := ⟨FBK_CH_ECNT_REG i, 0, 16⟩
abbrev FBK_CH_ECNT_ILLEGAL (i : Nat) : Fld := ⟨FBK_CH_ECNT_REG i, 16, 8⟩
abbrev FBK_CH_ECNT_SSI_REJ (i : Nat) : Fld := ⟨FBK_CH_ECNT_REG i, 24, 8⟩
/-- The address of FBK_CHn_INDEX_VAL. -/
abbrev FBK_CH_INDEX_VAL_REG (i : Nat) : Nat := 0x40050048 + 0x100 * i
abbrev FBK_CH_INDEX_VAL_VALUE (i : Nat) : Fld := ⟨FBK_CH_INDEX_VAL_REG i, 0, 32⟩
/-- The address of FBK_CHn_INDEX_LATCH. -/
abbrev FBK_CH_INDEX_LATCH_REG (i : Nat) : Nat := 0x4005004C + 0x100 * i
abbrev FBK_CH_INDEX_LATCH_VALUE (i : Nat) : Fld := ⟨FBK_CH_INDEX_LATCH_REG i, 0, 32⟩
/-- The address of FBK_CHn_ICTL. -/
abbrev FBK_CH_ICTL_REG (i : Nat) : Nat := 0x40050050 + 0x100 * i
abbrev FBK_CH_ICTL_ARM (i : Nat) : Fld := ⟨FBK_CH_ICTL_REG i, 0, 1⟩
abbrev FBK_CH_ICTL_DISARM (i : Nat) : Fld := ⟨FBK_CH_ICTL_REG i, 1, 1⟩
/-- The address of FBK_CHn_SSI_CFG0. -/
abbrev FBK_CH_SSI_CFG0_REG (i : Nat) : Nat := 0x40050060 + 0x100 * i
abbrev FBK_CH_SSI_CFG0_BITS (i : Nat) : Fld := ⟨FBK_CH_SSI_CFG0_REG i, 0, 6⟩
abbrev FBK_CH_SSI_CFG0_PARITY (i : Nat) : Fld := ⟨FBK_CH_SSI_CFG0_REG i, 6, 2⟩
abbrev FBK_CH_SSI_CFG0_ERRBITS (i : Nat) : Fld := ⟨FBK_CH_SSI_CFG0_REG i, 8, 2⟩
abbrev FBK_CH_SSI_CFG0_GRAY (i : Nat) : Fld := ⟨FBK_CH_SSI_CFG0_REG i, 10, 1⟩
abbrev FBK_CH_SSI_CFG0_CLK_DIV (i : Nat) : Fld := ⟨FBK_CH_SSI_CFG0_REG i, 12, 12⟩
abbrev FBK_CH_SSI_CFG0_TM_US (i : Nat) : Fld := ⟨FBK_CH_SSI_CFG0_REG i, 24, 6⟩
/-- The address of FBK_CHn_SSI_CFG1. -/
abbrev FBK_CH_SSI_CFG1_REG (i : Nat) : Nat := 0x40050064 + 0x100 * i
abbrev FBK_CH_SSI_CFG1_LAT_NS (i : Nat) : Fld := ⟨FBK_CH_SSI_CFG1_REG i, 0, 16⟩
abbrev FBK_CH_SSI_CFG1_MAXJUMP (i : Nat) : Fld := ⟨FBK_CH_SSI_CFG1_REG i, 16, 16⟩
/-- The address of FBK_CHn_PT_RX. -/
abbrev FBK_CH_PT_RX_REG (i : Nat) : Nat := 0x4005006C + 0x100 * i
abbrev FBK_CH_PT_RX_RX_DELAY (i : Nat) : Fld := ⟨FBK_CH_PT_RX_REG i, 0, 8⟩
/-- The address of FBK_CHn_HALL. -/
abbrev FBK_CH_HALL_REG (i : Nat) : Nat := 0x40050070 + 0x100 * i
abbrev FBK_CH_HALL_LEVEL (i : Nat) : Fld := ⟨FBK_CH_HALL_REG i, 0, 3⟩
abbrev FBK_CH_HALL_DEB_US (i : Nat) : Fld := ⟨FBK_CH_HALL_REG i, 4, 10⟩
abbrev FBK_CH_HALL_LAST_SRC (i : Nat) : Fld := ⟨FBK_CH_HALL_REG i, 16, 2⟩
/-- The address of FBK_CHn_HALL_LATCH. -/
abbrev FBK_CH_HALL_LATCH_REG (i : Nat) : Nat := 0x40050074 + 0x100 * i
abbrev FBK_CH_HALL_LATCH_COUNT (i : Nat) : Fld := ⟨FBK_CH_HALL_LATCH_REG i, 0, 32⟩
/-- The address of FBK_WHL_CFG0. -/
abbrev FBK_WHL_CFG0_REG : Nat := 0x40050600
abbrev FBK_WHL_CFG0_SLIDE_ABS : Fld := ⟨FBK_WHL_CFG0_REG, 0, 16⟩
abbrev FBK_WHL_CFG0_SLIDE_REL : Fld := ⟨FBK_WHL_CFG0_REG, 16, 8⟩
abbrev FBK_WHL_CFG0_SPD_SEL : Fld := ⟨FBK_WHL_CFG0_REG, 24, 2⟩
abbrev FBK_WHL_CFG0_PRIO_SWAP : Fld := ⟨FBK_WHL_CFG0_REG, 26, 1⟩
/-- The address of FBK_WHL_CFG1. -/
abbrev FBK_WHL_CFG1_REG : Nat := 0x40050604
abbrev FBK_WHL_CFG1_SLIDE_T : Fld := ⟨FBK_WHL_CFG1_REG, 0, 16⟩
abbrev FBK_WHL_CFG1_HOLD_MS : Fld := ⟨FBK_WHL_CFG1_REG, 16, 16⟩
/-- The address of FBK_WHL_CFG2. -/
abbrev FBK_WHL_CFG2_REG : Nat := 0x40050608
abbrev FBK_WHL_CFG2_BLEND_MS : Fld := ⟨FBK_WHL_CFG2_REG, 0, 10⟩
/-- The address of FBK_WHL_STAT. -/
abbrev FBK_WHL_STAT_REG : Nat := 0x4005060C
abbrev FBK_WHL_STAT_VSTILL : Fld := ⟨FBK_WHL_STAT_REG, 0, 1⟩
abbrev FBK_WHL_STAT_DISAGREE : Fld := ⟨FBK_WHL_STAT_REG, 1, 1⟩
abbrev FBK_WHL_STAT_SRC : Fld := ⟨FBK_WHL_STAT_REG, 2, 2⟩
abbrev FBK_WHL_STAT_BLEND : Fld := ⟨FBK_WHL_STAT_REG, 4, 1⟩
abbrev FBK_WHL_STAT_QUAL : Fld := ⟨FBK_WHL_STAT_REG, 5, 2⟩
abbrev FBK_WHL_STAT_WR_ERR : Fld := ⟨FBK_WHL_STAT_REG, 7, 1⟩
/-- The address of FBK_VEH_SPEED. -/
abbrev FBK_VEH_SPEED_REG : Nat := 0x40050610
abbrev FBK_VEH_SPEED_SPEED_MM : Fld := ⟨FBK_VEH_SPEED_REG, 0, 32⟩

/-! ### DOM (spec/05_position_domains.md 05.7) -/

/-- The address of DOM_CFG. -/
abbrev DOM_CFG_REG : Nat := 0x40060000
abbrev DOM_CFG_D5_VC : Fld := ⟨DOM_CFG_REG, 0, 2⟩
abbrev DOM_CFG_D6_VC : Fld := ⟨DOM_CFG_REG, 2, 2⟩
/-- The address of DOM_STAT. -/
abbrev DOM_STAT_REG : Nat := 0x40060004
abbrev DOM_STAT_VALID : Fld := ⟨DOM_STAT_REG, 0, 8⟩
abbrev DOM_STAT_DEGRADED : Fld := ⟨DOM_STAT_REG, 8, 4⟩
/-- The address of DOM_Dn_VAL_LO. -/
abbrev DOM_D_VAL_LO_REG (i : Nat) : Nat := 0x40060010 + 0x8 * i
abbrev DOM_D_VAL_LO_VALUE (i : Nat) : Fld := ⟨DOM_D_VAL_LO_REG i, 0, 32⟩
/-- The address of DOM_Dn_VAL_HI. -/
abbrev DOM_D_VAL_HI_REG (i : Nat) : Nat := 0x40060014 + 0x8 * i
abbrev DOM_D_VAL_HI_VALUE (i : Nat) : Fld := ⟨DOM_D_VAL_HI_REG i, 0, 32⟩
/-- The address of DOM_Dn_RATE. -/
abbrev DOM_D_RATE_REG (i : Nat) : Nat := 0x40060050 + 0x4 * i
abbrev DOM_D_RATE_RATE (i : Nat) : Fld := ⟨DOM_D_RATE_REG i, 0, 32⟩
/-- The address of DOM_D4_SET. -/
abbrev DOM_D4_SET_REG : Nat := 0x40060070
abbrev DOM_D4_SET_VALUE : Fld := ⟨DOM_D4_SET_REG, 0, 32⟩
/-- The address of DOM_CAM0_LINES. -/
abbrev DOM_CAM0_LINES_REG : Nat := 0x40060074
abbrev DOM_CAM0_LINES_LINES : Fld := ⟨DOM_CAM0_LINES_REG, 0, 16⟩
/-- The address of DOM_CAM1_LINES. -/
abbrev DOM_CAM1_LINES_REG : Nat := 0x40060078
abbrev DOM_CAM1_LINES_LINES : Fld := ⟨DOM_CAM1_LINES_REG, 0, 16⟩
/-- The address of DOM_FAULT. -/
abbrev DOM_FAULT_REG : Nat := 0x4006007C
abbrev DOM_FAULT_SEEN : Fld := ⟨DOM_FAULT_REG, 0, 5⟩
/-- The address of DOM_SLOTn_CFG. -/
abbrev DOM_SLOT_CFG_REG (i : Nat) : Nat := 0x40060400 + 0x20 * i
abbrev DOM_SLOT_CFG_DOMAIN (i : Nat) : Fld := ⟨DOM_SLOT_CFG_REG i, 0, 3⟩
abbrev DOM_SLOT_CFG_APPROACH (i : Nat) : Fld := ⟨DOM_SLOT_CFG_REG i, 3, 2⟩
abbrev DOM_SLOT_CFG_ACTION (i : Nat) : Fld := ⟨DOM_SLOT_CFG_REG i, 5, 3⟩
abbrev DOM_SLOT_CFG_LATE_POL (i : Nat) : Fld := ⟨DOM_SLOT_CFG_REG i, 8, 2⟩
abbrev DOM_SLOT_CFG_OWNER (i : Nat) : Fld := ⟨DOM_SLOT_CFG_REG i, 10, 1⟩
/-- The address of DOM_SLOTn_TGT_LO. -/
abbrev DOM_SLOT_TGT_LO_REG (i : Nat) : Nat := 0x40060404 + 0x20 * i
abbrev DOM_SLOT_TGT_LO_TARGET (i : Nat) : Fld := ⟨DOM_SLOT_TGT_LO_REG i, 0, 32⟩
/-- The address of DOM_SLOTn_TGT_HI. -/
abbrev DOM_SLOT_TGT_HI_REG (i : Nat) : Nat := 0x40060408 + 0x20 * i
abbrev DOM_SLOT_TGT_HI_TARGET (i : Nat) : Fld := ⟨DOM_SLOT_TGT_HI_REG i, 0, 32⟩
/-- The address of DOM_SLOTn_REP. -/
abbrev DOM_SLOT_REP_REG (i : Nat) : Nat := 0x4006040C + 0x20 * i
abbrev DOM_SLOT_REP_REPEAT (i : Nat) : Fld := ⟨DOM_SLOT_REP_REG i, 0, 32⟩
/-- The address of DOM_SLOTn_PARAM. -/
abbrev DOM_SLOT_PARAM_REG (i : Nat) : Nat := 0x40060410 + 0x20 * i
abbrev DOM_SLOT_PARAM_PARAM (i : Nat) : Fld := ⟨DOM_SLOT_PARAM_REG i, 0, 32⟩
/-- The address of DOM_SLOTn_DL. -/
abbrev DOM_SLOT_DL_REG (i : Nat) : Nat := 0x40060414 + 0x20 * i
abbrev DOM_SLOT_DL_VALUE (i : Nat) : Fld := ⟨DOM_SLOT_DL_REG i, 0, 31⟩
abbrev DOM_SLOT_DL_UNIT (i : Nat) : Fld := ⟨DOM_SLOT_DL_REG i, 31, 1⟩
/-- The address of DOM_SLOTn_CTL. -/
abbrev DOM_SLOT_CTL_REG (i : Nat) : Nat := 0x40060418 + 0x20 * i
abbrev DOM_SLOT_CTL_ARM (i : Nat) : Fld := ⟨DOM_SLOT_CTL_REG i, 0, 1⟩
abbrev DOM_SLOT_CTL_DISARM (i : Nat) : Fld := ⟨DOM_SLOT_CTL_REG i, 1, 1⟩
/-- The address of DOM_SLOTn_STAT. -/
abbrev DOM_SLOT_STAT_REG (i : Nat) : Nat := 0x4006041C + 0x20 * i
abbrev DOM_SLOT_STAT_ARMED (i : Nat) : Fld := ⟨DOM_SLOT_STAT_REG i, 0, 1⟩
abbrev DOM_SLOT_STAT_FIRED (i : Nat) : Fld := ⟨DOM_SLOT_STAT_REG i, 1, 1⟩
abbrev DOM_SLOT_STAT_LATE (i : Nat) : Fld := ⟨DOM_SLOT_STAT_REG i, 2, 1⟩
abbrev DOM_SLOT_STAT_REFUSED (i : Nat) : Fld := ⟨DOM_SLOT_STAT_REG i, 3, 1⟩
abbrev DOM_SLOT_STAT_WR_ERR (i : Nat) : Fld := ⟨DOM_SLOT_STAT_REG i, 4, 1⟩
abbrev DOM_SLOT_STAT_ERR (i : Nat) : Fld := ⟨DOM_SLOT_STAT_REG i, 5, 1⟩
abbrev DOM_SLOT_STAT_POL (i : Nat) : Fld := ⟨DOM_SLOT_STAT_REG i, 6, 2⟩
abbrev DOM_SLOT_STAT_MISSED (i : Nat) : Fld := ⟨DOM_SLOT_STAT_REG i, 8, 8⟩
abbrev DOM_SLOT_STAT_FIRE_CNT (i : Nat) : Fld := ⟨DOM_SLOT_STAT_REG i, 16, 16⟩
/-- The address of DOM_PREDn_LO. -/
abbrev DOM_PRED_LO_REG (i : Nat) : Nat := 0x40060C00 + 0x8 * i
abbrev DOM_PRED_LO_TICK (i : Nat) : Fld := ⟨DOM_PRED_LO_REG i, 0, 32⟩
/-- The address of DOM_PREDn_HI. -/
abbrev DOM_PRED_HI_REG (i : Nat) : Nat := 0x40060C04 + 0x8 * i
abbrev DOM_PRED_HI_TICK (i : Nat) : Fld := ⟨DOM_PRED_HI_REG i, 0, 32⟩
/-- The address of DOM_LATEn. -/
abbrev DOM_LATE_REG (i : Nat) : Nat := 0x40060E00 + 0x4 * i
abbrev DOM_LATE_LATENESS (i : Nat) : Fld := ⟨DOM_LATE_REG i, 0, 32⟩
/-- The address of DOM_LF_SLOT. -/
abbrev DOM_LF_SLOT_REG : Nat := 0x40060F00
abbrev DOM_LF_SLOT_SLOT : Fld := ⟨DOM_LF_SLOT_REG, 0, 6⟩
abbrev DOM_LF_SLOT_DOMAIN : Fld := ⟨DOM_LF_SLOT_REG, 6, 3⟩
/-- The address of DOM_LF_TS_LO. -/
abbrev DOM_LF_TS_LO_REG : Nat := 0x40060F04
abbrev DOM_LF_TS_LO_TICK : Fld := ⟨DOM_LF_TS_LO_REG, 0, 32⟩
/-- The address of DOM_LF_TS_HI. -/
abbrev DOM_LF_TS_HI_REG : Nat := 0x40060F08
abbrev DOM_LF_TS_HI_TICK : Fld := ⟨DOM_LF_TS_HI_REG, 0, 32⟩
/-- The address of DOM_LF_VAL_LO. -/
abbrev DOM_LF_VAL_LO_REG : Nat := 0x40060F0C
abbrev DOM_LF_VAL_LO_VALUE : Fld := ⟨DOM_LF_VAL_LO_REG, 0, 32⟩
/-- The address of DOM_LF_VAL_HI. -/
abbrev DOM_LF_VAL_HI_REG : Nat := 0x40060F10
abbrev DOM_LF_VAL_HI_VALUE : Fld := ⟨DOM_LF_VAL_HI_REG, 0, 32⟩
/-- The address of DOM_LF_STAT. -/
abbrev DOM_LF_STAT_REG : Nat := 0x40060F14
abbrev DOM_LF_STAT_LEVEL : Fld := ⟨DOM_LF_STAT_REG, 0, 6⟩
abbrev DOM_LF_STAT_OVF : Fld := ⟨DOM_LF_STAT_REG, 8, 1⟩
abbrev DOM_LF_STAT_POP : Fld := ⟨DOM_LF_STAT_REG, 16, 1⟩

/-! ### MOT (spec/06_motion_profiles.md 06.9) -/

/-- The address of MOT_AXn_CFG. -/
abbrev MOT_AX_CFG_REG (i : Nat) : Nat := 0x40070000 + 0x100 * i
abbrev MOT_AX_CFG_ENABLE (i : Nat) : Fld := ⟨MOT_AX_CFG_REG i, 0, 1⟩
abbrev MOT_AX_CFG_DIR_INV (i : Nat) : Fld := ⟨MOT_AX_CFG_REG i, 1, 1⟩
abbrev MOT_AX_CFG_T_REV (i : Nat) : Fld := ⟨MOT_AX_CFG_REG i, 8, 8⟩
abbrev MOT_AX_CFG_USTEPS (i : Nat) : Fld := ⟨MOT_AX_CFG_REG i, 16, 9⟩
/-- The address of MOT_AXn_LEAD. -/
abbrev MOT_AX_LEAD_REG (i : Nat) : Nat := 0x40070004 + 0x100 * i
abbrev MOT_AX_LEAD_LEAD_NM (i : Nat) : Fld := ⟨MOT_AX_LEAD_REG i, 0, 32⟩
/-- The address of MOT_AXn_SCALE. -/
abbrev MOT_AX_SCALE_REG (i : Nat) : Nat := 0x40070008 + 0x100 * i
abbrev MOT_AX_SCALE_SC_RUN (i : Nat) : Fld := ⟨MOT_AX_SCALE_REG i, 0, 8⟩
abbrev MOT_AX_SCALE_SC_HOLD (i : Nat) : Fld := ⟨MOT_AX_SCALE_REG i, 8, 8⟩
abbrev MOT_AX_SCALE_HOLD_DLY (i : Nat) : Fld := ⟨MOT_AX_SCALE_REG i, 16, 16⟩
/-- The address of MOT_AXn_EMERG. -/
abbrev MOT_AX_EMERG_REG (i : Nat) : Nat := 0x4007000C + 0x100 * i
abbrev MOT_AX_EMERG_EMERG_DEC (i : Nat) : Fld := ⟨MOT_AX_EMERG_REG i, 0, 16⟩
/-- The address of MOT_AXn_TRIP. -/
abbrev MOT_AX_TRIP_REG (i : Nat) : Nat := 0x40070010 + 0x100 * i
abbrev MOT_AX_TRIP_EN (i : Nat) : Fld := ⟨MOT_AX_TRIP_REG i, 0, 4⟩
abbrev MOT_AX_TRIP_RET_SET (i : Nat) : Fld := ⟨MOT_AX_TRIP_REG i, 8, 6⟩
abbrev MOT_AX_TRIP_RET_EN (i : Nat) : Fld := ⟨MOT_AX_TRIP_REG i, 15, 1⟩
abbrev MOT_AX_TRIP_DEGR (i : Nat) : Fld := ⟨MOT_AX_TRIP_REG i, 16, 1⟩
/-- The address of MOT_AXn_STALL. -/
abbrev MOT_AX_STALL_REG (i : Nat) : Nat := 0x40070014 + 0x100 * i
abbrev MOT_AX_STALL_STALL_FS (i : Nat) : Fld := ⟨MOT_AX_STALL_REG i, 0, 8⟩
abbrev MOT_AX_STALL_STALL_CYC (i : Nat) : Fld := ⟨MOT_AX_STALL_REG i, 8, 4⟩
/-- The address of MOT_AXn_CMD. -/
abbrev MOT_AX_CMD_REG (i : Nat) : Nat := 0x40070018 + 0x100 * i
abbrev MOT_AX_CMD_OP (i : Nat) : Fld := ⟨MOT_AX_CMD_REG i, 0, 3⟩
abbrev MOT_AX_CMD_SET (i : Nat) : Fld := ⟨MOT_AX_CMD_REG i, 8, 6⟩
/-- The address of MOT_AXn_STAT. -/
abbrev MOT_AX_STAT_REG (i : Nat) : Nat := 0x4007001C + 0x100 * i
abbrev MOT_AX_STAT_SEG (i : Nat) : Fld := ⟨MOT_AX_STAT_REG i, 0, 4⟩
abbrev MOT_AX_STAT_BUSY (i : Nat) : Fld := ⟨MOT_AX_STAT_REG i, 4, 1⟩
abbrev MOT_AX_STAT_DIR (i : Nat) : Fld := ⟨MOT_AX_STAT_REG i, 5, 1⟩
abbrev MOT_AX_STAT_STEPLOSS_POSSIBLE (i : Nat) : Fld := ⟨MOT_AX_STAT_REG i, 6, 1⟩
abbrev MOT_AX_STAT_REFD (i : Nat) : Fld := ⟨MOT_AX_STAT_REG i, 7, 1⟩
abbrev MOT_AX_STAT_STALL (i : Nat) : Fld := ⟨MOT_AX_STAT_REG i, 8, 1⟩
abbrev MOT_AX_STAT_REFUSED (i : Nat) : Fld := ⟨MOT_AX_STAT_REG i, 9, 1⟩
abbrev MOT_AX_STAT_WR_ERR (i : Nat) : Fld := ⟨MOT_AX_STAT_REG i, 10, 1⟩
abbrev MOT_AX_STAT_ERR (i : Nat) : Fld := ⟨MOT_AX_STAT_REG i, 11, 1⟩
/-- The address of MOT_AXn_XPOS. -/
abbrev MOT_AX_XPOS_REG (i : Nat) : Nat := 0x40070020 + 0x100 * i
abbrev MOT_AX_XPOS_VALUE (i : Nat) : Fld := ⟨MOT_AX_XPOS_REG i, 0, 32⟩
/-- The address of MOT_AXn_POS_UM. -/
abbrev MOT_AX_POS_UM_REG (i : Nat) : Nat := 0x40070024 + 0x100 * i
abbrev MOT_AX_POS_UM_VALUE (i : Nat) : Fld := ⟨MOT_AX_POS_UM_REG i, 0, 32⟩
/-- The address of MOT_AXn_TGT. -/
abbrev MOT_AX_TGT_REG (i : Nat) : Nat := 0x40070028 + 0x100 * i
abbrev MOT_AX_TGT_VALUE (i : Nat) : Fld := ⟨MOT_AX_TGT_REG i, 0, 32⟩
/-- The address of MOT_AXn_VEL. -/
abbrev MOT_AX_VEL_REG (i : Nat) : Nat := 0x4007002C + 0x100 * i
abbrev MOT_AX_VEL_VALUE (i : Nat) : Fld := ⟨MOT_AX_VEL_REG i, 0, 32⟩
/-- The address of MOT_AXn_DEV. -/
abbrev MOT_AX_DEV_REG (i : Nat) : Nat := 0x40070030 + 0x100 * i
abbrev MOT_AX_DEV_VALUE (i : Nat) : Fld := ⟨MOT_AX_DEV_REG i, 0, 32⟩
/-- The address of MOT_AXn_ELEC. -/
abbrev MOT_AX_ELEC_REG (i : Nat) : Nat := 0x40070034 + 0x100 * i
abbrev MOT_AX_ELEC_ELEC (i : Nat) : Fld := ⟨MOT_AX_ELEC_REG i, 0, 10⟩
abbrev MOT_AX_ELEC_ELEC_OFF (i : Nat) : Fld := ⟨MOT_AX_ELEC_REG i, 16, 10⟩
/-- The address of MOT_AXn_PHASE. -/
abbrev MOT_AX_PHASE_REG (i : Nat) : Nat := 0x40070038 + 0x100 * i
abbrev MOT_AX_PHASE_I_A (i : Nat) : Fld := ⟨MOT_AX_PHASE_REG i, 0, 16⟩
abbrev MOT_AX_PHASE_I_B (i : Nat) : Fld := ⟨MOT_AX_PHASE_REG i, 16, 16⟩
/-- The address of MOT_AXn_FAULT. -/
abbrev MOT_AX_FAULT_REG (i : Nat) : Nat := 0x4007003C + 0x100 * i
abbrev MOT_AX_FAULT_HARD (i : Nat) : Fld := ⟨MOT_AX_FAULT_REG i, 0, 1⟩
abbrev MOT_AX_FAULT_STALL_S (i : Nat) : Fld := ⟨MOT_AX_FAULT_REG i, 1, 1⟩
abbrev MOT_AX_FAULT_NOREF (i : Nat) : Fld := ⟨MOT_AX_FAULT_REG i, 2, 1⟩
/-- The address of MOT_MSm_TGT. -/
abbrev MOT_MS_TGT_REG (i : Nat) : Nat := 0x40070800 + 0x8 * i
abbrev MOT_MS_TGT_TGT (i : Nat) : Fld := ⟨MOT_MS_TGT_REG i, 0, 32⟩
/-- The address of MOT_MSm_CFG. -/
abbrev MOT_MS_CFG_REG (i : Nat) : Nat := 0x40070804 + 0x8 * i
abbrev MOT_MS_CFG_PROFILE (i : Nat) : Fld := ⟨MOT_MS_CFG_REG i, 0, 4⟩
abbrev MOT_MS_CFG_REL (i : Nat) : Fld := ⟨MOT_MS_CFG_REG i, 4, 1⟩
/-- The address of MOT_PRFp_VSTART. -/
abbrev MOT_PRF_VSTART_REG (i : Nat) : Nat := 0x40070A00 + 0x20 * i
abbrev MOT_PRF_VSTART_V (i : Nat) : Fld := ⟨MOT_PRF_VSTART_REG i, 0, 32⟩
/-- The address of MOT_PRFp_VSTOP. -/
abbrev MOT_PRF_VSTOP_REG (i : Nat) : Nat := 0x40070A04 + 0x20 * i
abbrev MOT_PRF_VSTOP_V (i : Nat) : Fld := ⟨MOT_PRF_VSTOP_REG i, 0, 32⟩
/-- The address of MOT_PRFp_VBRK. -/
abbrev MOT_PRF_VBRK_REG (i : Nat) : Nat := 0x40070A08 + 0x20 * i
abbrev MOT_PRF_VBRK_V (i : Nat) : Fld := ⟨MOT_PRF_VBRK_REG i, 0, 32⟩
/-- The address of MOT_PRFp_VMAX. -/
abbrev MOT_PRF_VMAX_REG (i : Nat) : Nat := 0x40070A0C + 0x20 * i
abbrev MOT_PRF_VMAX_V (i : Nat) : Fld := ⟨MOT_PRF_VMAX_REG i, 0, 32⟩
/-- The address of MOT_PRFp_ACC. -/
abbrev MOT_PRF_ACC_REG (i : Nat) : Nat := 0x40070A10 + 0x20 * i
abbrev MOT_PRF_ACC_A1 (i : Nat) : Fld := ⟨MOT_PRF_ACC_REG i, 0, 16⟩
abbrev MOT_PRF_ACC_A2 (i : Nat) : Fld := ⟨MOT_PRF_ACC_REG i, 16, 16⟩
/-- The address of MOT_PRFp_DEC. -/
abbrev MOT_PRF_DEC_REG (i : Nat) : Nat := 0x40070A14 + 0x20 * i
abbrev MOT_PRF_DEC_D2 (i : Nat) : Fld := ⟨MOT_PRF_DEC_REG i, 0, 16⟩
abbrev MOT_PRF_DEC_D1 (i : Nat) : Fld := ⟨MOT_PRF_DEC_REG i, 16, 16⟩
/-- The address of MOT_TBL_CFG. -/
abbrev MOT_TBL_CFG_REG : Nat := 0x40070C00
abbrev MOT_TBL_CFG_USER_TBL : Fld := ⟨MOT_TBL_CFG_REG, 0, 1⟩
/-- The address of MOT_TBLk. -/
abbrev MOT_TBL_REG (i : Nat) : Nat := 0x40070D00 + 0x4 * i
abbrev MOT_TBL_Q_EVEN (i : Nat) : Fld := ⟨MOT_TBL_REG i, 0, 16⟩
abbrev MOT_TBL_Q_ODD (i : Nat) : Fld := ⟨MOT_TBL_REG i, 16, 16⟩

/-! ### CUR (spec/07_coil_current.md 07.8) -/

/-- The address of CUR_AXn_CFG. -/
abbrev CUR_AX_CFG_REG (i : Nat) : Nat := 0x40080000 + 0x100 * i
abbrev CUR_AX_CFG_ENABLE (i : Nat) : Fld := ⟨CUR_AX_CFG_REG i, 0, 1⟩
abbrev CUR_AX_CFG_CHOP (i : Nat) : Fld := ⟨CUR_AX_CFG_REG i, 1, 1⟩
abbrev CUR_AX_CFG_FD (i : Nat) : Fld := ⟨CUR_AX_CFG_REG i, 2, 5⟩
abbrev CUR_AX_CFG_TBLANK (i : Nat) : Fld := ⟨CUR_AX_CFG_REG i, 8, 5⟩
abbrev CUR_AX_CFG_DEAD (i : Nat) : Fld := ⟨CUR_AX_CFG_REG i, 16, 9⟩
/-- The address of CUR_AXn_CHOP. -/
abbrev CUR_AX_CHOP_REG (i : Nat) : Nat := 0x40080004 + 0x100 * i
abbrev CUR_AX_CHOP_TOFF (i : Nat) : Fld := ⟨CUR_AX_CHOP_REG i, 0, 8⟩
abbrev CUR_AX_CHOP_HBAND (i : Nat) : Fld := ⟨CUR_AX_CHOP_REG i, 16, 8⟩
abbrev CUR_AX_CHOP_ADAPT (i : Nat) : Fld := ⟨CUR_AX_CHOP_REG i, 24, 8⟩
/-- The address of CUR_AXn_SCALE. -/
abbrev CUR_AX_SCALE_REG (i : Nat) : Nat := 0x40080008 + 0x100 * i
abbrev CUR_AX_SCALE_R_SENSE (i : Nat) : Fld := ⟨CUR_AX_SCALE_REG i, 0, 16⟩
abbrev CUR_AX_SCALE_I_PEAK (i : Nat) : Fld := ⟨CUR_AX_SCALE_REG i, 16, 16⟩
/-- The address of CUR_AXn_OCP. -/
abbrev CUR_AX_OCP_REG (i : Nat) : Nat := 0x4008000C + 0x100 * i
abbrev CUR_AX_OCP_OCP (i : Nat) : Fld := ⟨CUR_AX_OCP_REG i, 0, 10⟩
/-- The address of CUR_AXn_MOTOR. -/
abbrev CUR_AX_MOTOR_REG (i : Nat) : Nat := 0x40080010 + 0x100 * i
abbrev CUR_AX_MOTOR_R_PH (i : Nat) : Fld := ⟨CUR_AX_MOTOR_REG i, 0, 16⟩
abbrev CUR_AX_MOTOR_L_PH (i : Nat) : Fld := ⟨CUR_AX_MOTOR_REG i, 16, 16⟩
/-- The address of CUR_AXn_FCAL0. -/
abbrev CUR_AX_FCAL0_REG (i : Nat) : Nat := 0x40080014 + 0x100 * i
abbrev CUR_AX_FCAL0_KF (i : Nat) : Fld := ⟨CUR_AX_FCAL0_REG i, 0, 16⟩
abbrev CUR_AX_FCAL0_F0 (i : Nat) : Fld := ⟨CUR_AX_FCAL0_REG i, 16, 16⟩
/-- The address of CUR_AXn_FCAL1. -/
abbrev CUR_AX_FCAL1_REG (i : Nat) : Nat := 0x40080018 + 0x100 * i
abbrev CUR_AX_FCAL1_B (i : Nat) : Fld := ⟨CUR_AX_FCAL1_REG i, 0, 16⟩
abbrev CUR_AX_FCAL1_M (i : Nat) : Fld := ⟨CUR_AX_FCAL1_REG i, 16, 16⟩
/-- The address of CUR_AXn_FLIM. -/
abbrev CUR_AX_FLIM_REG (i : Nat) : Nat := 0x4008001C + 0x100 * i
abbrev CUR_AX_FLIM_F_LIM (i : Nat) : Fld := ⟨CUR_AX_FLIM_REG i, 0, 12⟩
abbrev CUR_AX_FLIM_V_EMF_MIN (i : Nat) : Fld := ⟨CUR_AX_FLIM_REG i, 16, 8⟩
/-- The address of CUR_AXn_STAT. -/
abbrev CUR_AX_STAT_REG (i : Nat) : Nat := 0x40080020 + 0x100 * i
abbrev CUR_AX_STAT_DRIVING (i : Nat) : Fld := ⟨CUR_AX_STAT_REG i, 0, 1⟩
abbrev CUR_AX_STAT_F_VALID (i : Nat) : Fld := ⟨CUR_AX_STAT_REG i, 1, 1⟩
abbrev CUR_AX_STAT_F_MODE (i : Nat) : Fld := ⟨CUR_AX_STAT_REG i, 2, 1⟩
abbrev CUR_AX_STAT_FTRIP (i : Nat) : Fld := ⟨CUR_AX_STAT_REG i, 3, 1⟩
abbrev CUR_AX_STAT_FCAL_DONE (i : Nat) : Fld := ⟨CUR_AX_STAT_REG i, 4, 1⟩
abbrev CUR_AX_STAT_CAL_FAIL (i : Nat) : Fld := ⟨CUR_AX_STAT_REG i, 5, 1⟩
abbrev CUR_AX_STAT_LATCHED_OFF (i : Nat) : Fld := ⟨CUR_AX_STAT_REG i, 6, 1⟩
abbrev CUR_AX_STAT_WR_ERR (i : Nat) : Fld := ⟨CUR_AX_STAT_REG i, 16, 1⟩
/-- The address of CUR_AXn_IMEAS. -/
abbrev CUR_AX_IMEAS_REG (i : Nat) : Nat := 0x40080024 + 0x100 * i
abbrev CUR_AX_IMEAS_I_A (i : Nat) : Fld := ⟨CUR_AX_IMEAS_REG i, 0, 16⟩
abbrev CUR_AX_IMEAS_I_B (i : Nat) : Fld := ⟨CUR_AX_IMEAS_REG i, 16, 16⟩
/-- The address of CUR_AXn_FEST. -/
abbrev CUR_AX_FEST_REG (i : Nat) : Nat := 0x40080028 + 0x100 * i
abbrev CUR_AX_FEST_F_EST (i : Nat) : Fld := ⟨CUR_AX_FEST_REG i, 0, 16⟩
abbrev CUR_AX_FEST_F_OPP (i : Nat) : Fld := ⟨CUR_AX_FEST_REG i, 16, 16⟩
/-- The address of CUR_AXn_FREQ. -/
abbrev CUR_AX_FREQ_REG (i : Nat) : Nat := 0x4008002C + 0x100 * i
abbrev CUR_AX_FREQ_FREQ_A (i : Nat) : Fld := ⟨CUR_AX_FREQ_REG i, 0, 16⟩
abbrev CUR_AX_FREQ_FREQ_B (i : Nat) : Fld := ⟨CUR_AX_FREQ_REG i, 16, 16⟩
/-- The address of CUR_AXn_CNT. -/
abbrev CUR_AX_CNT_REG (i : Nat) : Nat := 0x40080030 + 0x100 * i
abbrev CUR_AX_CNT_ON_LIM (i : Nat) : Fld := ⟨CUR_AX_CNT_REG i, 0, 16⟩
abbrev CUR_AX_CNT_MIN_EXT (i : Nat) : Fld := ⟨CUR_AX_CNT_REG i, 16, 16⟩
/-- The address of CUR_AXn_OFSq. -/
abbrev CUR_AX_OFS_REG (i : Nat) (j : Nat) : Nat := 0x40080034 + 0x100 * i + 0x4 * j
abbrev CUR_AX_OFS_O_A (i : Nat) (j : Nat) : Fld := ⟨CUR_AX_OFS_REG i j, 0, 16⟩
abbrev CUR_AX_OFS_O_B (i : Nat) (j : Nat) : Fld := ⟨CUR_AX_OFS_REG i j, 16, 16⟩
/-- The address of CUR_AXn_FAULT. -/
abbrev CUR_AX_FAULT_REG (i : Nat) : Nat := 0x40080044 + 0x100 * i
abbrev CUR_AX_FAULT_OCP_S (i : Nat) : Fld := ⟨CUR_AX_FAULT_REG i, 0, 1⟩
abbrev CUR_AX_FAULT_OPEN_S (i : Nat) : Fld := ⟨CUR_AX_FAULT_REG i, 1, 1⟩
abbrev CUR_AX_FAULT_ADC_S (i : Nat) : Fld := ⟨CUR_AX_FAULT_REG i, 2, 1⟩
abbrev CUR_AX_FAULT_SAG_S (i : Nat) : Fld := ⟨CUR_AX_FAULT_REG i, 3, 1⟩
/-- The address of CUR_AXn_CMD. -/
abbrev CUR_AX_CMD_REG (i : Nat) : Nat := 0x40080048 + 0x100 * i
abbrev CUR_AX_CMD_CAL (i : Nat) : Fld := ⟨CUR_AX_CMD_REG i, 0, 1⟩
abbrev CUR_AX_CMD_CLR_OFS (i : Nat) : Fld := ⟨CUR_AX_CMD_REG i, 1, 1⟩

/-! ### DOOR (spec/08_door_cycle.md 08.12,22.4) -/

/-- The address of DOOR_CFG. -/
abbrev DOOR_CFG_REG : Nat := 0x40090000
abbrev DOOR_CFG_LEAF1_EN : Fld := ⟨DOOR_CFG_REG, 0, 1⟩
abbrev DOOR_CFG_STEP_EN : Fld := ⟨DOOR_CFG_REG, 1, 1⟩
abbrev DOOR_CFG_RAMP_EN : Fld := ⟨DOOR_CFG_REG, 2, 1⟩
abbrev DOOR_CFG_STEP_REF : Fld := ⟨DOOR_CFG_REG, 3, 1⟩
abbrev DOOR_CFG_WARN_GPIO : Fld := ⟨DOOR_CFG_REG, 4, 3⟩
abbrev DOOR_CFG_N_RECLOSE : Fld := ⟨DOOR_CFG_REG, 8, 4⟩
abbrev DOOR_CFG_OVS_PCT : Fld := ⟨DOOR_CFG_REG, 16, 8⟩
/-- The address of DOOR_STROKE. -/
abbrev DOOR_STROKE_REG : Nat := 0x40090004
abbrev DOOR_STROKE_STROKE_UM : Fld := ⟨DOOR_STROKE_REG, 0, 32⟩
/-- The address of DOOR_LOCK. -/
abbrev DOOR_LOCK_REG : Nat := 0x40090008
abbrev DOOR_LOCK_LOCK_WIN_UM : Fld := ⟨DOOR_LOCK_REG, 0, 16⟩
abbrev DOOR_LOCK_T_LOCK : Fld := ⟨DOOR_LOCK_REG, 16, 16⟩
/-- The address of DOOR_RIND. -/
abbrev DOOR_RIND_REG : Nat := 0x4009000C
abbrev DOOR_RIND_RIND_MM : Fld := ⟨DOOR_RIND_REG, 0, 8⟩
abbrev DOOR_RIND_CLOSED_TOL_UM : Fld := ⟨DOOR_RIND_REG, 16, 16⟩
/-- The address of DOOR_STEP_RET. -/
abbrev DOOR_STEP_RET_REG : Nat := 0x40090010
abbrev DOOR_STEP_RET_POS_UM : Fld := ⟨DOOR_STEP_RET_REG, 0, 32⟩
/-- The address of DOOR_STEP_LEAD. -/
abbrev DOOR_STEP_LEAD_REG : Nat := 0x40090014
abbrev DOOR_STEP_LEAD_LEAD_UM : Fld := ⟨DOOR_STEP_LEAD_REG, 0, 32⟩
/-- The address of DOOR_RAMP_AT. -/
abbrev DOOR_RAMP_AT_REG : Nat := 0x40090018
abbrev DOOR_RAMP_AT_POS_UM : Fld := ⟨DOOR_RAMP_AT_REG, 0, 32⟩
/-- The address of DOOR_TWARN. -/
abbrev DOOR_TWARN_REG : Nat := 0x4009001C
abbrev DOOR_TWARN_T_WARN : Fld := ⟨DOOR_TWARN_REG, 0, 16⟩
abbrev DOOR_TWARN_T_WARN_VA : Fld := ⟨DOOR_TWARN_REG, 16, 16⟩
/-- The address of DOOR_TWAIT. -/
abbrev DOOR_TWAIT_REG : Nat := 0x40090020
abbrev DOOR_TWAIT_T_RECLOSE : Fld := ⟨DOOR_TWAIT_REG, 0, 16⟩
abbrev DOOR_TWAIT_T_REWARN : Fld := ⟨DOOR_TWAIT_REG, 16, 16⟩
/-- The address of DOOR_TMOVE. -/
abbrev DOOR_TMOVE_REG : Nat := 0x40090024
abbrev DOOR_TMOVE_T_OPEN_MAX : Fld := ⟨DOOR_TMOVE_REG, 0, 16⟩
abbrev DOOR_TMOVE_T_CLOSE_MAX : Fld := ⟨DOOR_TMOVE_REG, 16, 16⟩
/-- The address of DOOR_REV. -/
abbrev DOOR_REV_REG : Nat := 0x40090028
abbrev DOOR_REV_REV_DIST_MM : Fld := ⟨DOOR_REV_REG, 0, 16⟩
/-- The address of DOOR_PROF. -/
abbrev DOOR_PROF_REG : Nat := 0x4009002C
abbrev DOOR_PROF_P_OPEN : Fld := ⟨DOOR_PROF_REG, 0, 4⟩
abbrev DOOR_PROF_P_CLOSE : Fld := ⟨DOOR_PROF_REG, 4, 4⟩
abbrev DOOR_PROF_P_RIND : Fld := ⟨DOOR_PROF_REG, 8, 4⟩
abbrev DOOR_PROF_P_STEP : Fld := ⟨DOOR_PROF_REG, 12, 4⟩
abbrev DOOR_PROF_P_RAMP : Fld := ⟨DOOR_PROF_REG, 16, 4⟩
/-- The address of DOOR_PRE. -/
abbrev DOOR_PRE_REG : Nat := 0x40090030
abbrev DOOR_PRE_P_PRE : Fld := ⟨DOOR_PRE_REG, 0, 32⟩
/-- The address of DOOR_STEP_CLR. -/
abbrev DOOR_STEP_CLR_REG : Nat := 0x40090034
abbrev DOOR_STEP_CLR_STEP_CLR_UM : Fld := ⟨DOOR_STEP_CLR_REG, 0, 32⟩
/-- The address of DOOR_CMD. -/
abbrev DOOR_CMD_REG : Nat := 0x40090040
abbrev DOOR_CMD_OP : Fld := ⟨DOOR_CMD_REG, 0, 4⟩
abbrev DOOR_CMD_RAMP : Fld := ⟨DOOR_CMD_REG, 4, 1⟩
/-- The address of DOOR_STATUS. -/
abbrev DOOR_STATUS_REG : Nat := 0x40090044
abbrev DOOR_STATUS_STATE : Fld := ⟨DOOR_STATUS_REG, 0, 4⟩
abbrev DOOR_STATUS_CAUSE : Fld := ⟨DOOR_STATUS_REG, 4, 4⟩
abbrev DOOR_STATUS_RIND : Fld := ⟨DOOR_STATUS_REG, 8, 2⟩
abbrev DOOR_STATUS_WITHHOLD : Fld := ⟨DOOR_STATUS_REG, 10, 1⟩
abbrev DOOR_STATUS_VA : Fld := ⟨DOOR_STATUS_REG, 11, 1⟩
abbrev DOOR_STATUS_DEGRADED : Fld := ⟨DOOR_STATUS_REG, 12, 1⟩
abbrev DOOR_STATUS_OBSTRUCTED : Fld := ⟨DOOR_STATUS_REG, 13, 1⟩
abbrev DOOR_STATUS_RAMP_OUT : Fld := ⟨DOOR_STATUS_REG, 14, 1⟩
abbrev DOOR_STATUS_RELEASE_PERM : Fld := ⟨DOOR_STATUS_REG, 15, 1⟩
abbrev DOOR_STATUS_REV_COUNT : Fld := ⟨DOOR_STATUS_REG, 16, 4⟩
abbrev DOOR_STATUS_HELD : Fld := ⟨DOOR_STATUS_REG, 20, 1⟩
abbrev DOOR_STATUS_ADM_CLOSE : Fld := ⟨DOOR_STATUS_REG, 21, 1⟩
abbrev DOOR_STATUS_WR_ERR : Fld := ⟨DOOR_STATUS_REG, 22, 1⟩
abbrev DOOR_STATUS_UNREL : Fld := ⟨DOOR_STATUS_REG, 23, 1⟩
/-- The address of DOOR_CYCLE. -/
abbrev DOOR_CYCLE_REG : Nat := 0x40090048
abbrev DOOR_CYCLE_COUNT : Fld := ⟨DOOR_CYCLE_REG, 0, 32⟩
/-- The address of DOOR_STATE_TS_LO. -/
abbrev DOOR_STATE_TS_LO_REG : Nat := 0x4009004C
abbrev DOOR_STATE_TS_LO_TS : Fld := ⟨DOOR_STATE_TS_LO_REG, 0, 32⟩
/-- The address of DOOR_STATE_TS_HI. -/
abbrev DOOR_STATE_TS_HI_REG : Nat := 0x40090050
abbrev DOOR_STATE_TS_HI_TS : Fld := ⟨DOOR_STATE_TS_HI_REG, 0, 32⟩
/-- The address of DOOR_FAULT. -/
abbrev DOOR_FAULT_REG : Nat := 0x40090054
abbrev DOOR_FAULT_SEEN : Fld := ⟨DOOR_FAULT_REG, 0, 8⟩
/-- The address of DOOR_MEASk. -/
abbrev DOOR_MEAS_REG (i : Nat) : Nat := 0x40090060 + 0x4 * i
abbrev DOOR_MEAS_VALUE (i : Nat) : Fld := ⟨DOOR_MEAS_REG i, 0, 32⟩
abbrev DOOR_MEAS_LO (i : Nat) : Fld := ⟨DOOR_MEAS_REG i, 0, 16⟩
abbrev DOOR_MEAS_HI (i : Nat) : Fld := ⟨DOOR_MEAS_REG i, 16, 16⟩

/-! ### VOTE (spec/09_obstacles_and_interlock.md 09.11) -/

/-- The address of VOTE_CFG. -/
abbrev VOTE_CFG_REG : Nat := 0x40040000
abbrev VOTE_CFG_EGR_UNLOCK : Fld := ⟨VOTE_CFG_REG, 0, 2⟩
abbrev VOTE_CFG_NOS_TR_WH : Fld := ⟨VOTE_CFG_REG, 2, 1⟩
abbrev VOTE_CFG_NOS_REL_WH : Fld := ⟨VOTE_CFG_REG, 3, 1⟩
abbrev VOTE_CFG_T2_ACT : Fld := ⟨VOTE_CFG_REG, 4, 1⟩
abbrev VOTE_CFG_VISION_USE : Fld := ⟨VOTE_CFG_REG, 5, 1⟩
/-- The address of VOTE_STAT. -/
abbrev VOTE_STAT_REG : Nat := 0x40040004
abbrev VOTE_STAT_TRACT : Fld := ⟨VOTE_STAT_REG, 0, 1⟩
abbrev VOTE_STAT_LOCK_LOW : Fld := ⟨VOTE_STAT_REG, 1, 1⟩
abbrev VOTE_STAT_BRIDGE : Fld := ⟨VOTE_STAT_REG, 2, 1⟩
abbrev VOTE_STAT_RELEASE : Fld := ⟨VOTE_STAT_REG, 3, 1⟩
abbrev VOTE_STAT_MODE : Fld := ⟨VOTE_STAT_REG, 4, 2⟩
abbrev VOTE_STAT_SUSPECT : Fld := ⟨VOTE_STAT_REG, 6, 3⟩
abbrev VOTE_STAT_VA : Fld := ⟨VOTE_STAT_REG, 9, 1⟩
abbrev VOTE_STAT_VSTILL : Fld := ⟨VOTE_STAT_REG, 10, 1⟩
abbrev VOTE_STAT_VETO : Fld := ⟨VOTE_STAT_REG, 11, 1⟩
abbrev VOTE_STAT_EGRESS : Fld := ⟨VOTE_STAT_REG, 12, 1⟩
abbrev VOTE_STAT_ISOL : Fld := ⟨VOTE_STAT_REG, 13, 1⟩
abbrev VOTE_STAT_LOCKED : Fld := ⟨VOTE_STAT_REG, 14, 1⟩
abbrev VOTE_STAT_EDGE_ACT : Fld := ⟨VOTE_STAT_REG, 15, 1⟩
/-- The address of VOTE_WHY. -/
abbrev VOTE_WHY_REG : Nat := 0x40040008
abbrev VOTE_WHY_TRACT : Fld := ⟨VOTE_WHY_REG, 0, 12⟩
abbrev VOTE_WHY_RELEASE : Fld := ⟨VOTE_WHY_REG, 16, 7⟩
/-- The address of VOTE_SIN_STATE. -/
abbrev VOTE_SIN_STATE_REG : Nat := 0x40040010
abbrev VOTE_SIN_STATE_CLOSED : Fld := ⟨VOTE_SIN_STATE_REG, 0, 24⟩
/-- The address of VOTE_SIN_FLT. -/
abbrev VOTE_SIN_FLT_REG : Nat := 0x40040014
abbrev VOTE_SIN_FLT_SEEN : Fld := ⟨VOTE_SIN_FLT_REG, 0, 24⟩
/-- The address of VOTE_CHDIS. -/
abbrev VOTE_CHDIS_REG : Nat := 0x40040018
abbrev VOTE_CHDIS_A : Fld := ⟨VOTE_CHDIS_REG, 0, 8⟩
abbrev VOTE_CHDIS_B : Fld := ⟨VOTE_CHDIS_REG, 8, 8⟩
abbrev VOTE_CHDIS_C : Fld := ⟨VOTE_CHDIS_REG, 16, 8⟩
abbrev VOTE_CHDIS_D2OO2 : Fld := ⟨VOTE_CHDIS_REG, 24, 8⟩
/-- The address of VOTE_FLIM0. -/
abbrev VOTE_FLIM0_REG : Nat := 0x40040020
abbrev VOTE_FLIM0_F_LIM_OUT : Fld := ⟨VOTE_FLIM0_REG, 0, 12⟩
abbrev VOTE_FLIM0_F_LIM_RIND : Fld := ⟨VOTE_FLIM0_REG, 16, 12⟩
/-- The address of VOTE_FLIM1. -/
abbrev VOTE_FLIM1_REG : Nat := 0x40040024
abbrev VOTE_FLIM1_F_LIM_OPEN : Fld := ⟨VOTE_FLIM1_REG, 0, 12⟩
abbrev VOTE_FLIM1_F_LIM_DEGR : Fld := ⟨VOTE_FLIM1_REG, 16, 12⟩
/-- The address of VOTE_RIND. -/
abbrev VOTE_RIND_REG : Nat := 0x40040028
abbrev VOTE_RIND_V_RIND_MAX : Fld := ⟨VOTE_RIND_REG, 0, 8⟩
abbrev VOTE_RIND_DEGR_OVT_MM : Fld := ⟨VOTE_RIND_REG, 8, 8⟩
abbrev VOTE_RIND_TRAP_OPEN_MM : Fld := ⟨VOTE_RIND_REG, 16, 16⟩
/-- The address of VOTE_VETO. -/
abbrev VOTE_VETO_REG : Nat := 0x4004002C
abbrev VOTE_VETO_VETO_MMS : Fld := ⟨VOTE_VETO_REG, 0, 16⟩
abbrev VOTE_VETO_VETO_AGE_MS : Fld := ⟨VOTE_VETO_REG, 16, 16⟩
/-- The address of VOTE_VIS. -/
abbrev VOTE_VIS_REG : Nat := 0x40040030
abbrev VOTE_VIS_CONF_TH : Fld := ⟨VOTE_VIS_REG, 0, 8⟩
abbrev VOTE_VIS_CLEAR_FRAMES : Fld := ⟨VOTE_VIS_REG, 8, 4⟩
abbrev VOTE_VIS_VA_AGE_MS : Fld := ⟨VOTE_VIS_REG, 16, 16⟩
/-- The address of VOTE_TIME. -/
abbrev VOTE_TIME_REG : Nat := 0x40040034
abbrev VOTE_TIME_EGR_DISC_MS : Fld := ⟨VOTE_TIME_REG, 0, 16⟩
abbrev VOTE_TIME_STOP_MAX_MS : Fld := ⟨VOTE_TIME_REG, 16, 16⟩
/-- The address of VOTE_SIGCFG. -/
abbrev VOTE_SIGCFG_REG : Nat := 0x40040038
abbrev VOTE_SIGCFG_CODES : Fld := ⟨VOTE_SIGCFG_REG, 0, 24⟩
/-- The address of VOTE_HOLD. -/
abbrev VOTE_HOLD_REG : Nat := 0x4004003C
abbrev VOTE_HOLD_REL_HOLD : Fld := ⟨VOTE_HOLD_REG, 0, 1⟩
/-- The address of VOTE_FAULT. -/
abbrev VOTE_FAULT_REG : Nat := 0x40040040
abbrev VOTE_FAULT_SEEN : Fld := ⟨VOTE_FAULT_REG, 0, 11⟩
abbrev VOTE_FAULT_WR_ERR : Fld := ⟨VOTE_FAULT_REG, 16, 1⟩
/-- The address of VOTE_RB. -/
abbrev VOTE_RB_REG : Nat := 0x40040044
abbrev VOTE_RB_TRACT_SEEN : Fld := ⟨VOTE_RB_REG, 0, 1⟩
abbrev VOTE_RB_LOCK_DRV : Fld := ⟨VOTE_RB_REG, 1, 1⟩
abbrev VOTE_RB_BRG_EN_N : Fld := ⟨VOTE_RB_REG, 2, 1⟩
abbrev VOTE_RB_TPO : Fld := ⟨VOTE_RB_REG, 3, 4⟩
/-- The address of VOTE_SINn_CFG. -/
abbrev VOTE_SIN_CFG_REG (i : Nat) : Nat := 0x40040100 + 0x4 * i
abbrev VOTE_SIN_CFG_FUNC (i : Nat) : Fld := ⟨VOTE_SIN_CFG_REG i, 0, 4⟩
abbrev VOTE_SIN_CFG_MODE (i : Nat) : Fld := ⟨VOTE_SIN_CFG_REG i, 4, 1⟩
abbrev VOTE_SIN_CFG_TPO (i : Nat) : Fld := ⟨VOTE_SIN_CFG_REG i, 5, 2⟩
abbrev VOTE_SIN_CFG_EN (i : Nat) : Fld := ⟨VOTE_SIN_CFG_REG i, 7, 1⟩
/-- The address of VOTE_MASK. -/
abbrev VOTE_MASK_REG (i : Nat) (j : Nat) (k : Nat) : Nat := 0x40040200 + 0x200 * i + 0x80 * j + 0x4 * k
abbrev VOTE_MASK_ROW (i : Nat) (j : Nat) (k : Nat) : Fld := ⟨VOTE_MASK_REG i j k, 0, 32⟩

/-! ### CAN (spec/12_can_fd.md 12.13) -/

/-- The address of CAN_CTRL. -/
abbrev CAN_CTRL_REG (i : Nat) : Nat := 0x400A0000 + 0x10000 * i
abbrev CAN_CTRL_EN (i : Nat) : Fld := ⟨CAN_CTRL_REG i, 0, 1⟩
abbrev CAN_CTRL_INIT (i : Nat) : Fld := ⟨CAN_CTRL_REG i, 1, 1⟩
abbrev CAN_CTRL_FD_EN (i : Nat) : Fld := ⟨CAN_CTRL_REG i, 2, 1⟩
abbrev CAN_CTRL_BRS_EN (i : Nat) : Fld := ⟨CAN_CTRL_REG i, 3, 1⟩
abbrev CAN_CTRL_SSPE (i : Nat) : Fld := ⟨CAN_CTRL_REG i, 4, 1⟩
abbrev CAN_CTRL_MODE (i : Nat) : Fld := ⟨CAN_CTRL_REG i, 5, 2⟩
/-- The address of CAN_STAT. -/
abbrev CAN_STAT_REG (i : Nat) : Nat := 0x400A0004 + 0x10000 * i
abbrev CAN_STAT_BUSY (i : Nat) : Fld := ⟨CAN_STAT_REG i, 0, 1⟩
abbrev CAN_STAT_INIT_ACK (i : Nat) : Fld := ⟨CAN_STAT_REG i, 1, 1⟩
abbrev CAN_STAT_EW (i : Nat) : Fld := ⟨CAN_STAT_REG i, 2, 1⟩
abbrev CAN_STAT_EP (i : Nat) : Fld := ⟨CAN_STAT_REG i, 3, 1⟩
abbrev CAN_STAT_BO (i : Nat) : Fld := ⟨CAN_STAT_REG i, 4, 1⟩
abbrev CAN_STAT_ERRC (i : Nat) : Fld := ⟨CAN_STAT_REG i, 5, 3⟩
abbrev CAN_STAT_ERRC_D (i : Nat) : Fld := ⟨CAN_STAT_REG i, 8, 3⟩
abbrev CAN_STAT_SSP_SAT (i : Nat) : Fld := ⟨CAN_STAT_REG i, 11, 1⟩
abbrev CAN_STAT_WR_ERR (i : Nat) : Fld := ⟨CAN_STAT_REG i, 12, 1⟩
abbrev CAN_STAT_BO_SEQ (i : Nat) : Fld := ⟨CAN_STAT_REG i, 16, 8⟩
/-- The address of CAN_ECNT. -/
abbrev CAN_ECNT_REG (i : Nat) : Nat := 0x400A0008 + 0x10000 * i
abbrev CAN_ECNT_TEC (i : Nat) : Fld := ⟨CAN_ECNT_REG i, 0, 8⟩
abbrev CAN_ECNT_REC (i : Nat) : Fld := ⟨CAN_ECNT_REG i, 8, 7⟩
abbrev CAN_ECNT_REC_PASSIVE (i : Nat) : Fld := ⟨CAN_ECNT_REG i, 15, 1⟩
abbrev CAN_ECNT_ERR_CNT (i : Nat) : Fld := ⟨CAN_ECNT_REG i, 16, 8⟩
/-- The address of CAN_BTN. -/
abbrev CAN_BTN_REG (i : Nat) : Nat := 0x400A0010 + 0x10000 * i
abbrev CAN_BTN_NTSEG1 (i : Nat) : Fld := ⟨CAN_BTN_REG i, 0, 8⟩
abbrev CAN_BTN_NTSEG2 (i : Nat) : Fld := ⟨CAN_BTN_REG i, 8, 7⟩
abbrev CAN_BTN_NSJW (i : Nat) : Fld := ⟨CAN_BTN_REG i, 16, 7⟩
abbrev CAN_BTN_NBRP (i : Nat) : Fld := ⟨CAN_BTN_REG i, 23, 9⟩
/-- The address of CAN_BTD. -/
abbrev CAN_BTD_REG (i : Nat) : Nat := 0x400A0014 + 0x10000 * i
abbrev CAN_BTD_DTSEG1 (i : Nat) : Fld := ⟨CAN_BTD_REG i, 0, 5⟩
abbrev CAN_BTD_DTSEG2 (i : Nat) : Fld := ⟨CAN_BTD_REG i, 8, 4⟩
abbrev CAN_BTD_DSJW (i : Nat) : Fld := ⟨CAN_BTD_REG i, 16, 4⟩
abbrev CAN_BTD_DBRP (i : Nat) : Fld := ⟨CAN_BTD_REG i, 24, 5⟩
/-- The address of CAN_SSP. -/
abbrev CAN_SSP_REG (i : Nat) : Nat := 0x400A0018 + 0x10000 * i
abbrev CAN_SSP_SSP_OFS (i : Nat) : Fld := ⟨CAN_SSP_REG i, 0, 7⟩
abbrev CAN_SSP_LOOP (i : Nat) : Fld := ⟨CAN_SSP_REG i, 8, 7⟩
/-- The address of CAN_NOMATCH. -/
abbrev CAN_NOMATCH_REG (i : Nat) : Nat := 0x400A0020 + 0x10000 * i
abbrev CAN_NOMATCH_BASE_ACT (i : Nat) : Fld := ⟨CAN_NOMATCH_REG i, 0, 2⟩
abbrev CAN_NOMATCH_EXT_ACT (i : Nat) : Fld := ⟨CAN_NOMATCH_REG i, 2, 2⟩
abbrev CAN_NOMATCH_BASE_RTR_REJ (i : Nat) : Fld := ⟨CAN_NOMATCH_REG i, 4, 1⟩
abbrev CAN_NOMATCH_EXT_RTR_REJ (i : Nat) : Fld := ⟨CAN_NOMATCH_REG i, 5, 1⟩
/-- The address of CAN_MRCFG0. -/
abbrev CAN_MRCFG0_REG (i : Nat) : Nat := 0x400A0030 + 0x10000 * i
abbrev CAN_MRCFG0_NSF (i : Nat) : Fld := ⟨CAN_MRCFG0_REG i, 0, 7⟩
abbrev CAN_MRCFG0_NXF (i : Nat) : Fld := ⟨CAN_MRCFG0_REG i, 8, 7⟩
abbrev CAN_MRCFG0_NF0 (i : Nat) : Fld := ⟨CAN_MRCFG0_REG i, 16, 6⟩
abbrev CAN_MRCFG0_NF1 (i : Nat) : Fld := ⟨CAN_MRCFG0_REG i, 24, 6⟩
/-- The address of CAN_MRCFG1. -/
abbrev CAN_MRCFG1_REG (i : Nat) : Nat := 0x400A0034 + 0x10000 * i
abbrev CAN_MRCFG1_NBUF (i : Nat) : Fld := ⟨CAN_MRCFG1_REG i, 0, 6⟩
abbrev CAN_MRCFG1_NTX (i : Nat) : Fld := ⟨CAN_MRCFG1_REG i, 8, 6⟩
abbrev CAN_MRCFG1_NTEV (i : Nat) : Fld := ⟨CAN_MRCFG1_REG i, 16, 6⟩
/-- The address of CAN_MRCFG2. -/
abbrev CAN_MRCFG2_REG (i : Nat) : Nat := 0x400A0038 + 0x10000 * i
abbrev CAN_MRCFG2_SZF0 (i : Nat) : Fld := ⟨CAN_MRCFG2_REG i, 0, 2⟩
abbrev CAN_MRCFG2_SZF1 (i : Nat) : Fld := ⟨CAN_MRCFG2_REG i, 2, 2⟩
abbrev CAN_MRCFG2_SZBUF (i : Nat) : Fld := ⟨CAN_MRCFG2_REG i, 4, 2⟩
abbrev CAN_MRCFG2_SZTX (i : Nat) : Fld := ⟨CAN_MRCFG2_REG i, 6, 2⟩
/-- The address of CAN_SAn. -/
abbrev CAN_SA_REG (i : Nat) (j : Nat) : Nat := 0x400A0040 + 0x10000 * i + 0x4 * j
abbrev CAN_SA_OFS (i : Nat) (j : Nat) : Fld := ⟨CAN_SA_REG i j, 0, 14⟩
/-- The address of CAN_RXFm_STAT. -/
abbrev CAN_RXF_STAT_REG (i : Nat) (j : Nat) : Nat := 0x400A0060 + 0x10000 * i + 0x8 * j
abbrev CAN_RXF_STAT_FILL (i : Nat) (j : Nat) : Fld := ⟨CAN_RXF_STAT_REG i j, 0, 6⟩
abbrev CAN_RXF_STAT_GET (i : Nat) (j : Nat) : Fld := ⟨CAN_RXF_STAT_REG i j, 8, 5⟩
abbrev CAN_RXF_STAT_PUT (i : Nat) (j : Nat) : Fld := ⟨CAN_RXF_STAT_REG i j, 16, 5⟩
abbrev CAN_RXF_STAT_FULL (i : Nat) (j : Nat) : Fld := ⟨CAN_RXF_STAT_REG i j, 24, 1⟩
abbrev CAN_RXF_STAT_LOST (i : Nat) (j : Nat) : Fld := ⟨CAN_RXF_STAT_REG i j, 25, 7⟩
/-- The address of CAN_RXFm_REL. -/
abbrev CAN_RXF_REL_REG (i : Nat) (j : Nat) : Nat := 0x400A0064 + 0x10000 * i + 0x8 * j
abbrev CAN_RXF_REL_COUNT (i : Nat) (j : Nat) : Fld := ⟨CAN_RXF_REL_REG i j, 0, 6⟩
abbrev CAN_RXF_REL_WM (i : Nat) (j : Nat) : Fld := ⟨CAN_RXF_REL_REG i j, 8, 6⟩
/-- The address of CAN_RXB_NEW. -/
abbrev CAN_RXB_NEW_REG (i : Nat) : Nat := 0x400A0070 + 0x10000 * i
abbrev CAN_RXB_NEW_BITS (i : Nat) : Fld := ⟨CAN_RXB_NEW_REG i, 0, 32⟩
/-- The address of CAN_RXB_OVR. -/
abbrev CAN_RXB_OVR_REG (i : Nat) : Nat := 0x400A0074 + 0x10000 * i
abbrev CAN_RXB_OVR_BITS (i : Nat) : Fld := ⟨CAN_RXB_OVR_REG i, 0, 32⟩
/-- The address of CAN_RXB_LOCK. -/
abbrev CAN_RXB_LOCK_REG (i : Nat) : Nat := 0x400A0078 + 0x10000 * i
abbrev CAN_RXB_LOCK_BITS (i : Nat) : Fld := ⟨CAN_RXB_LOCK_REG i, 0, 32⟩
/-- The address of CAN_RXB_UNLOCK. -/
abbrev CAN_RXB_UNLOCK_REG (i : Nat) : Nat := 0x400A007C + 0x10000 * i
abbrev CAN_RXB_UNLOCK_BITS (i : Nat) : Fld := ⟨CAN_RXB_UNLOCK_REG i, 0, 32⟩
/-- The address of CAN_RXB_CUR. -/
abbrev CAN_RXB_CUR_REG (i : Nat) : Nat := 0x400A0080 + 0x10000 * i
abbrev CAN_RXB_CUR_BITS (i : Nat) : Fld := ⟨CAN_RXB_CUR_REG i, 0, 32⟩
/-- The address of CAN_TX_PEND. -/
abbrev CAN_TX_PEND_REG (i : Nat) : Nat := 0x400A0090 + 0x10000 * i
abbrev CAN_TX_PEND_BITS (i : Nat) : Fld := ⟨CAN_TX_PEND_REG i, 0, 32⟩
/-- The address of CAN_TX_GO. -/
abbrev CAN_TX_GO_REG (i : Nat) : Nat := 0x400A0094 + 0x10000 * i
abbrev CAN_TX_GO_BITS (i : Nat) : Fld := ⟨CAN_TX_GO_REG i, 0, 32⟩
/-- The address of CAN_TX_ABORT. -/
abbrev CAN_TX_ABORT_REG (i : Nat) : Nat := 0x400A0098 + 0x10000 * i
abbrev CAN_TX_ABORT_BITS (i : Nat) : Fld := ⟨CAN_TX_ABORT_REG i, 0, 32⟩
/-- The address of CAN_TX_SENT. -/
abbrev CAN_TX_SENT_REG (i : Nat) : Nat := 0x400A009C + 0x10000 * i
abbrev CAN_TX_SENT_BITS (i : Nat) : Fld := ⟨CAN_TX_SENT_REG i, 0, 32⟩
/-- The address of CAN_TX_ABTD. -/
abbrev CAN_TX_ABTD_REG (i : Nat) : Nat := 0x400A00A0 + 0x10000 * i
abbrev CAN_TX_ABTD_BITS (i : Nat) : Fld := ⟨CAN_TX_ABTD_REG i, 0, 32⟩
/-- The address of CAN_TEV_STAT. -/
abbrev CAN_TEV_STAT_REG (i : Nat) : Nat := 0x400A00B0 + 0x10000 * i
abbrev CAN_TEV_STAT_FILL (i : Nat) : Fld := ⟨CAN_TEV_STAT_REG i, 0, 6⟩
abbrev CAN_TEV_STAT_GET (i : Nat) : Fld := ⟨CAN_TEV_STAT_REG i, 8, 5⟩
abbrev CAN_TEV_STAT_PUT (i : Nat) : Fld := ⟨CAN_TEV_STAT_REG i, 16, 5⟩
abbrev CAN_TEV_STAT_FULL (i : Nat) : Fld := ⟨CAN_TEV_STAT_REG i, 24, 1⟩
abbrev CAN_TEV_STAT_LOST (i : Nat) : Fld := ⟨CAN_TEV_STAT_REG i, 25, 7⟩
/-- The address of CAN_TEV_REL. -/
abbrev CAN_TEV_REL_REG (i : Nat) : Nat := 0x400A00B4 + 0x10000 * i
abbrev CAN_TEV_REL_COUNT (i : Nat) : Fld := ⟨CAN_TEV_REL_REG i, 0, 6⟩
abbrev CAN_TEV_REL_WM (i : Nat) : Fld := ⟨CAN_TEV_REL_REG i, 8, 6⟩
/-- The address of CAN_IR. -/
abbrev CAN_IR_REG (i : Nat) : Nat := 0x400A00C0 + 0x10000 * i
abbrev CAN_IR_BITS (i : Nat) : Fld := ⟨CAN_IR_REG i, 0, 20⟩
/-- The address of CAN_IE. -/
abbrev CAN_IE_REG (i : Nat) : Nat := 0x400A00C4 + 0x10000 * i
abbrev CAN_IE_BITS (i : Nat) : Fld := ⟨CAN_IE_REG i, 0, 20⟩
/-- The address of CAN_TSX_LO. -/
abbrev CAN_TSX_LO_REG (i : Nat) : Nat := 0x400A00D0 + 0x10000 * i
abbrev CAN_TSX_LO_TS (i : Nat) : Fld := ⟨CAN_TSX_LO_REG i, 0, 32⟩
/-- The address of CAN_TSX_HI. -/
abbrev CAN_TSX_HI_REG (i : Nat) : Nat := 0x400A00D4 + 0x10000 * i
abbrev CAN_TSX_HI_TS (i : Nat) : Fld := ⟨CAN_TSX_HI_REG i, 0, 32⟩
/-- The address of CAN_FAULT. -/
abbrev CAN_FAULT_REG (i : Nat) : Nat := 0x400A00E0 + 0x10000 * i
abbrev CAN_FAULT_SEEN (i : Nat) : Fld := ⟨CAN_FAULT_REG i, 0, 6⟩
/-- The address of CAN_ECC. -/
abbrev CAN_ECC_REG (i : Nat) : Nat := 0x400A00E4 + 0x10000 * i
abbrev CAN_ECC_CORR (i : Nat) : Fld := ⟨CAN_ECC_REG i, 0, 16⟩
abbrev CAN_ECC_UNCORR (i : Nat) : Fld := ⟨CAN_ECC_REG i, 16, 16⟩
/-- The address of CAN_CNT. -/
abbrev CAN_CNT_REG (i : Nat) : Nat := 0x400A00F0 + 0x10000 * i
abbrev CAN_CNT_DISC (i : Nat) : Fld := ⟨CAN_CNT_REG i, 0, 16⟩
/-- The address of CAN_CNT_RX. -/
abbrev CAN_CNT_RX_REG (i : Nat) : Nat := 0x400A00F4 + 0x10000 * i
abbrev CAN_CNT_RX_N (i : Nat) : Fld := ⟨CAN_CNT_RX_REG i, 0, 32⟩
/-- The address of CAN_CNT_TX. -/
abbrev CAN_CNT_TX_REG (i : Nat) : Nat := 0x400A00F8 + 0x10000 * i
abbrev CAN_CNT_TX_N (i : Nat) : Fld := ⟨CAN_CNT_TX_REG i, 0, 32⟩

/-! ### ETH (spec/13_ethernet_and_time.md 13.10) -/

/-- The address of ETH_CFG. -/
abbrev ETH_CFG_REG : Nat := 0x400D0000
abbrev ETH_CFG_EN : Fld := ⟨ETH_CFG_REG, 0, 1⟩
abbrev ETH_CFG_IF0 : Fld := ⟨ETH_CFG_REG, 1, 2⟩
abbrev ETH_CFG_IF1 : Fld := ⟨ETH_CFG_REG, 3, 2⟩
abbrev ETH_CFG_SW_EN : Fld := ⟨ETH_CFG_REG, 5, 1⟩
abbrev ETH_CFG_WR_ERR : Fld := ⟨ETH_CFG_REG, 6, 1⟩
/-- The address of ETH_PORTn_CFG. -/
abbrev ETH_PORT_CFG_REG (i : Nat) : Nat := 0x400D0010 + 0x10 * i
abbrev ETH_PORT_CFG_SPEED (i : Nat) : Fld := ⟨ETH_PORT_CFG_REG i, 0, 2⟩
abbrev ETH_PORT_CFG_TXDLY (i : Nat) : Fld := ⟨ETH_PORT_CFG_REG i, 2, 1⟩
abbrev ETH_PORT_CFG_RXDLY (i : Nat) : Fld := ⟨ETH_PORT_CFG_REG i, 3, 1⟩
abbrev ETH_PORT_CFG_PHYAD (i : Nat) : Fld := ⟨ETH_PORT_CFG_REG i, 4, 5⟩
/-- The address of ETH_PORTn_STAT. -/
abbrev ETH_PORT_STAT_REG (i : Nat) : Nat := 0x400D0014 + 0x10 * i
abbrev ETH_PORT_STAT_LINK (i : Nat) : Fld := ⟨ETH_PORT_STAT_REG i, 0, 1⟩
abbrev ETH_PORT_STAT_SPEED (i : Nat) : Fld := ⟨ETH_PORT_STAT_REG i, 1, 2⟩
/-- The address of ETH_PORTn_CNT0. -/
abbrev ETH_PORT_CNT0_REG (i : Nat) : Nat := 0x400D0018 + 0x10 * i
abbrev ETH_PORT_CNT0_RX (i : Nat) : Fld := ⟨ETH_PORT_CNT0_REG i, 0, 32⟩
/-- The address of ETH_PORTn_CNT1. -/
abbrev ETH_PORT_CNT1_REG (i : Nat) : Nat := 0x400D001C + 0x10 * i
abbrev ETH_PORT_CNT1_DROP (i : Nat) : Fld := ⟨ETH_PORT_CNT1_REG i, 0, 32⟩
/-- The address of ETH_MAC_LO. -/
abbrev ETH_MAC_LO_REG : Nat := 0x400D0040
abbrev ETH_MAC_LO_MAC : Fld := ⟨ETH_MAC_LO_REG, 0, 32⟩
/-- The address of ETH_MAC_HI. -/
abbrev ETH_MAC_HI_REG : Nat := 0x400D0044
abbrev ETH_MAC_HI_MAC : Fld := ⟨ETH_MAC_HI_REG, 0, 16⟩
/-- The address of ETH_IP. -/
abbrev ETH_IP_REG : Nat := 0x400D0048
abbrev ETH_IP_ADDR : Fld := ⟨ETH_IP_REG, 0, 32⟩
/-- The address of ETH_MASK. -/
abbrev ETH_MASK_REG : Nat := 0x400D004C
abbrev ETH_MASK_ADDR : Fld := ⟨ETH_MASK_REG, 0, 32⟩
/-- The address of ETH_GW. -/
abbrev ETH_GW_REG : Nat := 0x400D0050
abbrev ETH_GW_ADDR : Fld := ⟨ETH_GW_REG, 0, 32⟩
/-- The address of ETH_VLAN. -/
abbrev ETH_VLAN_REG : Nat := 0x400D0054
abbrev ETH_VLAN_VID : Fld := ⟨ETH_VLAN_REG, 0, 12⟩
abbrev ETH_VLAN_PCP : Fld := ⟨ETH_VLAN_REG, 12, 3⟩
abbrev ETH_VLAN_TAG : Fld := ⟨ETH_VLAN_REG, 15, 1⟩
/-- The address of ETH_SW. -/
abbrev ETH_SW_REG : Nat := 0x400D0060
abbrev ETH_SW_AGE_S : Fld := ⟨ETH_SW_REG, 0, 12⟩
abbrev ETH_SW_ENTRIES : Fld := ⟨ETH_SW_REG, 16, 12⟩
/-- The address of ETH_DROP. -/
abbrev ETH_DROP_REG : Nat := 0x400D0070
abbrev ETH_DROP_OTHER : Fld := ⟨ETH_DROP_REG, 0, 16⟩
abbrev ETH_DROP_FRAG : Fld := ⟨ETH_DROP_REG, 16, 16⟩
/-- The address of ETH_FAULT. -/
abbrev ETH_FAULT_REG : Nat := 0x400D007C
abbrev ETH_FAULT_SEEN : Fld := ⟨ETH_FAULT_REG, 0, 2⟩
abbrev ETH_FAULT_SEEN7 : Fld := ⟨ETH_FAULT_REG, 2, 1⟩

/-! ### TSYN (spec/13_ethernet_and_time.md 13.10) -/

/-- The address of TSYN_CFG. -/
abbrev TSYN_CFG_REG : Nat := 0x400E0000
abbrev TSYN_CFG_GPTP_EN : Fld := ⟨TSYN_CFG_REG, 0, 1⟩
abbrev TSYN_CFG_GPTP_PORT : Fld := ⟨TSYN_CFG_REG, 1, 2⟩
abbrev TSYN_CFG_CAN_EN : Fld := ⟨TSYN_CFG_REG, 3, 1⟩
abbrev TSYN_CFG_CAN_CTRL : Fld := ⟨TSYN_CFG_REG, 4, 2⟩
abbrev TSYN_CFG_PPS_EN : Fld := ⟨TSYN_CFG_REG, 6, 1⟩
/-- The address of TSYN_GPTP. -/
abbrev TSYN_GPTP_REG : Nat := 0x400E0004
abbrev TSYN_GPTP_DOMAIN : Fld := ⟨TSYN_GPTP_REG, 0, 7⟩
abbrev TSYN_GPTP_PD_THRESH : Fld := ⟨TSYN_GPTP_REG, 16, 8⟩
/-- The address of TSYN_SERVO. -/
abbrev TSYN_SERVO_REG : Nat := 0x400E0008
abbrev TSYN_SERVO_TAU_GPTP : Fld := ⟨TSYN_SERVO_REG, 0, 8⟩
abbrev TSYN_SERVO_TAU_CAN : Fld := ⟨TSYN_SERVO_REG, 8, 8⟩
abbrev TSYN_SERVO_SLEW : Fld := ⟨TSYN_SERVO_REG, 16, 16⟩
/-- The address of TSYN_HOLD. -/
abbrev TSYN_HOLD_REG : Nat := 0x400E000C
abbrev TSYN_HOLD_HO_DRIFT : Fld := ⟨TSYN_HOLD_REG, 0, 16⟩
abbrev TSYN_HOLD_PHASE_MAX : Fld := ⟨TSYN_HOLD_REG, 16, 16⟩
/-- The address of TSYN_LAT. -/
abbrev TSYN_LAT_REG : Nat := 0x400E0010
abbrev TSYN_LAT_RX_LAT : Fld := ⟨TSYN_LAT_REG, 0, 16⟩
abbrev TSYN_LAT_TX_LAT : Fld := ⟨TSYN_LAT_REG, 16, 16⟩
/-- The address of TSYN_STAT. -/
abbrev TSYN_STAT_REG : Nat := 0x400E0014
abbrev TSYN_STAT_SRC : Fld := ⟨TSYN_STAT_REG, 0, 2⟩
abbrev TSYN_STAT_SLEWING : Fld := ⟨TSYN_STAT_REG, 2, 1⟩
abbrev TSYN_STAT_SET : Fld := ⟨TSYN_STAT_REG, 3, 1⟩
abbrev TSYN_STAT_Q_GPTP : Fld := ⟨TSYN_STAT_REG, 4, 1⟩
abbrev TSYN_STAT_Q_CAN : Fld := ⟨TSYN_STAT_REG, 5, 1⟩
abbrev TSYN_STAT_AS_CAPABLE : Fld := ⟨TSYN_STAT_REG, 6, 1⟩
abbrev TSYN_STAT_SAT : Fld := ⟨TSYN_STAT_REG, 7, 1⟩
abbrev TSYN_STAT_QUAL : Fld := ⟨TSYN_STAT_REG, 8, 8⟩
abbrev TSYN_STAT_WR_ERR : Fld := ⟨TSYN_STAT_REG, 16, 1⟩
/-- The address of TSYN_TBL_LO. -/
abbrev TSYN_TBL_LO_REG : Nat := 0x400E0020
abbrev TSYN_TBL_LO_T : Fld := ⟨TSYN_TBL_LO_REG, 0, 32⟩
/-- The address of TSYN_TBL_HI. -/
abbrev TSYN_TBL_HI_REG : Nat := 0x400E0024
abbrev TSYN_TBL_HI_T : Fld := ⟨TSYN_TBL_HI_REG, 0, 32⟩
/-- The address of TSYN_TBV_LO. -/
abbrev TSYN_TBV_LO_REG : Nat := 0x400E0028
abbrev TSYN_TBV_LO_T : Fld := ⟨TSYN_TBV_LO_REG, 0, 32⟩
/-- The address of TSYN_TBV_HI. -/
abbrev TSYN_TBV_HI_REG : Nat := 0x400E002C
abbrev TSYN_TBV_HI_T : Fld := ⟨TSYN_TBV_HI_REG, 0, 32⟩
/-- The address of TSYN_FREQ. -/
abbrev TSYN_FREQ_REG : Nat := 0x400E0030
abbrev TSYN_FREQ_Y : Fld := ⟨TSYN_FREQ_REG, 0, 32⟩
/-- The address of TSYN_FREQF. -/
abbrev TSYN_FREQF_REG : Nat := 0x400E0034
abbrev TSYN_FREQF_YF : Fld := ⟨TSYN_FREQF_REG, 0, 32⟩
/-- The address of TSYN_THETA. -/
abbrev TSYN_THETA_REG : Nat := 0x400E0038
abbrev TSYN_THETA_THETA : Fld := ⟨TSYN_THETA_REG, 0, 32⟩
/-- The address of TSYN_PDELAY. -/
abbrev TSYN_PDELAY_REG : Nat := 0x400E003C
abbrev TSYN_PDELAY_PD : Fld := ⟨TSYN_PDELAY_REG, 0, 32⟩
/-- The address of TSYN_GM_LO. -/
abbrev TSYN_GM_LO_REG : Nat := 0x400E0040
abbrev TSYN_GM_LO_ID : Fld := ⟨TSYN_GM_LO_REG, 0, 32⟩
/-- The address of TSYN_GM_HI. -/
abbrev TSYN_GM_HI_REG : Nat := 0x400E0044
abbrev TSYN_GM_HI_ID : Fld := ⟨TSYN_GM_HI_REG, 0, 32⟩
/-- The address of TSYN_BOUND. -/
abbrev TSYN_BOUND_REG : Nat := 0x400E0048
abbrev TSYN_BOUND_BOUND : Fld := ⟨TSYN_BOUND_REG, 0, 32⟩
/-- The address of TSYN_FAULT. -/
abbrev TSYN_FAULT_REG : Nat := 0x400E004C
abbrev TSYN_FAULT_SEEN : Fld := ⟨TSYN_FAULT_REG, 0, 4⟩

/-! ### PAIR (spec/15_lichen_pair.md 15.10) -/

/-- The address of PAIR_CFG. -/
abbrev PAIR_CFG_REG : Nat := 0x40030000
abbrev PAIR_CFG_EN : Fld := ⟨PAIR_CFG_REG, 0, 1⟩
abbrev PAIR_CFG_AUTO_HO : Fld := ⟨PAIR_CFG_REG, 1, 1⟩
abbrev PAIR_CFG_ELECT_WAIT : Fld := ⟨PAIR_CFG_REG, 8, 8⟩
abbrev PAIR_CFG_T_STEER : Fld := ⟨PAIR_CFG_REG, 16, 8⟩
/-- The address of PAIR_STAT. -/
abbrev PAIR_STAT_REG : Nat := 0x40030004
abbrev PAIR_STAT_ROLE : Fld := ⟨PAIR_STAT_REG, 0, 2⟩
abbrev PAIR_STAT_SIDE : Fld := ⟨PAIR_STAT_REG, 2, 1⟩
abbrev PAIR_STAT_HELD : Fld := ⟨PAIR_STAT_REG, 3, 1⟩
abbrev PAIR_STAT_LEASE_IN : Fld := ⟨PAIR_STAT_REG, 4, 1⟩
abbrev PAIR_STAT_STEER : Fld := ⟨PAIR_STAT_REG, 5, 1⟩
abbrev PAIR_STAT_LINK : Fld := ⟨PAIR_STAT_REG, 6, 1⟩
abbrev PAIR_STAT_ONE_LANE : Fld := ⟨PAIR_STAT_REG, 7, 1⟩
abbrev PAIR_STAT_ALONE : Fld := ⟨PAIR_STAT_REG, 8, 1⟩
abbrev PAIR_STAT_SPLIT : Fld := ⟨PAIR_STAT_REG, 9, 1⟩
abbrev PAIR_STAT_MIRROR_STALE : Fld := ⟨PAIR_STAT_REG, 10, 1⟩
abbrev PAIR_STAT_OWN_HEALTH : Fld := ⟨PAIR_STAT_REG, 11, 2⟩
abbrev PAIR_STAT_PEER_HEALTH : Fld := ⟨PAIR_STAT_REG, 13, 2⟩
abbrev PAIR_STAT_WR_ERR : Fld := ⟨PAIR_STAT_REG, 15, 1⟩
/-- The address of PAIR_EPOCH. -/
abbrev PAIR_EPOCH_REG : Nat := 0x40030008
abbrev PAIR_EPOCH_EPOCH : Fld := ⟨PAIR_EPOCH_REG, 0, 32⟩
/-- The address of PAIR_PEER_EPOCH. -/
abbrev PAIR_PEER_EPOCH_REG : Nat := 0x4003000C
abbrev PAIR_PEER_EPOCH_EPOCH : Fld := ⟨PAIR_PEER_EPOCH_REG, 0, 32⟩
/-- The address of PAIR_HEALTH. -/
abbrev PAIR_HEALTH_REG : Nat := 0x40030010
abbrev PAIR_HEALTH_CHECKS : Fld := ⟨PAIR_HEALTH_REG, 0, 11⟩
/-- The address of PAIR_PEER_HEALTH. -/
abbrev PAIR_PEER_HEALTH_REG : Nat := 0x40030014
abbrev PAIR_PEER_HEALTH_CHECKS : Fld := ⟨PAIR_PEER_HEALTH_REG, 0, 11⟩
/-- The address of PAIR_HO_CTRL. -/
abbrev PAIR_HO_CTRL_REG : Nat := 0x40030018
abbrev PAIR_HO_CTRL_HO_GO : Fld := ⟨PAIR_HO_CTRL_REG, 0, 1⟩
/-- The address of PAIR_HO_STAT. -/
abbrev PAIR_HO_STAT_REG : Nat := 0x4003001C
abbrev PAIR_HO_STAT_BUSY : Fld := ⟨PAIR_HO_STAT_REG, 0, 1⟩
abbrev PAIR_HO_STAT_RESULT : Fld := ⟨PAIR_HO_STAT_REG, 4, 4⟩
/-- The address of PAIR_LAST_GAP. -/
abbrev PAIR_LAST_GAP_REG : Nat := 0x40030020
abbrev PAIR_LAST_GAP_GAP_US : Fld := ⟨PAIR_LAST_GAP_REG, 0, 16⟩
abbrev PAIR_LAST_GAP_PLANNED : Fld := ⟨PAIR_LAST_GAP_REG, 16, 1⟩
abbrev PAIR_LAST_GAP_COLD : Fld := ⟨PAIR_LAST_GAP_REG, 17, 1⟩
/-- The address of PAIR_CNT. -/
abbrev PAIR_CNT_REG : Nat := 0x40030024
abbrev PAIR_CNT_TAKEOVERS : Fld := ⟨PAIR_CNT_REG, 0, 16⟩
abbrev PAIR_CNT_HANDOVERS : Fld := ⟨PAIR_CNT_REG, 16, 16⟩
/-- The address of PAIR_LINK_CNT. -/
abbrev PAIR_LINK_CNT_REG : Nat := 0x40030028
abbrev PAIR_LINK_CNT_CRC : Fld := ⟨PAIR_LINK_CNT_REG, 0, 16⟩
abbrev PAIR_LINK_CNT_MISSED : Fld := ⟨PAIR_LINK_CNT_REG, 16, 16⟩
/-- The address of PAIR_OFFSET_LO. -/
abbrev PAIR_OFFSET_LO_REG : Nat := 0x40030030
abbrev PAIR_OFFSET_LO_OFS : Fld := ⟨PAIR_OFFSET_LO_REG, 0, 32⟩
/-- The address of PAIR_OFFSET_HI. -/
abbrev PAIR_OFFSET_HI_REG : Nat := 0x40030034
abbrev PAIR_OFFSET_HI_OFS : Fld := ⟨PAIR_OFFSET_HI_REG, 0, 32⟩
/-- The address of PAIR_FAULT. -/
abbrev PAIR_FAULT_REG : Nat := 0x4003003C
abbrev PAIR_FAULT_SEEN : Fld := ⟨PAIR_FAULT_REG, 0, 11⟩

/-! ### WQM (spec/16_ledger_and_acceptance.md 16.10) -/

/-- The address of WQM_STAT. -/
abbrev WQM_STAT_REG : Nat := 0x400F0000
abbrev WQM_STAT_IN_USE : Fld := ⟨WQM_STAT_REG, 0, 13⟩
abbrev WQM_STAT_RESYNC : Fld := ⟨WQM_STAT_REG, 13, 1⟩
abbrev WQM_STAT_UNMIRRORED : Fld := ⟨WQM_STAT_REG, 14, 1⟩
abbrev WQM_STAT_WR_ERR : Fld := ⟨WQM_STAT_REG, 15, 1⟩
/-- The address of WQM_JRN_HEAD. -/
abbrev WQM_JRN_HEAD_REG : Nat := 0x400F0004
abbrev WQM_JRN_HEAD_SLOT : Fld := ⟨WQM_JRN_HEAD_REG, 0, 12⟩
/-- The address of WQM_JRN_TAIL. -/
abbrev WQM_JRN_TAIL_REG : Nat := 0x400F0008
abbrev WQM_JRN_TAIL_SLOT : Fld := ⟨WQM_JRN_TAIL_REG, 0, 12⟩
/-- The address of WQM_CNT_ACC. -/
abbrev WQM_CNT_ACC_REG : Nat := 0x400F0010
abbrev WQM_CNT_ACC_N : Fld := ⟨WQM_CNT_ACC_REG, 0, 32⟩
/-- The address of WQM_CNT_REF. -/
abbrev WQM_CNT_REF_REG : Nat := 0x400F0014
abbrev WQM_CNT_REF_N : Fld := ⟨WQM_CNT_REF_REG, 0, 32⟩
/-- The address of WQM_CNT_RPL. -/
abbrev WQM_CNT_RPL_REG : Nat := 0x400F0018
abbrev WQM_CNT_RPL_N : Fld := ⟨WQM_CNT_RPL_REG, 0, 32⟩
/-- The address of WQM_FAULT. -/
abbrev WQM_FAULT_REG : Nat := 0x400F001C
abbrev WQM_FAULT_SEEN : Fld := ⟨WQM_FAULT_REG, 0, 4⟩
/-- The address of WQM_Qn_CFG. -/
abbrev WQM_Q_CFG_REG (i : Nat) : Nat := 0x400F0400 + 0x10 * i
abbrev WQM_Q_CFG_SOURCE (i : Nat) : Fld := ⟨WQM_Q_CFG_REG i, 0, 5⟩
abbrev WQM_Q_CFG_EN (i : Nat) : Fld := ⟨WQM_Q_CFG_REG i, 5, 1⟩
abbrev WQM_Q_CFG_DOOR (i : Nat) : Fld := ⟨WQM_Q_CFG_REG i, 6, 1⟩
abbrev WQM_Q_CFG_LOG (i : Nat) : Fld := ⟨WQM_Q_CFG_REG i, 7, 1⟩
/-- The address of WQM_Qn_STAT. -/
abbrev WQM_Q_STAT_REG (i : Nat) : Nat := 0x400F0404 + 0x10 * i
abbrev WQM_Q_STAT_FILL (i : Nat) : Fld := ⟨WQM_Q_STAT_REG i, 0, 9⟩
abbrev WQM_Q_STAT_HELD (i : Nat) : Fld := ⟨WQM_Q_STAT_REG i, 9, 1⟩
/-- The address of WQM_Qn_SEQ. -/
abbrev WQM_Q_SEQ_REG (i : Nat) : Nat := 0x400F0408 + 0x10 * i
abbrev WQM_Q_SEQ_QSEQ (i : Nat) : Fld := ⟨WQM_Q_SEQ_REG i, 0, 32⟩
/-- The address of WQM_Qn_DONE. -/
abbrev WQM_Q_DONE_REG (i : Nat) : Nat := 0x400F040C + 0x10 * i
abbrev WQM_Q_DONE_QSEQ (i : Nat) : Fld := ⟨WQM_Q_DONE_REG i, 0, 32⟩

/-! ### LEDG (spec/16_ledger_and_acceptance.md 16.10) -/

/-- The address of LEDG_STAT. -/
abbrev LEDG_STAT_REG : Nat := 0x40100000
abbrev LEDG_STAT_GAP_OPEN : Fld := ⟨LEDG_STAT_REG, 0, 1⟩
abbrev LEDG_STAT_EXPORT : Fld := ⟨LEDG_STAT_REG, 1, 1⟩
abbrev LEDG_STAT_THINNING : Fld := ⟨LEDG_STAT_REG, 2, 1⟩
abbrev LEDG_STAT_LOSING : Fld := ⟨LEDG_STAT_REG, 3, 1⟩
abbrev LEDG_STAT_WR_ERR : Fld := ⟨LEDG_STAT_REG, 4, 1⟩
/-- The address of LEDG_SEQ_LO. -/
abbrev LEDG_SEQ_LO_REG : Nat := 0x40100004
abbrev LEDG_SEQ_LO_SEQ : Fld := ⟨LEDG_SEQ_LO_REG, 0, 32⟩
/-- The address of LEDG_SEQ_HI. -/
abbrev LEDG_SEQ_HI_REG : Nat := 0x40100008
abbrev LEDG_SEQ_HI_SEQ : Fld := ⟨LEDG_SEQ_HI_REG, 0, 16⟩
/-- The address of LEDG_EXP_LO. -/
abbrev LEDG_EXP_LO_REG : Nat := 0x4010000C
abbrev LEDG_EXP_LO_SEQ : Fld := ⟨LEDG_EXP_LO_REG, 0, 32⟩
/-- The address of LEDG_EXP_HI. -/
abbrev LEDG_EXP_HI_REG : Nat := 0x40100010
abbrev LEDG_EXP_HI_SEQ : Fld := ⟨LEDG_EXP_HI_REG, 0, 16⟩
/-- The address of LEDG_OLD_LO. -/
abbrev LEDG_OLD_LO_REG : Nat := 0x40100014
abbrev LEDG_OLD_LO_SEQ : Fld := ⟨LEDG_OLD_LO_REG, 0, 32⟩
/-- The address of LEDG_OLD_HI. -/
abbrev LEDG_OLD_HI_REG : Nat := 0x40100018
abbrev LEDG_OLD_HI_SEQ : Fld := ⟨LEDG_OLD_HI_REG, 0, 16⟩
/-- The address of LEDG_FILL. -/
abbrev LEDG_FILL_REG : Nat := 0x4010001C
abbrev LEDG_FILL_UNEXP : Fld := ⟨LEDG_FILL_REG, 0, 16⟩
abbrev LEDG_FILL_DETAIL : Fld := ⟨LEDG_FILL_REG, 16, 16⟩
/-- The address of LEDG_THIN. -/
abbrev LEDG_THIN_REG : Nat := 0x40100020
abbrev LEDG_THIN_N : Fld := ⟨LEDG_THIN_REG, 0, 32⟩
/-- The address of LEDG_LOST. -/
abbrev LEDG_LOST_REG : Nat := 0x40100024
abbrev LEDG_LOST_N : Fld := ⟨LEDG_LOST_REG, 0, 32⟩
/-- The address of LEDG_CFG. -/
abbrev LEDG_CFG_REG : Nat := 0x40100028
abbrev LEDG_CFG_DETAIL_EN : Fld := ⟨LEDG_CFG_REG, 0, 1⟩
abbrev LEDG_CFG_CMD_EN : Fld := ⟨LEDG_CFG_REG, 1, 1⟩
/-- The address of LEDG_HOLD. -/
abbrev LEDG_HOLD_REG : Nat := 0x40100030
abbrev LEDG_HOLD_HELD : Fld := ⟨LEDG_HOLD_REG, 0, 7⟩
abbrev LEDG_HOLD_DISCARDED : Fld := ⟨LEDG_HOLD_REG, 16, 16⟩
/-- The address of LEDG_FAULT. -/
abbrev LEDG_FAULT_REG : Nat := 0x4010003C
abbrev LEDG_FAULT_SEEN : Fld := ⟨LEDG_FAULT_REG, 0, 5⟩

/-! ### CON (spec/17_rurax_language.md 17.11) -/

/-- The address of CON_UARTn_CFG. -/
abbrev CON_UART_CFG_REG (i : Nat) : Nat := 0x40110000 + 0x4 * i
abbrev CON_UART_CFG_BAUD (i : Nat) : Fld := ⟨CON_UART_CFG_REG i, 0, 3⟩
/-- The address of CON_CFG. -/
abbrev CON_CFG_REG : Nat := 0x40110008
abbrev CON_CFG_CON_IDLE : Fld := ⟨CON_CFG_REG, 0, 12⟩
/-- The address of CON_OP_ALLOWk. -/
abbrev CON_OP_ALLOW_REG (i : Nat) : Nat := 0x40110010 + 0x4 * i
abbrev CON_OP_ALLOW_ADDR (i : Nat) : Fld := ⟨CON_OP_ALLOW_REG i, 0, 32⟩
/-- The address of CON_SESS_STAT. -/
abbrev CON_SESS_STAT_REG : Nat := 0x40110020
abbrev CON_SESS_STAT_OPEN : Fld := ⟨CON_SESS_STAT_REG, 0, 6⟩
abbrev CON_SESS_STAT_ROLE : Fld := ⟨CON_SESS_STAT_REG, 6, 12⟩
abbrev CON_SESS_STAT_GEN : Fld := ⟨CON_SESS_STAT_REG, 18, 6⟩
/-- The address of CON_FAULT. -/
abbrev CON_FAULT_REG : Nat := 0x4011003C
abbrev CON_FAULT_SEEN : Fld := ⟨CON_FAULT_REG, 0, 1⟩

/-! ### UPD (spec/20_update_and_service.md 20.10) -/

/-- The address of UPD_CFG. -/
abbrev UPD_CFG_REG : Nat := 0x40120000
abbrev UPD_CFG_RST_GPIO : Fld := ⟨UPD_CFG_REG, 0, 3⟩
abbrev UPD_CFG_RST_EN : Fld := ⟨UPD_CFG_REG, 3, 1⟩
abbrev UPD_CFG_RST_DLY : Fld := ⟨UPD_CFG_REG, 4, 6⟩
/-- The address of UPD_STAT. -/
abbrev UPD_STAT_REG : Nat := 0x40120004
abbrev UPD_STAT_BUSY : Fld := ⟨UPD_STAT_REG, 0, 1⟩
abbrev UPD_STAT_TRIAL : Fld := ⟨UPD_STAT_REG, 1, 1⟩
abbrev UPD_STAT_PENDING_RST : Fld := ⟨UPD_STAT_REG, 2, 1⟩
abbrev UPD_STAT_WR_ERR : Fld := ⟨UPD_STAT_REG, 3, 1⟩
/-- The address of UPD_TRIAL. -/
abbrev UPD_TRIAL_REG : Nat := 0x40120008
abbrev UPD_TRIAL_IMAGES : Fld := ⟨UPD_TRIAL_REG, 0, 9⟩
abbrev UPD_TRIAL_TRIAL_BOOTS : Fld := ⟨UPD_TRIAL_REG, 12, 4⟩
abbrev UPD_TRIAL_SECONDS : Fld := ⟨UPD_TRIAL_REG, 16, 10⟩
/-- The address of UPD_PTR. -/
abbrev UPD_PTR_REG : Nat := 0x4012000C
abbrev UPD_PTR_SEL : Fld := ⟨UPD_PTR_REG, 0, 9⟩
/-- The address of UPD_PTR_SEQ. -/
abbrev UPD_PTR_SEQ_REG : Nat := 0x40120010
abbrev UPD_PTR_SEQ_SEQ : Fld := ⟨UPD_PTR_SEQ_REG, 0, 32⟩
/-- The address of UPD_FAULT. -/
abbrev UPD_FAULT_REG : Nat := 0x4012003C
abbrev UPD_FAULT_SEEN : Fld := ⟨UPD_FAULT_REG, 0, 5⟩
/-- The address of UPD_SLOTi_STAT. -/
abbrev UPD_SLOT_STAT_REG (i : Nat) : Nat := 0x40120100 + 0x8 * i
abbrev UPD_SLOT_STAT_STATE (i : Nat) : Fld := ⟨UPD_SLOT_STAT_REG i, 0, 4⟩
abbrev UPD_SLOT_STAT_MARK (i : Nat) : Fld := ⟨UPD_SLOT_STAT_REG i, 16, 16⟩
/-- The address of UPD_SLOTi_VER. -/
abbrev UPD_SLOT_VER_REG (i : Nat) : Nat := 0x40120104 + 0x8 * i
abbrev UPD_SLOT_VER_VERSION (i : Nat) : Fld := ⟨UPD_SLOT_VER_REG i, 0, 32⟩

/-! ### FUSE (spec/20_update_and_service.md 20.10) -/

/-- The address of FUSE_KEYSTAT. -/
abbrev FUSE_KEYSTAT_REG : Nat := 0x40010080
abbrev FUSE_KEYSTAT_PROGRAMMED : Fld := ⟨FUSE_KEYSTAT_REG, 0, 8⟩
abbrev FUSE_KEYSTAT_REVOKED : Fld := ⟨FUSE_KEYSTAT_REG, 8, 8⟩
/-- The address of FUSE_SVN_SAFE. -/
abbrev FUSE_SVN_SAFE_REG : Nat := 0x40010084
abbrev FUSE_SVN_SAFE_SVN : Fld := ⟨FUSE_SVN_SAFE_REG, 0, 32⟩
/-- The address of FUSE_SVN_APP. -/
abbrev FUSE_SVN_APP_REG : Nat := 0x40010088
abbrev FUSE_SVN_APP_SVN : Fld := ⟨FUSE_SVN_APP_REG, 0, 32⟩

/-! ### FLT (spec/21_faults_and_long_run.md 21.7) -/

/-- The address of FLT_STAT. -/
abbrev FLT_STAT_REG : Nat := 0x40130000
abbrev FLT_STAT_CUR : Fld := ⟨FLT_STAT_REG, 0, 16⟩
abbrev FLT_STAT_CUR_SEV : Fld := ⟨FLT_STAT_REG, 16, 3⟩
abbrev FLT_STAT_LEVEL : Fld := ⟨FLT_STAT_REG, 19, 5⟩
abbrev FLT_STAT_MAX_SEV : Fld := ⟨FLT_STAT_REG, 24, 3⟩
abbrev FLT_STAT_SUSP : Fld := ⟨FLT_STAT_REG, 27, 4⟩
abbrev FLT_STAT_FAULTN : Fld := ⟨FLT_STAT_REG, 31, 1⟩
/-- The address of FLT_OVF. -/
abbrev FLT_OVF_REG : Nat := 0x40130004
abbrev FLT_OVF_CODE : Fld := ⟨FLT_OVF_REG, 0, 16⟩
abbrev FLT_OVF_COUNT : Fld := ⟨FLT_OVF_REG, 16, 16⟩
/-- The address of FLT_LIST_IDX. -/
abbrev FLT_LIST_IDX_REG : Nat := 0x40130010
abbrev FLT_LIST_IDX_IDX : Fld := ⟨FLT_LIST_IDX_REG, 0, 7⟩
/-- The address of FLT_LIST_ENT. -/
abbrev FLT_LIST_ENT_REG : Nat := 0x40130014
abbrev FLT_LIST_ENT_CODE : Fld := ⟨FLT_LIST_ENT_REG, 0, 16⟩
abbrev FLT_LIST_ENT_SEV : Fld := ⟨FLT_LIST_ENT_REG, 16, 3⟩
abbrev FLT_LIST_ENT_ESC : Fld := ⟨FLT_LIST_ENT_REG, 19, 1⟩
abbrev FLT_LIST_ENT_COUNT : Fld := ⟨FLT_LIST_ENT_REG, 24, 8⟩
/-- The address of FLT_LIST_FIRST_LO. -/
abbrev FLT_LIST_FIRST_LO_REG : Nat := 0x40130018
abbrev FLT_LIST_FIRST_LO_TS : Fld := ⟨FLT_LIST_FIRST_LO_REG, 0, 32⟩
/-- The address of FLT_LIST_FIRST_HI. -/
abbrev FLT_LIST_FIRST_HI_REG : Nat := 0x4013001C
abbrev FLT_LIST_FIRST_HI_TS : Fld := ⟨FLT_LIST_FIRST_HI_REG, 0, 32⟩
/-- The address of FLT_LIST_LAST_LO. -/
abbrev FLT_LIST_LAST_LO_REG : Nat := 0x40130020
abbrev FLT_LIST_LAST_LO_TS : Fld := ⟨FLT_LIST_LAST_LO_REG, 0, 32⟩
/-- The address of FLT_LIST_LAST_HI. -/
abbrev FLT_LIST_LAST_HI_REG : Nat := 0x40130024
abbrev FLT_LIST_LAST_HI_TS : Fld := ⟨FLT_LIST_LAST_HI_REG, 0, 32⟩
/-- The address of FLT_COUNT. -/
abbrev FLT_COUNT_REG : Nat := 0x40130028
abbrev FLT_COUNT_N : Fld := ⟨FLT_COUNT_REG, 0, 7⟩
/-- The address of FLT_ACK. -/
abbrev FLT_ACK_REG : Nat := 0x40130030
abbrev FLT_ACK_CODE : Fld := ⟨FLT_ACK_REG, 0, 16⟩
/-- The address of FLT_ACK_RES. -/
abbrev FLT_ACK_RES_REG : Nat := 0x40130034
abbrev FLT_ACK_RES_RES : Fld := ⟨FLT_ACK_RES_REG, 0, 2⟩
/-- The address of FLT_RAISED. -/
abbrev FLT_RAISED_REG : Nat := 0x40130038
abbrev FLT_RAISED_N : Fld := ⟨FLT_RAISED_REG, 0, 32⟩
/-- The address of FLT_FAULT. -/
abbrev FLT_FAULT_REG : Nat := 0x4013003C
abbrev FLT_FAULT_F0211 : Fld := ⟨FLT_FAULT_REG, 0, 1⟩
abbrev FLT_FAULT_F0230 : Fld := ⟨FLT_FAULT_REG, 1, 1⟩

/-! ### NOS (spec/10_nosora_engine.md 10.10) -/

/-- The address of NOS_CTRL. -/
abbrev NOS_CTRL_REG : Nat := 0x50000000
abbrev NOS_CTRL_ENABLE : Fld := ⟨NOS_CTRL_REG, 0, 1⟩
abbrev NOS_CTRL_TEN_EN : Fld := ⟨NOS_CTRL_REG, 4, 4⟩
/-- The address of NOS_STAT. -/
abbrev NOS_STAT_REG : Nat := 0x50000004
abbrev NOS_STAT_RUNNING : Fld := ⟨NOS_STAT_REG, 0, 1⟩
abbrev NOS_STAT_LOADED : Fld := ⟨NOS_STAT_REG, 4, 4⟩
abbrev NOS_STAT_RUNNING_T : Fld := ⟨NOS_STAT_REG, 8, 4⟩
abbrev NOS_STAT_CAM_UP : Fld := ⟨NOS_STAT_REG, 12, 2⟩
abbrev NOS_STAT_WR_ERR : Fld := ⟨NOS_STAT_REG, 14, 1⟩
/-- The address of NOS_FAULT. -/
abbrev NOS_FAULT_REG : Nat := 0x50000008
abbrev NOS_FAULT_SEEN : Fld := ⟨NOS_FAULT_REG, 0, 9⟩
/-- The address of NOS_CAMn_CFG. -/
abbrev NOS_CAM_CFG_REG (i : Nat) : Nat := 0x50000040 + 0x40 * i
abbrev NOS_CAM_CFG_EN (i : Nat) : Fld := ⟨NOS_CAM_CFG_REG i, 0, 1⟩
abbrev NOS_CAM_CFG_LANES (i : Nat) : Fld := ⟨NOS_CAM_CFG_REG i, 1, 2⟩
abbrev NOS_CAM_CFG_VC (i : Nat) : Fld := ⟨NOS_CAM_CFG_REG i, 3, 2⟩
abbrev NOS_CAM_CFG_DT (i : Nat) : Fld := ⟨NOS_CAM_CFG_REG i, 5, 2⟩
abbrev NOS_CAM_CFG_SHIFT (i : Nat) : Fld := ⟨NOS_CAM_CFG_REG i, 7, 3⟩
abbrev NOS_CAM_CFG_FN_MODE (i : Nat) : Fld := ⟨NOS_CAM_CFG_REG i, 10, 1⟩
abbrev NOS_CAM_CFG_FE_EN (i : Nat) : Fld := ⟨NOS_CAM_CFG_REG i, 11, 1⟩
abbrev NOS_CAM_CFG_FE_JOB0 (i : Nat) : Fld := ⟨NOS_CAM_CFG_REG i, 12, 6⟩
abbrev NOS_CAM_CFG_FE_JOB1 (i : Nat) : Fld := ⟨NOS_CAM_CFG_REG i, 18, 6⟩
/-- The address of NOS_CAMn_GEOM. -/
abbrev NOS_CAM_GEOM_REG (i : Nat) : Nat := 0x50000044 + 0x40 * i
abbrev NOS_CAM_GEOM_WIDTH (i : Nat) : Fld := ⟨NOS_CAM_GEOM_REG i, 0, 12⟩
abbrev NOS_CAM_GEOM_LINES (i : Nat) : Fld := ⟨NOS_CAM_GEOM_REG i, 16, 12⟩
/-- The address of NOS_CAMn_RING. -/
abbrev NOS_CAM_RING_REG (i : Nat) : Nat := 0x50000048 + 0x40 * i
abbrev NOS_CAM_RING_RING_LINES (i : Nat) : Fld := ⟨NOS_CAM_RING_REG i, 0, 12⟩
/-- The address of NOS_CAMn_EXPLAT. -/
abbrev NOS_CAM_EXPLAT_REG (i : Nat) : Nat := 0x5000004C + 0x40 * i
abbrev NOS_CAM_EXPLAT_EXP_LAT_US (i : Nat) : Fld := ⟨NOS_CAM_EXPLAT_REG i, 0, 16⟩
/-- The address of NOS_CAMn_FIDX_LO. -/
abbrev NOS_CAM_FIDX_LO_REG (i : Nat) : Nat := 0x50000050 + 0x40 * i
abbrev NOS_CAM_FIDX_LO_FIDX (i : Nat) : Fld := ⟨NOS_CAM_FIDX_LO_REG i, 0, 32⟩
/-- The address of NOS_CAMn_FIDX_HI. -/
abbrev NOS_CAM_FIDX_HI_REG (i : Nat) : Nat := 0x50000054 + 0x40 * i
abbrev NOS_CAM_FIDX_HI_FIDX (i : Nat) : Fld := ⟨NOS_CAM_FIDX_HI_REG i, 0, 16⟩
/-- The address of NOS_CAMn_FS_TS_LO. -/
abbrev NOS_CAM_FS_TS_LO_REG (i : Nat) : Nat := 0x50000058 + 0x40 * i
abbrev NOS_CAM_FS_TS_LO_TS (i : Nat) : Fld := ⟨NOS_CAM_FS_TS_LO_REG i, 0, 32⟩
/-- The address of NOS_CAMn_FS_TS_HI. -/
abbrev NOS_CAM_FS_TS_HI_REG (i : Nat) : Nat := 0x5000005C + 0x40 * i
abbrev NOS_CAM_FS_TS_HI_TS (i : Nat) : Fld := ⟨NOS_CAM_FS_TS_HI_REG i, 0, 32⟩
/-- The address of NOS_CAMn_STAT. -/
abbrev NOS_CAM_STAT_REG (i : Nat) : Nat := 0x50000060 + 0x40 * i
abbrev NOS_CAM_STAT_STREAM (i : Nat) : Fld := ⟨NOS_CAM_STAT_REG i, 0, 1⟩
abbrev NOS_CAM_STAT_FN_JUMP (i : Nat) : Fld := ⟨NOS_CAM_STAT_REG i, 1, 1⟩
abbrev NOS_CAM_STAT_WR_ERR (i : Nat) : Fld := ⟨NOS_CAM_STAT_REG i, 2, 1⟩
abbrev NOS_CAM_STAT_SHORT (i : Nat) : Fld := ⟨NOS_CAM_STAT_REG i, 3, 1⟩
abbrev NOS_CAM_STAT_FRAME_LINES (i : Nat) : Fld := ⟨NOS_CAM_STAT_REG i, 16, 16⟩
/-- The address of NOS_CAMn_ERR. -/
abbrev NOS_CAM_ERR_REG (i : Nat) : Nat := 0x50000064 + 0x40 * i
abbrev NOS_CAM_ERR_ECC_CORR (i : Nat) : Fld := ⟨NOS_CAM_ERR_REG i, 0, 8⟩
abbrev NOS_CAM_ERR_LINE_BAD (i : Nat) : Fld := ⟨NOS_CAM_ERR_REG i, 8, 8⟩
abbrev NOS_CAM_ERR_DT_IGN (i : Nat) : Fld := ⟨NOS_CAM_ERR_REG i, 16, 8⟩
abbrev NOS_CAM_ERR_FRAMES_LOST (i : Nat) : Fld := ⟨NOS_CAM_ERR_REG i, 24, 8⟩
/-- The address of NOS_TENn_CFG. -/
abbrev NOS_TEN_CFG_REG (i : Nat) : Nat := 0x50000100 + 0x40 * i
abbrev NOS_TEN_CFG_CLU_MASK (i : Nat) : Fld := ⟨NOS_TEN_CFG_REG i, 0, 4⟩
/-- The address of NOS_TENn_BASE. -/
abbrev NOS_TEN_BASE_REG (i : Nat) : Nat := 0x50000104 + 0x40 * i
abbrev NOS_TEN_BASE_OFS (i : Nat) : Fld := ⟨NOS_TEN_BASE_REG i, 0, 32⟩
/-- The address of NOS_TENn_SIZE. -/
abbrev NOS_TEN_SIZE_REG (i : Nat) : Nat := 0x50000108 + 0x40 * i
abbrev NOS_TEN_SIZE_SIZE (i : Nat) : Fld := ⟨NOS_TEN_SIZE_REG i, 0, 32⟩
/-- The address of NOS_TENn_STAT. -/
abbrev NOS_TEN_STAT_REG (i : Nat) : Nat := 0x5000010C + 0x40 * i
abbrev NOS_TEN_STAT_LOADED (i : Nat) : Fld := ⟨NOS_TEN_STAT_REG i, 0, 1⟩
abbrev NOS_TEN_STAT_RUNNING (i : Nat) : Fld := ⟨NOS_TEN_STAT_REG i, 1, 1⟩
abbrev NOS_TEN_STAT_JOBS (i : Nat) : Fld := ⟨NOS_TEN_STAT_REG i, 2, 7⟩
/-- The address of NOS_TENn_VER. -/
abbrev NOS_TEN_VER_REG (i : Nat) : Nat := 0x50000110 + 0x40 * i
abbrev NOS_TEN_VER_VER (i : Nat) : Fld := ⟨NOS_TEN_VER_REG i, 0, 32⟩
/-- The address of NOS_TENn_LMAX. -/
abbrev NOS_TEN_LMAX_REG (i : Nat) : Nat := 0x50000114 + 0x40 * i
abbrev NOS_TEN_LMAX_LMAX (i : Nat) : Fld := ⟨NOS_TEN_LMAX_REG i, 0, 32⟩
/-- The address of NOS_TENn_LOADERR. -/
abbrev NOS_TEN_LOADERR_REG (i : Nat) : Nat := 0x50000118 + 0x40 * i
abbrev NOS_TEN_LOADERR_INDEX (i : Nat) : Fld := ⟨NOS_TEN_LOADERR_REG i, 0, 12⟩
abbrev NOS_TEN_LOADERR_CAUSE (i : Nat) : Fld := ⟨NOS_TEN_LOADERR_REG i, 16, 4⟩
abbrev NOS_TEN_LOADERR_SECTION (i : Nat) : Fld := ⟨NOS_TEN_LOADERR_REG i, 24, 4⟩
/-- The address of NOS_TENn_JOBS. -/
abbrev NOS_TEN_JOBS_REG (i : Nat) : Nat := 0x5000011C + 0x40 * i
abbrev NOS_TEN_JOBS_N (i : Nat) : Fld := ⟨NOS_TEN_JOBS_REG i, 0, 32⟩
/-- The address of NOS_TENn_DROP. -/
abbrev NOS_TEN_DROP_REG (i : Nat) : Nat := 0x50000120 + 0x40 * i
abbrev NOS_TEN_DROP_DROP (i : Nat) : Fld := ⟨NOS_TEN_DROP_REG i, 0, 8⟩
abbrev NOS_TEN_DROP_OVERRUN (i : Nat) : Fld := ⟨NOS_TEN_DROP_REG i, 8, 8⟩
abbrev NOS_TEN_DROP_STALE (i : Nat) : Fld := ⟨NOS_TEN_DROP_REG i, 16, 8⟩
abbrev NOS_TEN_DROP_DEP_ABANDON (i : Nat) : Fld := ⟨NOS_TEN_DROP_REG i, 24, 8⟩
/-- The address of NOS_GRIDg_FIDX_LO. -/
abbrev NOS_GRID_FIDX_LO_REG (i : Nat) : Nat := 0x50000400 + 0x20 * i
abbrev NOS_GRID_FIDX_LO_FIDX (i : Nat) : Fld := ⟨NOS_GRID_FIDX_LO_REG i, 0, 32⟩
/-- The address of NOS_GRIDg_FIDX_HI. -/
abbrev NOS_GRID_FIDX_HI_REG (i : Nat) : Nat := 0x50000404 + 0x20 * i
abbrev NOS_GRID_FIDX_HI_FIDX (i : Nat) : Fld := ⟨NOS_GRID_FIDX_HI_REG i, 0, 32⟩
/-- The address of NOS_GRIDg_LINES. -/
abbrev NOS_GRID_LINES_REG (i : Nat) : Nat := 0x50000408 + 0x20 * i
abbrev NOS_GRID_LINES_LINE_FIRST (i : Nat) : Fld := ⟨NOS_GRID_LINES_REG i, 0, 16⟩
abbrev NOS_GRID_LINES_LINE_LAST (i : Nat) : Fld := ⟨NOS_GRID_LINES_REG i, 16, 16⟩
/-- The address of NOS_GRIDg_ROWS. -/
abbrev NOS_GRID_ROWS_REG (i : Nat) : Nat := 0x5000040C + 0x20 * i
abbrev NOS_GRID_ROWS_ROW0 (i : Nat) : Fld := ⟨NOS_GRID_ROWS_REG i, 0, 5⟩
abbrev NOS_GRID_ROWS_ROWS (i : Nat) : Fld := ⟨NOS_GRID_ROWS_REG i, 8, 5⟩
abbrev NOS_GRID_ROWS_BAD (i : Nat) : Fld := ⟨NOS_GRID_ROWS_REG i, 16, 1⟩
abbrev NOS_GRID_ROWS_COMPLETE (i : Nat) : Fld := ⟨NOS_GRID_ROWS_REG i, 17, 1⟩
/-- The address of NOS_GRIDg_TEXP_LO. -/
abbrev NOS_GRID_TEXP_LO_REG (i : Nat) : Nat := 0x50000410 + 0x20 * i
abbrev NOS_GRID_TEXP_LO_T (i : Nat) : Fld := ⟨NOS_GRID_TEXP_LO_REG i, 0, 32⟩
/-- The address of NOS_GRIDg_TEXP_HI. -/
abbrev NOS_GRID_TEXP_HI_REG (i : Nat) : Nat := 0x50000414 + 0x20 * i
abbrev NOS_GRID_TEXP_HI_T (i : Nat) : Fld := ⟨NOS_GRID_TEXP_HI_REG i, 0, 32⟩
/-- The address of NOS_GRIDg_TPUB_LO. -/
abbrev NOS_GRID_TPUB_LO_REG (i : Nat) : Nat := 0x50000418 + 0x20 * i
abbrev NOS_GRID_TPUB_LO_T (i : Nat) : Fld := ⟨NOS_GRID_TPUB_LO_REG i, 0, 32⟩
/-- The address of NOS_GRIDg_TPUB_HI. -/
abbrev NOS_GRID_TPUB_HI_REG (i : Nat) : Nat := 0x5000041C + 0x20 * i
abbrev NOS_GRID_TPUB_HI_T (i : Nat) : Fld := ⟨NOS_GRID_TPUB_HI_REG i, 0, 32⟩
/-- The address of NOS_GRIDMEM. -/
abbrev NOS_GRIDMEM_REG (i : Nat) (j : Nat) : Nat := 0x50002000 + 0x400 * i + 0x4 * j
abbrev NOS_GRIDMEM_WORD (i : Nat) (j : Nat) : Fld := ⟨NOS_GRIDMEM_REG i j, 0, 32⟩

/-! ### VMC (spec/11_vision_memory.md 11.11) -/

/-- The address of VMC_STAT. -/
abbrev VMC_STAT_REG : Nat := 0x51000000
abbrev VMC_STAT_DDR_READY : Fld := ⟨VMC_STAT_REG, 0, 1⟩
abbrev VMC_STAT_FLUSH_BUSY : Fld := ⟨VMC_STAT_REG, 1, 5⟩
abbrev VMC_STAT_WR_ERR : Fld := ⟨VMC_STAT_REG, 6, 1⟩
/-- The address of VMC_FAULT. -/
abbrev VMC_FAULT_REG : Nat := 0x51000004
abbrev VMC_FAULT_SEEN : Fld := ⟨VMC_FAULT_REG, 0, 8⟩
/-- The address of VMC_DDR_CFG. -/
abbrev VMC_DDR_CFG_REG : Nat := 0x51000010
abbrev VMC_DDR_CFG_RATE : Fld := ⟨VMC_DDR_CFG_REG, 0, 2⟩
abbrev VMC_DDR_CFG_DENSITY : Fld := ⟨VMC_DDR_CFG_REG, 2, 2⟩
/-- The address of VMC_DDR_STAT. -/
abbrev VMC_DDR_STAT_REG : Nat := 0x51000014
abbrev VMC_DDR_STAT_TRAINED : Fld := ⟨VMC_DDR_STAT_REG, 0, 1⟩
abbrev VMC_DDR_STAT_TRAIN_FAIL : Fld := ⟨VMC_DDR_STAT_REG, 1, 1⟩
abbrev VMC_DDR_STAT_ATTEMPTS : Fld := ⟨VMC_DDR_STAT_REG, 2, 2⟩
/-- The address of VMC_ECC. -/
abbrev VMC_ECC_REG : Nat := 0x51000018
abbrev VMC_ECC_CORR : Fld := ⟨VMC_ECC_REG, 0, 16⟩
abbrev VMC_ECC_F0B03 : Fld := ⟨VMC_ECC_REG, 16, 8⟩
abbrev VMC_ECC_F0B04 : Fld := ⟨VMC_ECC_REG, 24, 8⟩
/-- The address of VMC_CMD. -/
abbrev VMC_CMD_REG : Nat := 0x5100001C
abbrev VMC_CMD_PART : Fld := ⟨VMC_CMD_REG, 0, 3⟩
abbrev VMC_CMD_OP : Fld := ⟨VMC_CMD_REG, 4, 2⟩
/-- The address of VMC_PARTp_CFG. -/
abbrev VMC_PART_CFG_REG (i : Nat) : Nat := 0x51000100 + 0x10 * i
abbrev VMC_PART_CFG_SLICES (i : Nat) : Fld := ⟨VMC_PART_CFG_REG i, 0, 16⟩
abbrev VMC_PART_CFG_MODE (i : Nat) : Fld := ⟨VMC_PART_CFG_REG i, 16, 1⟩
/-- The address of VMC_PARTp_STAT. -/
abbrev VMC_PART_STAT_REG (i : Nat) : Nat := 0x51000104 + 0x10 * i
abbrev VMC_PART_STAT_NSLICE (i : Nat) : Fld := ⟨VMC_PART_STAT_REG i, 0, 5⟩
abbrev VMC_PART_STAT_FLUSH_BUSY (i : Nat) : Fld := ⟨VMC_PART_STAT_REG i, 8, 1⟩
/-- The address of VMC_SHRr_BASE. -/
abbrev VMC_SHR_BASE_REG (i : Nat) : Nat := 0x51000200 + 0x10 * i
abbrev VMC_SHR_BASE_OFS (i : Nat) : Fld := ⟨VMC_SHR_BASE_REG i, 0, 32⟩
/-- The address of VMC_SHRr_SIZE. -/
abbrev VMC_SHR_SIZE_REG (i : Nat) : Nat := 0x51000204 + 0x10 * i
abbrev VMC_SHR_SIZE_SIZE (i : Nat) : Fld := ⟨VMC_SHR_SIZE_REG i, 0, 32⟩
/-- The address of VMC_SHRr_CFG. -/
abbrev VMC_SHR_CFG_REG (i : Nat) : Nat := 0x51000208 + 0x10 * i
abbrev VMC_SHR_CFG_TEN (i : Nat) : Fld := ⟨VMC_SHR_CFG_REG i, 0, 2⟩
abbrev VMC_SHR_CFG_EN (i : Nat) : Fld := ⟨VMC_SHR_CFG_REG i, 8, 1⟩
/-- The address of VMC_RINGn_BASE. -/
abbrev VMC_RING_BASE_REG (i : Nat) : Nat := 0x51000280 + 0x4 * i
abbrev VMC_RING_BASE_OFS (i : Nat) : Fld := ⟨VMC_RING_BASE_REG i, 0, 32⟩
/-- The address of VMC_PMC_SELk. -/
abbrev VMC_PMC_SEL_REG (i : Nat) : Nat := 0x51000300 + 0x4 * i
abbrev VMC_PMC_SEL_EVENT (i : Nat) : Fld := ⟨VMC_PMC_SEL_REG i, 0, 4⟩
abbrev VMC_PMC_SEL_SCOPE (i : Nat) : Fld := ⟨VMC_PMC_SEL_REG i, 4, 3⟩
abbrev VMC_PMC_SEL_CLR (i : Nat) : Fld := ⟨VMC_PMC_SEL_REG i, 8, 1⟩
/-- The address of VMC_PMCk_LO. -/
abbrev VMC_PMC_LO_REG (i : Nat) : Nat := 0x51000340 + 0x8 * i
abbrev VMC_PMC_LO_CNT (i : Nat) : Fld := ⟨VMC_PMC_LO_REG i, 0, 32⟩
/-- The address of VMC_PMCk_HI. -/
abbrev VMC_PMC_HI_REG (i : Nat) : Nat := 0x51000344 + 0x8 * i
abbrev VMC_PMC_HI_CNT (i : Nat) : Fld := ⟨VMC_PMC_HI_REG i, 0, 16⟩

/-! ### VM (spec/14_vehicle_messages.md 14.1) -/

/-- The address of VM_DOOR_ADDR. -/
abbrev VM_DOOR_ADDR_REG : Nat := 0x60000000
abbrev VM_DOOR_ADDR_VALUE : Fld := ⟨VM_DOOR_ADDR_REG, 0, 8⟩
/-- The address of VM_ID_BASE. -/
abbrev VM_ID_BASE_REG : Nat := 0x60000004
abbrev VM_ID_BASE_VALUE : Fld := ⟨VM_ID_BASE_REG, 0, 16⟩
/-- The address of VM_CAN_MASK. -/
abbrev VM_CAN_MASK_REG : Nat := 0x60000008
abbrev VM_CAN_MASK_VALUE : Fld := ⟨VM_CAN_MASK_REG, 0, 8⟩
/-- The address of VM_SPEED_ID. -/
abbrev VM_SPEED_ID_REG : Nat := 0x6000000C
abbrev VM_SPEED_ID_VALUE : Fld := ⟨VM_SPEED_ID_REG, 0, 16⟩
/-- The address of VM_TIME_ID. -/
abbrev VM_TIME_ID_REG : Nat := 0x60000010
abbrev VM_TIME_ID_VALUE : Fld := ⟨VM_TIME_ID_REG, 0, 16⟩
/-- The address of VM_SPEED_SRC. -/
abbrev VM_SPEED_SRC_REG : Nat := 0x60000014
abbrev VM_SPEED_SRC_VALUE : Fld := ⟨VM_SPEED_SRC_REG, 0, 8⟩
/-- The address of VM_VT_PERIOD. -/
abbrev VM_VT_PERIOD_REG : Nat := 0x60000018
abbrev VM_VT_PERIOD_VALUE : Fld := ⟨VM_VT_PERIOD_REG, 0, 16⟩
/-- The address of VM_DUAL. -/
abbrev VM_DUAL_REG : Nat := 0x6000001C
abbrev VM_DUAL_VALUE : Fld := ⟨VM_DUAL_REG, 0, 1⟩
/-- The address of VM_UDP_ALLOW. -/
abbrev VM_UDP_ALLOW_REG (i : Nat) : Nat := 0x60000020 + 0x4 * i
abbrev VM_UDP_ALLOW_VALUE (i : Nat) : Fld := ⟨VM_UDP_ALLOW_REG i, 0, 32⟩
/-- The address of VM_UDP_DEST_IP. -/
abbrev VM_UDP_DEST_IP_REG : Nat := 0x60000030
abbrev VM_UDP_DEST_IP_VALUE : Fld := ⟨VM_UDP_DEST_IP_REG, 0, 32⟩
/-- The address of VM_UDP_DEST_PORT. -/
abbrev VM_UDP_DEST_PORT_REG : Nat := 0x60000034
abbrev VM_UDP_DEST_PORT_VALUE : Fld := ⟨VM_UDP_DEST_PORT_REG, 0, 16⟩
/-- The address of VM_OCC_DEST_IP. -/
abbrev VM_OCC_DEST_IP_REG : Nat := 0x60000038
abbrev VM_OCC_DEST_IP_VALUE : Fld := ⟨VM_OCC_DEST_IP_REG, 0, 32⟩
/-- The address of VM_OCC_DEST_PORT. -/
abbrev VM_OCC_DEST_PORT_REG : Nat := 0x6000003C
abbrev VM_OCC_DEST_PORT_VALUE : Fld := ⟨VM_OCC_DEST_PORT_REG, 0, 16⟩
/-- The address of VM_DOOR_IP. -/
abbrev VM_DOOR_IP_REG : Nat := 0x60000040
abbrev VM_DOOR_IP_VALUE : Fld := ⟨VM_DOOR_IP_REG, 0, 32⟩
/-- The address of VM_OCC_MODE. -/
abbrev VM_OCC_MODE_REG : Nat := 0x60000044
abbrev VM_OCC_MODE_VALUE : Fld := ⟨VM_OCC_MODE_REG, 0, 2⟩
/-- The address of VM_EXP_RTO. -/
abbrev VM_EXP_RTO_REG : Nat := 0x60000048
abbrev VM_EXP_RTO_VALUE : Fld := ⟨VM_EXP_RTO_REG, 0, 16⟩
/-- The address of VM_EXP_RATE. -/
abbrev VM_EXP_RATE_REG : Nat := 0x6000004C
abbrev VM_EXP_RATE_VALUE : Fld := ⟨VM_EXP_RATE_REG, 0, 16⟩

/-! ### ADM (spec/19_configuration_and_admission.md 19.6) -/

/-- The address of ADM_CMD_RATE. -/
abbrev ADM_CMD_RATE_REG : Nat := 0x60001000
abbrev ADM_CMD_RATE_VALUE : Fld := ⟨ADM_CMD_RATE_REG, 0, 16⟩
/-- The address of ADM_CON_RATE. -/
abbrev ADM_CON_RATE_REG : Nat := 0x60001004
abbrev ADM_CON_RATE_VALUE : Fld := ⟨ADM_CON_RATE_REG, 0, 16⟩

/-! ### GPIO (spec/02_pins_and_package.md R41) -/

/-- The address of GPIO_OWNER. -/
abbrev GPIO_OWNER_REG : Nat := 0x60002000
abbrev GPIO_OWNER_VALUE : Fld := ⟨GPIO_OWNER_REG, 0, 8⟩
/-- The address of GPIO_OD. -/
abbrev GPIO_OD_REG : Nat := 0x60002004
abbrev GPIO_OD_VALUE : Fld := ⟨GPIO_OD_REG, 0, 8⟩

/-- The registers of SUP (part 0). -/
def regRows_SUP_0 : List RegRow := [
  ⟨"sup", "vsense_cfg", "sup", false, 0x40020000, 1, 0x4, [⟨"thresh_mv", ".thresh_mv", ".vsense_cfg.thresh_mv", 0, 11, .rw, 300, 1100, false⟩, ⟨"cfg_err", ".cfg_err", ".vsense_cfg.cfg_err", 16, 1, .w1c, 0, 1, false⟩]⟩,
  ⟨"sup", "status", "sup", false, 0x40020004, 1, 0x4, [⟨"warn", ".warn", ".status.warn", 0, 1, .ro, 0, 1, false⟩, ⟨"hold", ".status.hold", ".status.hold", 1, 1, .ro, 0, 1, false⟩, ⟨"store_gated", ".store_gated", ".status.store_gated", 2, 1, .ro, 0, 1, false⟩, ⟨"vsense_mv", ".vsense_mv", ".status.vsense_mv", 16, 12, .ro, 0, 4095, false⟩]⟩,
  ⟨"sup", "dip_count", "sup", false, 0x40020008, 1, 0x4, [⟨"count", ".count", ".dip_count.count", 0, 32, .ro, 0, 4294967295, false⟩]⟩,
  ⟨"sup", "dip_last", "sup", false, 0x4002000C, 1, 0x4, [⟨"min_mv", ".min_mv", ".dip_last.min_mv", 0, 12, .ro, 0, 4095, false⟩, ⟨"hold", ".dip_last.hold", ".dip_last.hold", 15, 1, .ro, 0, 1, false⟩, ⟨"dur_ms", ".dur_ms", ".dip_last.dur_ms", 16, 16, .ro, 0, 65535, false⟩]⟩,
  ⟨"sup", "holdup_cfg0", "sup", false, 0x40020010, 1, 0x4, [⟨"c_hold", ".c_hold", ".holdup_cfg0.c_hold", 0, 16, .rw, 0, 65535, false⟩, ⟨"div", ".div", ".holdup_cfg0.div", 16, 16, .rw, 0, 65535, false⟩]⟩,
  ⟨"sup", "holdup_cfg1", "sup", false, 0x40020014, 1, 0x4, [⟨"v_min", ".v_min", ".holdup_cfg1.v_min", 0, 12, .rw, 0, 4095, false⟩, ⟨"eff", ".eff", ".holdup_cfg1.eff", 12, 7, .rw, 50, 100, false⟩, ⟨"p_load", ".p_load", ".holdup_cfg1.p_load", 24, 8, .rw, 1, 255, false⟩]⟩,
  ⟨"sup", "holdup_e", "sup", false, 0x40020018, 1, 0x4, [⟨"e_avail_uj", ".e_avail_uj", ".holdup_e.e_avail_uj", 0, 24, .ro, 0, 16777215, false⟩]⟩,
  ⟨"sup", "capchk", "sup", false, 0x4002001C, 1, 0x4, [⟨"c_meas", ".c_meas", ".capchk.c_meas", 0, 16, .ro, 0, 65535, false⟩, ⟨"low", ".low", ".capchk.low", 16, 1, .rws, 0, 1, false⟩]⟩]

/-- The registers of SYS (part 0). -/
def regRows_SYS_0 : List RegRow := [
  ⟨"sys", "rst_cause", "sys", false, 0x40000000, 1, 0x4, [⟨"por", ".por", ".rst_cause.por", 0, 1, .rws, 0, 1, false⟩, ⟨"resetn", ".resetn", ".rst_cause.resetn", 1, 1, .rws, 0, 1, false⟩, ⟨"por_rail", ".por_rail", ".rst_cause.por_rail", 8, 9, .rws, 0, 511, false⟩, ⟨"last_level", ".last_level", ".rst_cause.last_level", 24, 2, .ro, 0, 3, false⟩]⟩,
  ⟨"sys", "strap", "sys", false, 0x40000004, 1, 0x4, [⟨"boot", ".boot", ".strap.boot", 0, 2, .ro, 0, 3, false⟩, ⟨"clkmode", ".clkmode", ".strap.clkmode", 2, 2, .ro, 0, 3, false⟩, ⟨"side", ".side", ".strap.side", 4, 1, .ro, 0, 1, false⟩]⟩,
  ⟨"sys", "clk_stat", "sys", false, 0x40000008, 1, 0x4, [⟨"ref_ok", ".ref_ok", ".clk_stat.ref_ok", 0, 1, .ro, 0, 1, false⟩, ⟨"pll_main_lock", ".pll_main_lock", ".clk_stat.pll_main_lock", 1, 1, .ro, 0, 1, false⟩, ⟨"pll_tb_lock", ".pll_tb_lock", ".clk_stat.pll_tb_lock", 2, 1, .ro, 0, 1, false⟩, ⟨"safe_clk_ok", ".safe_clk_ok", ".clk_stat.safe_clk_ok", 3, 1, .ro, 0, 1, false⟩, ⟨"clk_fault", ".clk_fault", ".clk_stat.clk_fault", 4, 1, .rws, 0, 1, false⟩]⟩,
  ⟨"sys", "boot_stat", "sys", false, 0x4000000C, 1, 0x4, [⟨"source", ".source", ".boot_stat.source", 0, 2, .ro, 0, 3, false⟩, ⟨"fallback", ".fallback", ".boot_stat.fallback", 2, 1, .ro, 0, 1, false⟩, ⟨"trial", ".trial", ".boot_stat.trial", 3, 1, .ro, 0, 1, false⟩]⟩,
  ⟨"sys", "boot_count", "sys", false, 0x40000010, 1, 0x4, [⟨"count", ".count", ".boot_count.count", 0, 32, .ro, 0, 4294967295, false⟩]⟩,
  ⟨"sys", "frst_ctrl", "sys", false, 0x40000020, 1, 0x4, [⟨"func", ".func", ".frst_ctrl.func", 0, 4, .wo, 0, 15, false⟩, ⟨"go", ".go", ".frst_ctrl.go", 8, 1, .wo, 0, 1, false⟩]⟩,
  ⟨"sys", "frst_stat", "sys", false, 0x40000024, 1, 0x4, [⟨"busy", ".busy", ".frst_stat.busy", 0, 10, .ro, 0, 1023, false⟩]⟩,
  ⟨"sys", "frst_tmo", "sys.frst_tmo", true, 0x40000040, 10, 0x4, [⟨"tmo", ".tmo", ".tmo", 0, 14, .rw, 1, 10000, false⟩]⟩,
  ⟨"sys", "frst_log", "sys.frst_log", true, 0x40000080, 10, 0x4, [⟨"count", ".count", ".count", 0, 16, .ro, 0, 65535, false⟩, ⟨"tmo_count", ".tmo_count", ".tmo_count", 16, 8, .ro, 0, 255, false⟩, ⟨"last_tmo", ".last_tmo", ".last_tmo", 24, 1, .ro, 0, 1, false⟩]⟩]

/-- The registers of FUSE (part 0). -/
def regRows_FUSE_0 : List RegRow := [
  ⟨"fuse", "serial_lo", "fuse", false, 0x40010000, 1, 0x4, [⟨"serial", ".serial_lo.serial", ".serial_lo.serial", 0, 32, .ro, 0, 4294967295, false⟩]⟩,
  ⟨"fuse", "serial_hi", "fuse", false, 0x40010004, 1, 0x4, [⟨"serial", ".serial_hi.serial", ".serial_hi.serial", 0, 32, .ro, 0, 4294967295, false⟩]⟩,
  ⟨"fuse", "dbg", "fuse", false, 0x40010008, 1, 0x4, [⟨"dbg_en", ".dbg_en", ".dbg.dbg_en", 0, 1, .ro, 0, 1, false⟩]⟩,
  ⟨"fuse", "rstmap", "fuse", false, 0x40010040, 1, 0x4, [⟨"por_level", ".por_level", ".rstmap.por_level", 0, 2, .ro, 0, 3, false⟩, ⟨"resetn_level", ".resetn_level", ".rstmap.resetn_level", 2, 2, .ro, 0, 3, false⟩, ⟨"programmed", ".rstmap.programmed", ".rstmap.programmed", 4, 1, .ro, 0, 1, false⟩]⟩,
  ⟨"fuse", "keystat", "fuse", false, 0x40010080, 1, 0x4, [⟨"programmed", ".keystat.programmed", ".keystat.programmed", 0, 8, .ro, 0, 255, false⟩, ⟨"revoked", ".revoked", ".keystat.revoked", 8, 8, .ro, 0, 255, false⟩]⟩,
  ⟨"fuse", "svn_safe", "fuse", false, 0x40010084, 1, 0x4, [⟨"svn", ".svn_safe.svn", ".svn_safe.svn", 0, 32, .ro, 0, 4294967295, false⟩]⟩,
  ⟨"fuse", "svn_app", "fuse", false, 0x40010088, 1, 0x4, [⟨"svn", ".svn_app.svn", ".svn_app.svn", 0, 32, .ro, 0, 4294967295, false⟩]⟩]

/-- The registers of FBK (part 0). -/
def regRows_FBK_0 : List RegRow := [
  ⟨"fbk", "ch_cfg", "fbk.ch", true, 0x40050000, 6, 0x100, [⟨"enable", ".enable", ".cfg.enable", 0, 1, .rw, 0, 1, false⟩, ⟨"mode", ".mode", ".cfg.mode", 1, 2, .rw, 0, 2, false⟩, ⟨"dir_inv", ".dir_inv", ".cfg.dir_inv", 3, 1, .rw, 0, 1, false⟩, ⟨"index_mode", ".index_mode", ".cfg.index_mode", 4, 2, .rw, 0, 3, false⟩, ⟨"ref_src", ".ref_src", ".cfg.ref_src", 6, 1, .rw, 0, 1, false⟩, ⟨"z_gate", ".z_gate", ".cfg.z_gate", 7, 4, .rw, 0, 15, false⟩, ⟨"spd_mode", ".spd_mode", ".cfg.spd_mode", 11, 2, .rw, 0, 3, false⟩, ⟨"span4", ".span4", ".cfg.span4", 13, 1, .rw, 0, 1, false⟩, ⟨"pt_mode", ".pt_mode", ".cfg.pt_mode", 14, 2, .rw, 0, 3, false⟩, ⟨"z_dis", ".z_dis", ".cfg.z_dis", 16, 1, .rw, 0, 1, false⟩]⟩,
  ⟨"fbk", "ch_filt", "fbk.ch", true, 0x40050004, 6, 0x100, [⟨"t_min", ".t_min", ".filt.t_min", 0, 14, .rw, 5, 16383, false⟩, ⟨"cf_time", ".cf_time", ".filt.cf_time", 16, 8, .rw, 1, 255, false⟩]⟩,
  ⟨"fbk", "ch_pitch", "fbk.ch", true, 0x40050008, 6, 0x100, [⟨"pitch_nm", ".pitch_nm", ".pitch.pitch_nm", 0, 32, .rw, 0, 4294967295, false⟩]⟩,
  ⟨"fbk", "ch_spd", "fbk.ch", true, 0x4005000C, 6, 0x100, [⟨"bw_hz", ".bw_hz", ".spd.bw_hz", 0, 12, .rw, 0, 4095, false⟩, ⟨"t_zero", ".t_zero", ".spd.t_zero", 16, 11, .rw, 200, 2000, false⟩]⟩,
  ⟨"fbk", "ch_chg", "fbk.ch", true, 0x40050010, 6, 0x100, [⟨"f_hi", ".f_hi", ".chg.f_hi", 0, 16, .rw, 0, 65535, false⟩, ⟨"f_lo", ".f_lo", ".chg.f_lo", 16, 16, .rw, 0, 65535, false⟩]⟩,
  ⟨"fbk", "ch_obs_g1", "fbk.ch", true, 0x40050014, 6, 0x100, [⟨"g", ".obs_g1.g", ".obs_g1.g", 0, 32, .ro, 0, 4294967295, false⟩]⟩,
  ⟨"fbk", "ch_obs_g2", "fbk.ch", true, 0x40050018, 6, 0x100, [⟨"g", ".obs_g2.g", ".obs_g2.g", 0, 32, .ro, 0, 4294967295, false⟩]⟩,
  ⟨"fbk", "ch_count", "fbk.ch", true, 0x40050020, 6, 0x100, [⟨"count", ".count.count", ".count.count", 0, 32, .rw, 0, 4294967295, true⟩]⟩,
  ⟨"fbk", "ch_pos", "fbk.ch", true, 0x40050024, 6, 0x100, [⟨"pos_um", ".pos_um", ".pos.pos_um", 0, 32, .ro, 0, 4294967295, true⟩]⟩,
  ⟨"fbk", "ch_latch_ts_lo", "fbk.ch", true, 0x40050028, 6, 0x100, [⟨"value", ".latch_ts_lo.value", ".latch_ts_lo.value", 0, 32, .ro, 0, 4294967295, false⟩]⟩,
  ⟨"fbk", "ch_latch_ts_hi", "fbk.ch", true, 0x4005002C, 6, 0x100, [⟨"value", ".latch_ts_hi.value", ".latch_ts_hi.value", 0, 32, .ro, 0, 4294967295, false⟩]⟩,
  ⟨"fbk", "ch_latch_cnt", "fbk.ch", true, 0x40050030, 6, 0x100, [⟨"value", ".latch_cnt.value", ".latch_cnt.value", 0, 32, .ro, 0, 4294967295, true⟩]⟩,
  ⟨"fbk", "ch_speed", "fbk.ch", true, 0x40050034, 6, 0x100, [⟨"speed_um", ".speed_um", ".speed.speed_um", 0, 32, .ro, 0, 4294967295, true⟩]⟩,
  ⟨"fbk", "ch_speed_frac", "fbk.ch", true, 0x40050038, 6, 0x100, [⟨"frac", ".frac", ".speed_frac.frac", 0, 16, .ro, 0, 65535, false⟩]⟩,
  ⟨"fbk", "ch_stat", "fbk.ch", true, 0x4005003C, 6, 0x100, [⟨"standstill", ".standstill", ".stat.standstill", 0, 1, .ro, 0, 1, false⟩, ⟨"first", ".first", ".stat.first", 1, 1, .ro, 0, 1, false⟩, ⟨"reversal", ".reversal", ".stat.reversal", 2, 1, .ro, 0, 1, false⟩, ⟨"dir", ".dir", ".stat.dir", 3, 1, .ro, 0, 1, false⟩, ⟨"src", ".src", ".stat.src", 4, 1, .ro, 0, 1, false⟩, ⟨"pos_valid", ".pos_valid", ".stat.pos_valid", 5, 1, .ro, 0, 1, false⟩, ⟨"armed", ".armed", ".stat.armed", 6, 1, .ro, 0, 1, false⟩, ⟨"cable", ".cable", ".stat.cable", 8, 3, .ro, 0, 7, false⟩, ⟨"wr_err", ".wr_err", ".stat.wr_err", 16, 1, .w1c, 0, 1, false⟩]⟩,
  ⟨"fbk", "ch_fault", "fbk.ch", true, 0x40050040, 6, 0x100, [⟨"cable_s", ".cable_s", ".fault.cable_s", 0, 3, .rws, 0, 7, false⟩, ⟨"illegal", ".fault.illegal", ".fault.illegal", 3, 1, .rws, 0, 1, false⟩, ⟨"rej_rate", ".rej_rate", ".fault.rej_rate", 4, 1, .rws, 0, 1, false⟩, ⟨"ssi", ".ssi", ".fault.ssi", 5, 1, .rws, 0, 1, false⟩, ⟨"index_err", ".index_err", ".fault.index_err", 6, 1, .rws, 0, 1, false⟩]⟩,
  ⟨"fbk", "ch_ecnt", "fbk.ch", true, 0x40050044, 6, 0x100, [⟨"edge_rej", ".edge_rej", ".ecnt.edge_rej", 0, 16, .ro, 0, 65535, false⟩, ⟨"illegal", ".ecnt.illegal", ".ecnt.illegal", 16, 8, .ro, 0, 255, false⟩, ⟨"ssi_rej", ".ssi_rej", ".ecnt.ssi_rej", 24, 8, .ro, 0, 255, false⟩]⟩,
  ⟨"fbk", "ch_index_val", "fbk.ch", true, 0x40050048, 6, 0x100, [⟨"value", ".index_val.value", ".index_val.value", 0, 32, .rw, 0, 4294967295, true⟩]⟩,
  ⟨"fbk", "ch_index_latch", "fbk.ch", true, 0x4005004C, 6, 0x100, [⟨"value", ".index_latch.value", ".index_latch.value", 0, 32, .ro, 0, 4294967295, true⟩]⟩,
  ⟨"fbk", "ch_ictl", "fbk.ch", true, 0x40050050, 6, 0x100, [⟨"arm", ".arm", ".ictl.arm", 0, 1, .wo, 0, 1, false⟩, ⟨"disarm", ".disarm", ".ictl.disarm", 1, 1, .wo, 0, 1, false⟩]⟩,
  ⟨"fbk", "ch_ssi_cfg0", "fbk.ch", true, 0x40050060, 6, 0x100, [⟨"bits", ".bits", ".ssi_cfg0.bits", 0, 6, .rw, 8, 32, false⟩, ⟨"parity", ".parity", ".ssi_cfg0.parity", 6, 2, .rw, 0, 2, false⟩, ⟨"errbits", ".errbits", ".ssi_cfg0.errbits", 8, 2, .rw, 0, 3, false⟩, ⟨"gray", ".gray", ".ssi_cfg0.gray", 10, 1, .rw, 0, 1, false⟩, ⟨"clk_div", ".clk_div", ".ssi_cfg0.clk_div", 12, 12, .rw, 125, 2500, false⟩, ⟨"tm_us", ".tm_us", ".ssi_cfg0.tm_us", 24, 6, .rw, 10, 63, false⟩]⟩,
  ⟨"fbk", "ch_ssi_cfg1", "fbk.ch", true, 0x40050064, 6, 0x100, [⟨"lat_ns", ".lat_ns", ".ssi_cfg1.lat_ns", 0, 16, .rw, 0, 65535, false⟩, ⟨"maxjump", ".maxjump", ".ssi_cfg1.maxjump", 16, 16, .rw, 0, 65535, false⟩]⟩,
  ⟨"fbk", "ch_pt_rx", "fbk.ch", true, 0x4005006C, 6, 0x100, [⟨"rx_delay", ".rx_delay", ".pt_rx.rx_delay", 0, 8, .rw, 0, 255, false⟩]⟩,
  ⟨"fbk", "ch_hall", "fbk.ch", true, 0x40050070, 4, 0x100, [⟨"level", ".level", ".hall.level", 0, 3, .ro, 0, 7, false⟩, ⟨"deb_us", ".deb_us", ".hall.deb_us", 4, 10, .rw, 10, 1000, false⟩, ⟨"last_src", ".last_src", ".hall.last_src", 16, 2, .ro, 0, 3, false⟩]⟩,
  ⟨"fbk", "ch_hall_latch", "fbk.ch", true, 0x40050074, 4, 0x100, [⟨"count", ".hall_latch.count", ".hall_latch.count", 0, 32, .ro, 0, 4294967295, true⟩]⟩,
  ⟨"fbk", "whl_cfg0", "fbk", false, 0x40050600, 1, 0x4, [⟨"slide_abs", ".slide_abs", ".whl_cfg0.slide_abs", 0, 16, .rw, 0, 65535, false⟩, ⟨"slide_rel", ".slide_rel", ".whl_cfg0.slide_rel", 16, 8, .rw, 1, 50, false⟩, ⟨"spd_sel", ".spd_sel", ".whl_cfg0.spd_sel", 24, 2, .rw, 0, 3, false⟩, ⟨"prio_swap", ".prio_swap", ".whl_cfg0.prio_swap", 26, 1, .rw, 0, 1, false⟩]⟩,
  ⟨"fbk", "whl_cfg1", "fbk", false, 0x40050604, 1, 0x4, [⟨"slide_t", ".slide_t", ".whl_cfg1.slide_t", 0, 16, .rw, 0, 65535, false⟩, ⟨"hold_ms", ".hold_ms", ".whl_cfg1.hold_ms", 16, 16, .rw, 0, 65535, false⟩]⟩,
  ⟨"fbk", "whl_cfg2", "fbk", false, 0x40050608, 1, 0x4, [⟨"blend_ms", ".blend_ms", ".whl_cfg2.blend_ms", 0, 10, .rw, 50, 1000, false⟩]⟩,
  ⟨"fbk", "whl_stat", "fbk", false, 0x4005060C, 1, 0x4, [⟨"vstill", ".vstill", ".whl_stat.vstill", 0, 1, .ro, 0, 1, false⟩, ⟨"disagree", ".disagree", ".whl_stat.disagree", 1, 1, .ro, 0, 1, false⟩, ⟨"src", ".src", ".whl_stat.src", 2, 2, .ro, 0, 3, false⟩, ⟨"blend", ".blend", ".whl_stat.blend", 4, 1, .ro, 0, 1, false⟩, ⟨"qual", ".qual", ".whl_stat.qual", 5, 2, .ro, 0, 3, false⟩, ⟨"wr_err", ".wr_err", ".whl_stat.wr_err", 7, 1, .w1c, 0, 1, false⟩]⟩,
  ⟨"fbk", "veh_speed", "fbk", false, 0x40050610, 1, 0x4, [⟨"speed_mm", ".speed_mm", ".veh_speed.speed_mm", 0, 32, .ro, 0, 4294967295, true⟩]⟩]

/-- The registers of DOM (part 0). -/
def regRows_DOM_0 : List RegRow := [
  ⟨"dom", "cfg", "dom", false, 0x40060000, 1, 0x4, [⟨"d5_vc", ".d5_vc", ".cfg.d5_vc", 0, 2, .rw, 0, 3, false⟩, ⟨"d6_vc", ".d6_vc", ".cfg.d6_vc", 2, 2, .rw, 0, 3, false⟩]⟩,
  ⟨"dom", "stat", "dom", false, 0x40060004, 1, 0x4, [⟨"valid", ".valid", ".stat.valid", 0, 8, .ro, 0, 255, false⟩, ⟨"degraded", ".degraded", ".stat.degraded", 8, 4, .ro, 0, 15, false⟩]⟩,
  ⟨"dom", "d_val_lo", "dom.d", true, 0x40060010, 8, 0x8, [⟨"value", ".val_lo.value", ".val_lo.value", 0, 32, .ro, 0, 4294967295, false⟩]⟩,
  ⟨"dom", "d_val_hi", "dom.d", true, 0x40060014, 8, 0x8, [⟨"value", ".val_hi.value", ".val_hi.value", 0, 32, .ro, 0, 4294967295, false⟩]⟩,
  ⟨"dom", "d_rate", "dom.d", true, 0x40060050, 7, 0x4, [⟨"rate", ".rate", ".rate.rate", 0, 32, .rw, 0, 4294967295, false⟩]⟩,
  ⟨"dom", "d4_set", "dom", false, 0x40060070, 1, 0x4, [⟨"value", ".d4_set.value", ".d4_set.value", 0, 32, .wo, 0, 4294967295, true⟩]⟩,
  ⟨"dom", "cam0_lines", "dom", false, 0x40060074, 1, 0x4, [⟨"lines", ".cam0_lines.lines", ".cam0_lines.lines", 0, 16, .ro, 0, 65535, false⟩]⟩,
  ⟨"dom", "cam1_lines", "dom", false, 0x40060078, 1, 0x4, [⟨"lines", ".cam1_lines.lines", ".cam1_lines.lines", 0, 16, .ro, 0, 65535, false⟩]⟩,
  ⟨"dom", "fault", "dom", false, 0x4006007C, 1, 0x4, [⟨"seen", ".seen", ".fault.seen", 0, 5, .rws, 0, 31, false⟩]⟩,
  ⟨"dom", "slot_cfg", "dom.slot", true, 0x40060400, 64, 0x20, [⟨"domain", ".domain", ".cfg.domain", 0, 3, .rw, 0, 7, false⟩, ⟨"approach", ".approach", ".cfg.approach", 3, 2, .rw, 0, 2, false⟩, ⟨"action", ".action", ".cfg.action", 5, 3, .rw, 0, 7, false⟩, ⟨"late_pol", ".late_pol", ".cfg.late_pol", 8, 2, .rw, 0, 3, false⟩, ⟨"owner", ".owner", ".cfg.owner", 10, 1, .ro, 0, 1, false⟩]⟩,
  ⟨"dom", "slot_tgt_lo", "dom.slot", true, 0x40060404, 64, 0x20, [⟨"target", ".tgt_lo.target", ".tgt_lo.target", 0, 32, .rw, 0, 4294967295, false⟩]⟩,
  ⟨"dom", "slot_tgt_hi", "dom.slot", true, 0x40060408, 64, 0x20, [⟨"target", ".tgt_hi.target", ".tgt_hi.target", 0, 32, .rw, 0, 4294967295, false⟩]⟩,
  ⟨"dom", "slot_rep", "dom.slot", true, 0x4006040C, 64, 0x20, [⟨"repeat", ".repeat", ".rep.repeat", 0, 32, .rw, 0, 4294967295, false⟩]⟩,
  ⟨"dom", "slot_param", "dom.slot", true, 0x40060410, 64, 0x20, [⟨"param", ".param", ".param.param", 0, 32, .rw, 0, 4294967295, false⟩]⟩,
  ⟨"dom", "slot_dl", "dom.slot", true, 0x40060414, 64, 0x20, [⟨"value", ".value", ".dl.value", 0, 31, .rw, 0, 2147483647, false⟩, ⟨"unit", ".unit", ".dl.unit", 31, 1, .rw, 0, 1, false⟩]⟩,
  ⟨"dom", "slot_ctl", "dom.slot", true, 0x40060418, 64, 0x20, [⟨"arm", ".arm", ".ctl.arm", 0, 1, .wo, 0, 1, false⟩, ⟨"disarm", ".disarm", ".ctl.disarm", 1, 1, .wo, 0, 1, false⟩]⟩,
  ⟨"dom", "slot_stat", "dom.slot", true, 0x4006041C, 64, 0x20, [⟨"armed", ".armed", ".stat.armed", 0, 1, .ro, 0, 1, false⟩, ⟨"fired", ".fired", ".stat.fired", 1, 1, .ro, 0, 1, false⟩, ⟨"late", ".late", ".stat.late", 2, 1, .ro, 0, 1, false⟩, ⟨"refused", ".refused", ".stat.refused", 3, 1, .ro, 0, 1, false⟩, ⟨"wr_err", ".wr_err", ".stat.wr_err", 4, 1, .w1c, 0, 1, false⟩, ⟨"err", ".err", ".stat.err", 5, 1, .w1c, 0, 1, false⟩, ⟨"pol", ".pol", ".stat.pol", 6, 2, .ro, 0, 3, false⟩, ⟨"missed", ".missed", ".stat.missed", 8, 8, .ro, 0, 255, false⟩, ⟨"fire_cnt", ".fire_cnt", ".stat.fire_cnt", 16, 16, .ro, 0, 65535, false⟩]⟩,
  ⟨"dom", "pred_lo", "dom.pred", true, 0x40060C00, 64, 0x8, [⟨"tick", ".lo.tick", ".lo.tick", 0, 32, .ro, 0, 4294967295, false⟩]⟩,
  ⟨"dom", "pred_hi", "dom.pred", true, 0x40060C04, 64, 0x8, [⟨"tick", ".hi.tick", ".hi.tick", 0, 32, .ro, 0, 4294967295, false⟩]⟩,
  ⟨"dom", "late", "dom.late", true, 0x40060E00, 64, 0x4, [⟨"lateness", ".lateness", ".lateness", 0, 32, .ro, 0, 4294967295, true⟩]⟩,
  ⟨"dom", "lf_slot", "dom", false, 0x40060F00, 1, 0x4, [⟨"slot", ".slot", ".lf_slot.slot", 0, 6, .ro, 0, 63, false⟩, ⟨"domain", ".domain", ".lf_slot.domain", 6, 3, .ro, 0, 7, false⟩]⟩,
  ⟨"dom", "lf_ts_lo", "dom", false, 0x40060F04, 1, 0x4, [⟨"tick", ".lf_ts_lo.tick", ".lf_ts_lo.tick", 0, 32, .ro, 0, 4294967295, false⟩]⟩,
  ⟨"dom", "lf_ts_hi", "dom", false, 0x40060F08, 1, 0x4, [⟨"tick", ".lf_ts_hi.tick", ".lf_ts_hi.tick", 0, 32, .ro, 0, 4294967295, false⟩]⟩,
  ⟨"dom", "lf_val_lo", "dom", false, 0x40060F0C, 1, 0x4, [⟨"value", ".lf_val_lo.value", ".lf_val_lo.value", 0, 32, .ro, 0, 4294967295, false⟩]⟩,
  ⟨"dom", "lf_val_hi", "dom", false, 0x40060F10, 1, 0x4, [⟨"value", ".lf_val_hi.value", ".lf_val_hi.value", 0, 32, .ro, 0, 4294967295, false⟩]⟩,
  ⟨"dom", "lf_stat", "dom", false, 0x40060F14, 1, 0x4, [⟨"level", ".level", ".lf_stat.level", 0, 6, .ro, 0, 63, false⟩, ⟨"ovf", ".ovf", ".lf_stat.ovf", 8, 1, .w1c, 0, 1, false⟩, ⟨"pop", ".pop", ".lf_stat.pop", 16, 1, .wo, 0, 1, false⟩]⟩]

/-- The registers of MOT (part 0). -/
def regRows_MOT_0 : List RegRow := [
  ⟨"mot", "ax_cfg", "mot.ax", true, 0x40070000, 4, 0x100, [⟨"enable", ".enable", ".cfg.enable", 0, 1, .rw, 0, 1, false⟩, ⟨"dir_inv", ".dir_inv", ".cfg.dir_inv", 1, 1, .rw, 0, 1, false⟩, ⟨"t_rev", ".t_rev", ".cfg.t_rev", 8, 8, .rw, 0, 255, false⟩, ⟨"usteps", ".usteps", ".cfg.usteps", 16, 9, .rw, 0, 511, false⟩]⟩,
  ⟨"mot", "ax_lead", "mot.ax", true, 0x40070004, 4, 0x100, [⟨"lead_nm", ".lead_nm", ".lead.lead_nm", 0, 32, .rw, 0, 4294967295, false⟩]⟩,
  ⟨"mot", "ax_scale", "mot.ax", true, 0x40070008, 4, 0x100, [⟨"sc_run", ".sc_run", ".scale.sc_run", 0, 8, .rw, 0, 255, false⟩, ⟨"sc_hold", ".sc_hold", ".scale.sc_hold", 8, 8, .rw, 0, 255, false⟩, ⟨"hold_dly", ".hold_dly", ".scale.hold_dly", 16, 16, .rw, 0, 65535, false⟩]⟩,
  ⟨"mot", "ax_emerg", "mot.ax", true, 0x4007000C, 4, 0x100, [⟨"emerg_dec", ".emerg_dec", ".emerg.emerg_dec", 0, 16, .rw, 1, 65535, false⟩]⟩,
  ⟨"mot", "ax_trip", "mot.ax", true, 0x40070010, 4, 0x100, [⟨"en", ".en", ".trip.en", 0, 4, .rw, 0, 15, false⟩, ⟨"ret_set", ".ret_set", ".trip.ret_set", 8, 6, .rw, 0, 63, false⟩, ⟨"ret_en", ".ret_en", ".trip.ret_en", 15, 1, .rw, 0, 1, false⟩, ⟨"degr", ".degr", ".trip.degr", 16, 1, .rw, 0, 1, false⟩]⟩,
  ⟨"mot", "ax_stall", "mot.ax", true, 0x40070014, 4, 0x100, [⟨"stall_fs", ".stall_fs", ".stall.stall_fs", 0, 8, .rw, 1, 255, false⟩, ⟨"stall_cyc", ".stall_cyc", ".stall.stall_cyc", 8, 4, .rw, 1, 15, false⟩]⟩,
  ⟨"mot", "ax_cmd", "mot.ax", true, 0x40070018, 4, 0x100, [⟨"op", ".op", ".cmd.op", 0, 3, .wo, 0, 7, false⟩, ⟨"set", ".set", ".cmd.set", 8, 6, .wo, 0, 63, false⟩]⟩,
  ⟨"mot", "ax_stat", "mot.ax", true, 0x4007001C, 4, 0x100, [⟨"seg", ".seg", ".stat.seg", 0, 4, .ro, 0, 15, false⟩, ⟨"busy", ".busy", ".stat.busy", 4, 1, .ro, 0, 1, false⟩, ⟨"dir", ".dir", ".stat.dir", 5, 1, .ro, 0, 1, false⟩, ⟨"steploss_possible", ".steploss_possible", ".stat.steploss_possible", 6, 1, .ro, 0, 1, false⟩, ⟨"refd", ".refd", ".stat.refd", 7, 1, .ro, 0, 1, false⟩, ⟨"stall", ".stall", ".stat.stall", 8, 1, .ro, 0, 1, false⟩, ⟨"refused", ".refused", ".stat.refused", 9, 1, .ro, 0, 1, false⟩, ⟨"wr_err", ".wr_err", ".stat.wr_err", 10, 1, .w1c, 0, 1, false⟩, ⟨"err", ".err", ".stat.err", 11, 1, .w1c, 0, 1, false⟩]⟩,
  ⟨"mot", "ax_xpos", "mot.ax", true, 0x40070020, 4, 0x100, [⟨"value", ".xpos.value", ".xpos.value", 0, 32, .ro, 0, 4294967295, true⟩]⟩,
  ⟨"mot", "ax_pos_um", "mot.ax", true, 0x40070024, 4, 0x100, [⟨"value", ".pos_um.value", ".pos_um.value", 0, 32, .ro, 0, 4294967295, true⟩]⟩,
  ⟨"mot", "ax_tgt", "mot.ax", true, 0x40070028, 4, 0x100, [⟨"value", ".tgt.value", ".tgt.value", 0, 32, .ro, 0, 4294967295, true⟩]⟩,
  ⟨"mot", "ax_vel", "mot.ax", true, 0x4007002C, 4, 0x100, [⟨"value", ".vel.value", ".vel.value", 0, 32, .ro, 0, 4294967295, true⟩]⟩,
  ⟨"mot", "ax_dev", "mot.ax", true, 0x40070030, 4, 0x100, [⟨"value", ".dev.value", ".dev.value", 0, 32, .ro, 0, 4294967295, true⟩]⟩,
  ⟨"mot", "ax_elec", "mot.ax", true, 0x40070034, 4, 0x100, [⟨"elec", ".elec", ".elec.elec", 0, 10, .ro, 0, 1023, false⟩, ⟨"elec_off", ".elec_off", ".elec.elec_off", 16, 10, .ro, 0, 1023, false⟩]⟩,
  ⟨"mot", "ax_phase", "mot.ax", true, 0x40070038, 4, 0x100, [⟨"i_a", ".i_a", ".phase.i_a", 0, 16, .ro, 0, 65535, true⟩, ⟨"i_b", ".i_b", ".phase.i_b", 16, 16, .ro, 0, 65535, true⟩]⟩,
  ⟨"mot", "ax_fault", "mot.ax", true, 0x4007003C, 4, 0x100, [⟨"hard", ".hard", ".fault.hard", 0, 1, .rws, 0, 1, false⟩, ⟨"stall_s", ".stall_s", ".fault.stall_s", 1, 1, .rws, 0, 1, false⟩, ⟨"noref", ".noref", ".fault.noref", 2, 1, .rws, 0, 1, false⟩]⟩,
  ⟨"mot", "ms_tgt", "mot.ms", true, 0x40070800, 64, 0x8, [⟨"tgt", ".tgt", ".tgt.tgt", 0, 32, .rw, 0, 4294967295, true⟩]⟩,
  ⟨"mot", "ms_cfg", "mot.ms", true, 0x40070804, 64, 0x8, [⟨"profile", ".profile", ".cfg.profile", 0, 4, .rw, 0, 15, false⟩, ⟨"rel", ".rel", ".cfg.rel", 4, 1, .rw, 0, 1, false⟩]⟩,
  ⟨"mot", "prf_vstart", "mot.prf", true, 0x40070A00, 16, 0x20, [⟨"v", ".vstart.v", ".vstart.v", 0, 32, .rw, 0, 4294967295, false⟩]⟩,
  ⟨"mot", "prf_vstop", "mot.prf", true, 0x40070A04, 16, 0x20, [⟨"v", ".vstop.v", ".vstop.v", 0, 32, .rw, 0, 4294967295, false⟩]⟩,
  ⟨"mot", "prf_vbrk", "mot.prf", true, 0x40070A08, 16, 0x20, [⟨"v", ".vbrk.v", ".vbrk.v", 0, 32, .rw, 0, 4294967295, false⟩]⟩,
  ⟨"mot", "prf_vmax", "mot.prf", true, 0x40070A0C, 16, 0x20, [⟨"v", ".vmax.v", ".vmax.v", 0, 32, .rw, 0, 4294967295, false⟩]⟩,
  ⟨"mot", "prf_acc", "mot.prf", true, 0x40070A10, 16, 0x20, [⟨"a1", ".a1", ".acc.a1", 0, 16, .rw, 0, 65535, false⟩, ⟨"a2", ".a2", ".acc.a2", 16, 16, .rw, 0, 65535, false⟩]⟩,
  ⟨"mot", "prf_dec", "mot.prf", true, 0x40070A14, 16, 0x20, [⟨"d2", ".d2", ".dec.d2", 0, 16, .rw, 0, 65535, false⟩, ⟨"d1", ".d1", ".dec.d1", 16, 16, .rw, 0, 65535, false⟩]⟩,
  ⟨"mot", "tbl_cfg", "mot", false, 0x40070C00, 1, 0x4, [⟨"user_tbl", ".user_tbl", ".tbl_cfg.user_tbl", 0, 1, .rw, 0, 1, false⟩]⟩,
  ⟨"mot", "tbl", "mot.tbl", true, 0x40070D00, 128, 0x4, [⟨"q_even", ".q_even", ".q_even", 0, 16, .rw, 0, 65535, false⟩, ⟨"q_odd", ".q_odd", ".q_odd", 16, 16, .rw, 0, 65535, false⟩]⟩]

/-- The registers of CUR (part 0). -/
def regRows_CUR_0 : List RegRow := [
  ⟨"cur", "ax_cfg", "cur.ax", true, 0x40080000, 4, 0x100, [⟨"enable", ".enable", ".cfg.enable", 0, 1, .rw, 0, 1, false⟩, ⟨"chop", ".chop", ".cfg.chop", 1, 1, .rw, 0, 1, false⟩, ⟨"fd", ".fd", ".cfg.fd", 2, 5, .rw, 0, 16, false⟩, ⟨"tblank", ".tblank", ".cfg.tblank", 8, 5, .rw, 1, 16, false⟩, ⟨"dead", ".dead", ".cfg.dead", 16, 9, .rw, 12, 500, false⟩]⟩,
  ⟨"cur", "ax_chop", "cur.ax", true, 0x40080004, 4, 0x100, [⟨"toff", ".toff", ".chop.toff", 0, 8, .rw, 4, 160, false⟩, ⟨"hband", ".hband", ".chop.hband", 16, 8, .rw, 1, 255, false⟩, ⟨"adapt", ".adapt", ".chop.adapt", 24, 8, .rw, 0, 255, false⟩]⟩,
  ⟨"cur", "ax_scale", "cur.ax", true, 0x40080008, 4, 0x100, [⟨"r_sense", ".r_sense", ".scale.r_sense", 0, 16, .rw, 0, 65535, false⟩, ⟨"i_peak", ".i_peak", ".scale.i_peak", 16, 16, .rw, 0, 65535, false⟩]⟩,
  ⟨"cur", "ax_ocp", "cur.ax", true, 0x4008000C, 4, 0x100, [⟨"ocp", ".ocp", ".ocp.ocp", 0, 10, .rw, 512, 1023, false⟩]⟩,
  ⟨"cur", "ax_motor", "cur.ax", true, 0x40080010, 4, 0x100, [⟨"r_ph", ".r_ph", ".motor.r_ph", 0, 16, .rw, 0, 65535, false⟩, ⟨"l_ph", ".l_ph", ".motor.l_ph", 16, 16, .rw, 0, 65535, false⟩]⟩,
  ⟨"cur", "ax_fcal0", "cur.ax", true, 0x40080014, 4, 0x100, [⟨"kf", ".kf", ".fcal0.kf", 0, 16, .rw, 0, 65535, false⟩, ⟨"f0", ".f0", ".fcal0.f0", 16, 16, .rw, 0, 65535, false⟩]⟩,
  ⟨"cur", "ax_fcal1", "cur.ax", true, 0x40080018, 4, 0x100, [⟨"b", ".b", ".fcal1.b", 0, 16, .rw, 0, 65535, false⟩, ⟨"m", ".m", ".fcal1.m", 16, 16, .rw, 0, 65535, false⟩]⟩,
  ⟨"cur", "ax_flim", "cur.ax", true, 0x4008001C, 4, 0x100, [⟨"f_lim", ".f_lim", ".flim.f_lim", 0, 12, .rw, 0, 4095, false⟩, ⟨"v_emf_min", ".v_emf_min", ".flim.v_emf_min", 16, 8, .rw, 0, 255, false⟩]⟩,
  ⟨"cur", "ax_stat", "cur.ax", true, 0x40080020, 4, 0x100, [⟨"driving", ".driving", ".stat.driving", 0, 1, .ro, 0, 1, false⟩, ⟨"f_valid", ".f_valid", ".stat.f_valid", 1, 1, .ro, 0, 1, false⟩, ⟨"f_mode", ".f_mode", ".stat.f_mode", 2, 1, .ro, 0, 1, false⟩, ⟨"ftrip", ".ftrip", ".stat.ftrip", 3, 1, .ro, 0, 1, false⟩, ⟨"fcal_done", ".fcal_done", ".stat.fcal_done", 4, 1, .ro, 0, 1, false⟩, ⟨"cal_fail", ".cal_fail", ".stat.cal_fail", 5, 1, .w1c, 0, 1, false⟩, ⟨"latched_off", ".latched_off", ".stat.latched_off", 6, 1, .ro, 0, 1, false⟩, ⟨"wr_err", ".wr_err", ".stat.wr_err", 16, 1, .w1c, 0, 1, false⟩]⟩,
  ⟨"cur", "ax_imeas", "cur.ax", true, 0x40080024, 4, 0x100, [⟨"i_a", ".i_a", ".imeas.i_a", 0, 16, .ro, 0, 65535, true⟩, ⟨"i_b", ".i_b", ".imeas.i_b", 16, 16, .ro, 0, 65535, true⟩]⟩,
  ⟨"cur", "ax_fest", "cur.ax", true, 0x40080028, 4, 0x100, [⟨"f_est", ".f_est", ".fest.f_est", 0, 16, .ro, 0, 65535, true⟩, ⟨"f_opp", ".f_opp", ".fest.f_opp", 16, 16, .ro, 0, 65535, true⟩]⟩,
  ⟨"cur", "ax_freq", "cur.ax", true, 0x4008002C, 4, 0x100, [⟨"freq_a", ".freq_a", ".freq.freq_a", 0, 16, .ro, 0, 65535, false⟩, ⟨"freq_b", ".freq_b", ".freq.freq_b", 16, 16, .ro, 0, 65535, false⟩]⟩,
  ⟨"cur", "ax_cnt", "cur.ax", true, 0x40080030, 4, 0x100, [⟨"on_lim", ".on_lim", ".cnt.on_lim", 0, 16, .ro, 0, 65535, false⟩, ⟨"min_ext", ".min_ext", ".cnt.min_ext", 16, 16, .ro, 0, 65535, false⟩]⟩,
  ⟨"cur", "ax_ofs", "cur.ax0.ofs", true, 0x40080034, 4, 0x4, [⟨"o_a", ".o_a", ".o_a", 0, 16, .ro, 0, 65535, true⟩, ⟨"o_b", ".o_b", ".o_b", 16, 16, .ro, 0, 65535, true⟩]⟩,
  ⟨"cur", "ax_ofs", "cur.ax1.ofs", true, 0x40080134, 4, 0x4, [⟨"o_a", ".o_a", ".o_a", 0, 16, .ro, 0, 65535, true⟩, ⟨"o_b", ".o_b", ".o_b", 16, 16, .ro, 0, 65535, true⟩]⟩,
  ⟨"cur", "ax_ofs", "cur.ax2.ofs", true, 0x40080234, 4, 0x4, [⟨"o_a", ".o_a", ".o_a", 0, 16, .ro, 0, 65535, true⟩, ⟨"o_b", ".o_b", ".o_b", 16, 16, .ro, 0, 65535, true⟩]⟩,
  ⟨"cur", "ax_ofs", "cur.ax3.ofs", true, 0x40080334, 4, 0x4, [⟨"o_a", ".o_a", ".o_a", 0, 16, .ro, 0, 65535, true⟩, ⟨"o_b", ".o_b", ".o_b", 16, 16, .ro, 0, 65535, true⟩]⟩,
  ⟨"cur", "ax_fault", "cur.ax", true, 0x40080044, 4, 0x100, [⟨"ocp_s", ".ocp_s", ".fault.ocp_s", 0, 1, .rws, 0, 1, false⟩, ⟨"open_s", ".open_s", ".fault.open_s", 1, 1, .rws, 0, 1, false⟩, ⟨"adc_s", ".adc_s", ".fault.adc_s", 2, 1, .rws, 0, 1, false⟩, ⟨"sag_s", ".sag_s", ".fault.sag_s", 3, 1, .rws, 0, 1, false⟩]⟩,
  ⟨"cur", "ax_cmd", "cur.ax", true, 0x40080048, 4, 0x100, [⟨"cal", ".cal", ".cmd.cal", 0, 1, .wo, 0, 1, false⟩, ⟨"clr_ofs", ".clr_ofs", ".cmd.clr_ofs", 1, 1, .wo, 0, 1, false⟩]⟩]

/-- The registers of DOOR (part 0). -/
def regRows_DOOR_0 : List RegRow := [
  ⟨"door", "cfg", "door", false, 0x40090000, 1, 0x4, [⟨"leaf1_en", ".leaf1_en", ".cfg.leaf1_en", 0, 1, .rw, 0, 1, false⟩, ⟨"step_en", ".step_en", ".cfg.step_en", 1, 1, .rw, 0, 1, false⟩, ⟨"ramp_en", ".ramp_en", ".cfg.ramp_en", 2, 1, .rw, 0, 1, false⟩, ⟨"step_ref", ".step_ref", ".cfg.step_ref", 3, 1, .rw, 0, 1, false⟩, ⟨"warn_gpio", ".warn_gpio", ".cfg.warn_gpio", 4, 3, .rw, 0, 7, false⟩, ⟨"n_reclose", ".n_reclose", ".cfg.n_reclose", 8, 4, .rw, 1, 15, false⟩, ⟨"ovs_pct", ".ovs_pct", ".cfg.ovs_pct", 16, 8, .rw, 0, 50, false⟩]⟩,
  ⟨"door", "stroke", "door", false, 0x40090004, 1, 0x4, [⟨"stroke_um", ".stroke_um", ".stroke.stroke_um", 0, 32, .rw, 0, 4294967295, false⟩]⟩,
  ⟨"door", "lock", "door", false, 0x40090008, 1, 0x4, [⟨"lock_win_um", ".lock_win_um", ".lock.lock_win_um", 0, 16, .rw, 0, 65535, false⟩, ⟨"t_lock", ".t_lock", ".lock.t_lock", 16, 16, .rw, 50, 5000, false⟩]⟩,
  ⟨"door", "rind", "door", false, 0x4009000C, 1, 0x4, [⟨"rind_mm", ".rind_mm", ".rind.rind_mm", 0, 8, .rw, 10, 60, false⟩, ⟨"closed_tol_um", ".closed_tol_um", ".rind.closed_tol_um", 16, 16, .rw, 0, 65535, false⟩]⟩,
  ⟨"door", "step_ret", "door", false, 0x40090010, 1, 0x4, [⟨"step_ret_um", ".step_ret_um", ".step_ret.step_ret_um", 0, 32, .rw, 0, 4294967295, false⟩]⟩,
  ⟨"door", "step_lead", "door", false, 0x40090014, 1, 0x4, [⟨"step_lead_um", ".step_lead_um", ".step_lead.step_lead_um", 0, 32, .rw, 0, 4294967295, false⟩]⟩,
  ⟨"door", "ramp_at", "door", false, 0x40090018, 1, 0x4, [⟨"ramp_at_um", ".ramp_at_um", ".ramp_at.ramp_at_um", 0, 32, .rw, 0, 4294967295, false⟩]⟩,
  ⟨"door", "twarn", "door", false, 0x4009001C, 1, 0x4, [⟨"t_warn", ".t_warn", ".twarn.t_warn", 0, 16, .rw, 50, 1000, false⟩, ⟨"t_warn_va", ".t_warn_va", ".twarn.t_warn_va", 16, 16, .rw, 50, 1500, false⟩]⟩,
  ⟨"door", "twait", "door", false, 0x40090020, 1, 0x4, [⟨"t_reclose", ".t_reclose", ".twait.t_reclose", 0, 16, .rw, 0, 65535, false⟩, ⟨"t_rewarn", ".t_rewarn", ".twait.t_rewarn", 16, 16, .rw, 0, 65535, false⟩]⟩,
  ⟨"door", "tmove", "door", false, 0x40090024, 1, 0x4, [⟨"t_open_max", ".t_open_max", ".tmove.t_open_max", 0, 16, .rw, 0, 65535, false⟩, ⟨"t_close_max", ".t_close_max", ".tmove.t_close_max", 16, 16, .rw, 0, 65535, false⟩]⟩,
  ⟨"door", "rev", "door", false, 0x40090028, 1, 0x4, [⟨"rev_dist_mm", ".rev_dist_mm", ".rev.rev_dist_mm", 0, 16, .rw, 0, 65535, false⟩]⟩,
  ⟨"door", "prof", "door", false, 0x4009002C, 1, 0x4, [⟨"p_open", ".p_open", ".prof.p_open", 0, 4, .rw, 0, 15, false⟩, ⟨"p_close", ".p_close", ".prof.p_close", 4, 4, .rw, 0, 15, false⟩, ⟨"p_rind", ".p_rind", ".prof.p_rind", 8, 4, .rw, 0, 15, false⟩, ⟨"p_step", ".p_step", ".prof.p_step", 12, 4, .rw, 0, 15, false⟩, ⟨"p_ramp", ".p_ramp", ".prof.p_ramp", 16, 4, .rw, 0, 15, false⟩]⟩,
  ⟨"door", "pre", "door", false, 0x40090030, 1, 0x4, [⟨"p_pre", ".p_pre", ".pre.p_pre", 0, 32, .ro, 0, 4294967295, false⟩]⟩,
  ⟨"door", "step_clr", "door", false, 0x40090034, 1, 0x4, [⟨"step_clr_um", ".step_clr_um", ".step_clr.step_clr_um", 0, 32, .rw, 0, 4294967295, false⟩]⟩,
  ⟨"door", "cmd", "door", false, 0x40090040, 1, 0x4, [⟨"op", ".op", ".cmd.op", 0, 4, .wo, 0, 15, false⟩, ⟨"ramp", ".ramp", ".cmd.ramp", 4, 1, .wo, 0, 1, false⟩]⟩,
  ⟨"door", "status", "door", false, 0x40090044, 1, 0x4, [⟨"state", ".state", ".status.state", 0, 4, .ro, 0, 15, false⟩, ⟨"cause", ".cause", ".status.cause", 4, 4, .ro, 0, 15, false⟩, ⟨"rind", ".rind", ".status.rind", 8, 2, .ro, 0, 3, false⟩, ⟨"withhold", ".withhold", ".status.withhold", 10, 1, .ro, 0, 1, false⟩, ⟨"va", ".va", ".status.va", 11, 1, .ro, 0, 1, false⟩, ⟨"degraded", ".degraded", ".status.degraded", 12, 1, .ro, 0, 1, false⟩, ⟨"obstructed", ".obstructed", ".status.obstructed", 13, 1, .ro, 0, 1, false⟩, ⟨"ramp_out", ".ramp_out", ".status.ramp_out", 14, 1, .ro, 0, 1, false⟩, ⟨"release_perm", ".release_perm", ".status.release_perm", 15, 1, .ro, 0, 1, false⟩, ⟨"rev_count", ".rev_count", ".status.rev_count", 16, 4, .ro, 0, 15, false⟩, ⟨"held", ".held", ".status.held", 20, 1, .ro, 0, 1, false⟩, ⟨"adm_close", ".adm_close", ".status.adm_close", 21, 1, .ro, 0, 1, false⟩, ⟨"wr_err", ".wr_err", ".status.wr_err", 22, 1, .w1c, 0, 1, false⟩, ⟨"unrel", ".unrel", ".status.unrel", 23, 1, .ro, 0, 1, false⟩]⟩,
  ⟨"door", "cycle", "door", false, 0x40090048, 1, 0x4, [⟨"count", ".count", ".cycle.count", 0, 32, .ro, 0, 4294967295, false⟩]⟩,
  ⟨"door", "state_ts_lo", "door", false, 0x4009004C, 1, 0x4, [⟨"ts", ".state_ts_lo.ts", ".state_ts_lo.ts", 0, 32, .ro, 0, 4294967295, false⟩]⟩,
  ⟨"door", "state_ts_hi", "door", false, 0x40090050, 1, 0x4, [⟨"ts", ".state_ts_hi.ts", ".state_ts_hi.ts", 0, 32, .ro, 0, 4294967295, false⟩]⟩,
  ⟨"door", "fault", "door", false, 0x40090054, 1, 0x4, [⟨"seen", ".seen", ".fault.seen", 0, 8, .rws, 0, 255, false⟩]⟩,
  ⟨"door", "meas", "door.meas", true, 0x40090060, 8, 0x4, [⟨"value", ".value", ".value", 0, 32, .ro, 0, 4294967295, false⟩]⟩]

/-- The registers of VOTE (part 0). -/
def regRows_VOTE_0 : List RegRow := [
  ⟨"vote", "cfg", "vote", false, 0x40040000, 1, 0x4, [⟨"egr_unlock", ".egr_unlock", ".cfg.egr_unlock", 0, 2, .rw, 0, 3, false⟩, ⟨"nos_tr_wh", ".nos_tr_wh", ".cfg.nos_tr_wh", 2, 1, .rw, 0, 1, false⟩, ⟨"nos_rel_wh", ".nos_rel_wh", ".cfg.nos_rel_wh", 3, 1, .rw, 0, 1, false⟩, ⟨"t2_act", ".t2_act", ".cfg.t2_act", 4, 1, .rw, 0, 1, false⟩, ⟨"vision_use", ".vision_use", ".cfg.vision_use", 5, 1, .rw, 0, 1, false⟩]⟩,
  ⟨"vote", "stat", "vote", false, 0x40040004, 1, 0x4, [⟨"tract", ".stat.tract", ".stat.tract", 0, 1, .ro, 0, 1, false⟩, ⟨"lock_low", ".lock_low", ".stat.lock_low", 1, 1, .ro, 0, 1, false⟩, ⟨"bridge", ".bridge", ".stat.bridge", 2, 1, .ro, 0, 1, false⟩, ⟨"release", ".stat.release", ".stat.release", 3, 1, .ro, 0, 1, false⟩, ⟨"mode", ".mode", ".stat.mode", 4, 2, .ro, 0, 3, false⟩, ⟨"suspect", ".suspect", ".stat.suspect", 6, 3, .ro, 0, 7, false⟩, ⟨"va", ".va", ".stat.va", 9, 1, .ro, 0, 1, false⟩, ⟨"vstill", ".vstill", ".stat.vstill", 10, 1, .ro, 0, 1, false⟩, ⟨"veto", ".veto", ".stat.veto", 11, 1, .ro, 0, 1, false⟩, ⟨"egress", ".egress", ".stat.egress", 12, 1, .ro, 0, 1, false⟩, ⟨"isol", ".isol", ".stat.isol", 13, 1, .ro, 0, 1, false⟩, ⟨"locked", ".locked", ".stat.locked", 14, 1, .ro, 0, 1, false⟩, ⟨"edge_act", ".edge_act", ".stat.edge_act", 15, 1, .ro, 0, 1, false⟩]⟩,
  ⟨"vote", "why", "vote", false, 0x40040008, 1, 0x4, [⟨"tract", ".why.tract", ".why.tract", 0, 12, .ro, 0, 4095, false⟩, ⟨"release", ".why.release", ".why.release", 16, 7, .ro, 0, 127, false⟩]⟩,
  ⟨"vote", "sin_state", "vote", false, 0x40040010, 1, 0x4, [⟨"closed", ".closed", ".sin_state.closed", 0, 24, .ro, 0, 16777215, false⟩]⟩,
  ⟨"vote", "sin_flt", "vote", false, 0x40040014, 1, 0x4, [⟨"seen", ".sin_flt.seen", ".sin_flt.seen", 0, 24, .rws, 0, 16777215, false⟩]⟩,
  ⟨"vote", "chdis", "vote", false, 0x40040018, 1, 0x4, [⟨"a", ".a", ".chdis.a", 0, 8, .ro, 0, 255, false⟩, ⟨"b", ".b", ".chdis.b", 8, 8, .ro, 0, 255, false⟩, ⟨"c", ".c", ".chdis.c", 16, 8, .ro, 0, 255, false⟩, ⟨"d2oo2", ".d2oo2", ".chdis.d2oo2", 24, 8, .ro, 0, 255, false⟩]⟩,
  ⟨"vote", "flim0", "vote", false, 0x40040020, 1, 0x4, [⟨"f_lim_out", ".f_lim_out", ".flim0.f_lim_out", 0, 12, .rw, 0, 4095, false⟩, ⟨"f_lim_rind", ".f_lim_rind", ".flim0.f_lim_rind", 16, 12, .rw, 0, 4095, false⟩]⟩,
  ⟨"vote", "flim1", "vote", false, 0x40040024, 1, 0x4, [⟨"f_lim_open", ".f_lim_open", ".flim1.f_lim_open", 0, 12, .rw, 0, 4095, false⟩, ⟨"f_lim_degr", ".f_lim_degr", ".flim1.f_lim_degr", 16, 12, .rw, 0, 4095, false⟩]⟩,
  ⟨"vote", "rind", "vote", false, 0x40040028, 1, 0x4, [⟨"v_rind_max", ".v_rind_max", ".rind.v_rind_max", 0, 8, .rw, 20, 150, false⟩, ⟨"degr_ovt_mm", ".degr_ovt_mm", ".rind.degr_ovt_mm", 8, 8, .rw, 1, 50, false⟩, ⟨"trap_open_mm", ".trap_open_mm", ".rind.trap_open_mm", 16, 16, .rw, 0, 65535, false⟩]⟩,
  ⟨"vote", "veto", "vote", false, 0x4004002C, 1, 0x4, [⟨"veto_mms", ".veto_mms", ".veto.veto_mms", 0, 16, .rw, 0, 65535, false⟩, ⟨"veto_age_ms", ".veto_age_ms", ".veto.veto_age_ms", 16, 16, .rw, 0, 65535, false⟩]⟩,
  ⟨"vote", "vis", "vote", false, 0x40040030, 1, 0x4, [⟨"conf_th", ".conf_th", ".vis.conf_th", 0, 8, .rw, 0, 255, false⟩, ⟨"clear_frames", ".clear_frames", ".vis.clear_frames", 8, 4, .rw, 1, 15, false⟩, ⟨"va_age_ms", ".va_age_ms", ".vis.va_age_ms", 16, 16, .rw, 0, 65535, false⟩]⟩,
  ⟨"vote", "time", "vote", false, 0x40040034, 1, 0x4, [⟨"egr_disc_ms", ".egr_disc_ms", ".time.egr_disc_ms", 0, 16, .rw, 0, 65535, false⟩, ⟨"stop_max_ms", ".stop_max_ms", ".time.stop_max_ms", 16, 16, .rw, 0, 65535, false⟩]⟩,
  ⟨"vote", "sigcfg", "vote", false, 0x40040038, 1, 0x4, [⟨"codes", ".codes", ".sigcfg.codes", 0, 24, .rw, 0, 16777215, false⟩]⟩,
  ⟨"vote", "hold", "vote", false, 0x4004003C, 1, 0x4, [⟨"rel_hold", ".rel_hold", ".hold.rel_hold", 0, 1, .rw, 0, 1, false⟩]⟩,
  ⟨"vote", "fault", "vote", false, 0x40040040, 1, 0x4, [⟨"seen", ".fault.seen", ".fault.seen", 0, 11, .rws, 0, 2047, false⟩, ⟨"wr_err", ".wr_err", ".fault.wr_err", 16, 1, .w1c, 0, 1, false⟩]⟩,
  ⟨"vote", "rb", "vote", false, 0x40040044, 1, 0x4, [⟨"tract_seen", ".tract_seen", ".rb.tract_seen", 0, 1, .ro, 0, 1, false⟩, ⟨"lock_drv", ".lock_drv", ".rb.lock_drv", 1, 1, .ro, 0, 1, false⟩, ⟨"brg_en_n", ".brg_en_n", ".rb.brg_en_n", 2, 1, .ro, 0, 1, false⟩, ⟨"tpo", ".tpo", ".rb.tpo", 3, 4, .ro, 0, 15, false⟩]⟩,
  ⟨"vote", "sin_cfg", "vote.sin", true, 0x40040100, 24, 0x4, [⟨"func", ".func", ".cfg.func", 0, 4, .rw, 0, 13, false⟩, ⟨"mode", ".mode", ".cfg.mode", 4, 1, .rw, 0, 1, false⟩, ⟨"tpo", ".tpo", ".cfg.tpo", 5, 2, .rw, 0, 3, false⟩, ⟨"en", ".en", ".cfg.en", 7, 1, .rw, 0, 1, false⟩]⟩,
  ⟨"vote", "mask", "vote.mask0_0_", true, 0x40040200, 18, 0x4, [⟨"row", ".row", ".row", 0, 32, .rw, 0, 4294967295, false⟩]⟩,
  ⟨"vote", "mask", "vote.mask0_1_", true, 0x40040280, 18, 0x4, [⟨"row", ".row", ".row", 0, 32, .rw, 0, 4294967295, false⟩]⟩,
  ⟨"vote", "mask", "vote.mask0_2_", true, 0x40040300, 18, 0x4, [⟨"row", ".row", ".row", 0, 32, .rw, 0, 4294967295, false⟩]⟩,
  ⟨"vote", "mask", "vote.mask1_0_", true, 0x40040400, 18, 0x4, [⟨"row", ".row", ".row", 0, 32, .rw, 0, 4294967295, false⟩]⟩,
  ⟨"vote", "mask", "vote.mask1_1_", true, 0x40040480, 18, 0x4, [⟨"row", ".row", ".row", 0, 32, .rw, 0, 4294967295, false⟩]⟩,
  ⟨"vote", "mask", "vote.mask1_2_", true, 0x40040500, 18, 0x4, [⟨"row", ".row", ".row", 0, 32, .rw, 0, 4294967295, false⟩]⟩]

/-- The registers of CAN (part 0). -/
def regRows_CAN_0 : List RegRow := [
  ⟨"can", "ctrl", "can", true, 0x400A0000, 3, 0x10000, [⟨"en", ".en", ".ctrl.en", 0, 1, .rw, 0, 1, false⟩, ⟨"init", ".init", ".ctrl.init", 1, 1, .rw, 0, 1, false⟩, ⟨"fd_en", ".fd_en", ".ctrl.fd_en", 2, 1, .rw, 0, 1, false⟩, ⟨"brs_en", ".brs_en", ".ctrl.brs_en", 3, 1, .rw, 0, 1, false⟩, ⟨"sspe", ".sspe", ".ctrl.sspe", 4, 1, .rw, 0, 1, false⟩, ⟨"mode", ".mode", ".ctrl.mode", 5, 2, .rw, 0, 3, false⟩]⟩,
  ⟨"can", "stat", "can", true, 0x400A0004, 3, 0x10000, [⟨"busy", ".busy", ".stat.busy", 0, 1, .ro, 0, 1, false⟩, ⟨"init_ack", ".init_ack", ".stat.init_ack", 1, 1, .ro, 0, 1, false⟩, ⟨"ew", ".ew", ".stat.ew", 2, 1, .ro, 0, 1, false⟩, ⟨"ep", ".ep", ".stat.ep", 3, 1, .ro, 0, 1, false⟩, ⟨"bo", ".bo", ".stat.bo", 4, 1, .ro, 0, 1, false⟩, ⟨"errc", ".errc", ".stat.errc", 5, 3, .ro, 0, 7, false⟩, ⟨"errc_d", ".errc_d", ".stat.errc_d", 8, 3, .ro, 0, 7, false⟩, ⟨"ssp_sat", ".ssp_sat", ".stat.ssp_sat", 11, 1, .ro, 0, 1, false⟩, ⟨"wr_err", ".wr_err", ".stat.wr_err", 12, 1, .w1c, 0, 1, false⟩, ⟨"bo_seq", ".bo_seq", ".stat.bo_seq", 16, 8, .ro, 0, 255, false⟩]⟩,
  ⟨"can", "ecnt", "can", true, 0x400A0008, 3, 0x10000, [⟨"tec", ".tec", ".ecnt.tec", 0, 8, .ro, 0, 255, false⟩, ⟨"rec", ".rec", ".ecnt.rec", 8, 7, .ro, 0, 127, false⟩, ⟨"rec_passive", ".rec_passive", ".ecnt.rec_passive", 15, 1, .ro, 0, 1, false⟩, ⟨"err_cnt", ".err_cnt", ".ecnt.err_cnt", 16, 8, .ro, 0, 255, false⟩]⟩,
  ⟨"can", "btn", "can", true, 0x400A0010, 3, 0x10000, [⟨"ntseg1", ".ntseg1", ".btn.ntseg1", 0, 8, .rw, 0, 255, false⟩, ⟨"ntseg2", ".ntseg2", ".btn.ntseg2", 8, 7, .rw, 0, 127, false⟩, ⟨"nsjw", ".nsjw", ".btn.nsjw", 16, 7, .rw, 0, 127, false⟩, ⟨"nbrp", ".nbrp", ".btn.nbrp", 23, 9, .rw, 0, 511, false⟩]⟩,
  ⟨"can", "btd", "can", true, 0x400A0014, 3, 0x10000, [⟨"dtseg1", ".dtseg1", ".btd.dtseg1", 0, 5, .rw, 0, 31, false⟩, ⟨"dtseg2", ".dtseg2", ".btd.dtseg2", 8, 4, .rw, 0, 15, false⟩, ⟨"dsjw", ".dsjw", ".btd.dsjw", 16, 4, .rw, 0, 15, false⟩, ⟨"dbrp", ".dbrp", ".btd.dbrp", 24, 5, .rw, 0, 31, false⟩]⟩,
  ⟨"can", "ssp", "can", true, 0x400A0018, 3, 0x10000, [⟨"ssp_ofs", ".ssp_ofs", ".ssp.ssp_ofs", 0, 7, .rw, 0, 127, false⟩, ⟨"loop", ".loop", ".ssp.loop", 8, 7, .ro, 0, 127, false⟩]⟩,
  ⟨"can", "nomatch", "can", true, 0x400A0020, 3, 0x10000, [⟨"base_act", ".base_act", ".nomatch.base_act", 0, 2, .rw, 0, 3, false⟩, ⟨"ext_act", ".ext_act", ".nomatch.ext_act", 2, 2, .rw, 0, 3, false⟩, ⟨"base_rtr_rej", ".base_rtr_rej", ".nomatch.base_rtr_rej", 4, 1, .rw, 0, 1, false⟩, ⟨"ext_rtr_rej", ".ext_rtr_rej", ".nomatch.ext_rtr_rej", 5, 1, .rw, 0, 1, false⟩]⟩,
  ⟨"can", "mrcfg0", "can", true, 0x400A0030, 3, 0x10000, [⟨"nsf", ".nsf", ".mrcfg0.nsf", 0, 7, .rw, 0, 64, false⟩, ⟨"nxf", ".nxf", ".mrcfg0.nxf", 8, 7, .rw, 0, 64, false⟩, ⟨"nf0", ".nf0", ".mrcfg0.nf0", 16, 6, .rw, 0, 32, false⟩, ⟨"nf1", ".nf1", ".mrcfg0.nf1", 24, 6, .rw, 0, 32, false⟩]⟩,
  ⟨"can", "mrcfg1", "can", true, 0x400A0034, 3, 0x10000, [⟨"nbuf", ".nbuf", ".mrcfg1.nbuf", 0, 6, .rw, 0, 32, false⟩, ⟨"ntx", ".ntx", ".mrcfg1.ntx", 8, 6, .rw, 0, 32, false⟩, ⟨"ntev", ".ntev", ".mrcfg1.ntev", 16, 6, .rw, 0, 32, false⟩]⟩,
  ⟨"can", "mrcfg2", "can", true, 0x400A0038, 3, 0x10000, [⟨"szf0", ".szf0", ".mrcfg2.szf0", 0, 2, .rw, 0, 3, false⟩, ⟨"szf1", ".szf1", ".mrcfg2.szf1", 2, 2, .rw, 0, 3, false⟩, ⟨"szbuf", ".szbuf", ".mrcfg2.szbuf", 4, 2, .rw, 0, 3, false⟩, ⟨"sztx", ".sztx", ".mrcfg2.sztx", 6, 2, .rw, 0, 3, false⟩]⟩,
  ⟨"can", "sa", "can0.sa", true, 0x400A0040, 8, 0x4, [⟨"ofs", ".ofs", ".ofs", 0, 14, .ro, 0, 16383, false⟩]⟩,
  ⟨"can", "sa", "can1.sa", true, 0x400B0040, 8, 0x4, [⟨"ofs", ".ofs", ".ofs", 0, 14, .ro, 0, 16383, false⟩]⟩,
  ⟨"can", "sa", "can2.sa", true, 0x400C0040, 8, 0x4, [⟨"ofs", ".ofs", ".ofs", 0, 14, .ro, 0, 16383, false⟩]⟩,
  ⟨"can", "rxf_stat", "can0.rxf", true, 0x400A0060, 2, 0x8, [⟨"fill", ".fill", ".stat.fill", 0, 6, .ro, 0, 63, false⟩, ⟨"get", ".get", ".stat.get", 8, 5, .ro, 0, 31, false⟩, ⟨"put", ".put", ".stat.put", 16, 5, .ro, 0, 31, false⟩, ⟨"full", ".full", ".stat.full", 24, 1, .ro, 0, 1, false⟩, ⟨"lost", ".lost", ".stat.lost", 25, 7, .ro, 0, 127, false⟩]⟩,
  ⟨"can", "rxf_stat", "can1.rxf", true, 0x400B0060, 2, 0x8, [⟨"fill", ".fill", ".stat.fill", 0, 6, .ro, 0, 63, false⟩, ⟨"get", ".get", ".stat.get", 8, 5, .ro, 0, 31, false⟩, ⟨"put", ".put", ".stat.put", 16, 5, .ro, 0, 31, false⟩, ⟨"full", ".full", ".stat.full", 24, 1, .ro, 0, 1, false⟩, ⟨"lost", ".lost", ".stat.lost", 25, 7, .ro, 0, 127, false⟩]⟩,
  ⟨"can", "rxf_stat", "can2.rxf", true, 0x400C0060, 2, 0x8, [⟨"fill", ".fill", ".stat.fill", 0, 6, .ro, 0, 63, false⟩, ⟨"get", ".get", ".stat.get", 8, 5, .ro, 0, 31, false⟩, ⟨"put", ".put", ".stat.put", 16, 5, .ro, 0, 31, false⟩, ⟨"full", ".full", ".stat.full", 24, 1, .ro, 0, 1, false⟩, ⟨"lost", ".lost", ".stat.lost", 25, 7, .ro, 0, 127, false⟩]⟩,
  ⟨"can", "rxf_rel", "can0.rxf", true, 0x400A0064, 2, 0x8, [⟨"count", ".count", ".rel.count", 0, 6, .wo, 0, 63, false⟩, ⟨"wm", ".wm", ".rel.wm", 8, 6, .rw, 0, 63, false⟩]⟩,
  ⟨"can", "rxf_rel", "can1.rxf", true, 0x400B0064, 2, 0x8, [⟨"count", ".count", ".rel.count", 0, 6, .wo, 0, 63, false⟩, ⟨"wm", ".wm", ".rel.wm", 8, 6, .rw, 0, 63, false⟩]⟩,
  ⟨"can", "rxf_rel", "can2.rxf", true, 0x400C0064, 2, 0x8, [⟨"count", ".count", ".rel.count", 0, 6, .wo, 0, 63, false⟩, ⟨"wm", ".wm", ".rel.wm", 8, 6, .rw, 0, 63, false⟩]⟩,
  ⟨"can", "rxb_new", "can", true, 0x400A0070, 3, 0x10000, [⟨"bits", ".rxb_new.bits", ".rxb_new.bits", 0, 32, .ro, 0, 4294967295, false⟩]⟩,
  ⟨"can", "rxb_ovr", "can", true, 0x400A0074, 3, 0x10000, [⟨"bits", ".rxb_ovr.bits", ".rxb_ovr.bits", 0, 32, .w1c, 0, 4294967295, false⟩]⟩,
  ⟨"can", "rxb_lock", "can", true, 0x400A0078, 3, 0x10000, [⟨"bits", ".rxb_lock.bits", ".rxb_lock.bits", 0, 32, .ro, 0, 4294967295, false⟩]⟩,
  ⟨"can", "rxb_unlock", "can", true, 0x400A007C, 3, 0x10000, [⟨"bits", ".rxb_unlock.bits", ".rxb_unlock.bits", 0, 32, .wo, 0, 4294967295, false⟩]⟩,
  ⟨"can", "rxb_cur", "can", true, 0x400A0080, 3, 0x10000, [⟨"bits", ".rxb_cur.bits", ".rxb_cur.bits", 0, 32, .ro, 0, 4294967295, false⟩]⟩,
  ⟨"can", "tx_pend", "can", true, 0x400A0090, 3, 0x10000, [⟨"bits", ".tx_pend.bits", ".tx_pend.bits", 0, 32, .ro, 0, 4294967295, false⟩]⟩,
  ⟨"can", "tx_go", "can", true, 0x400A0094, 3, 0x10000, [⟨"bits", ".tx_go.bits", ".tx_go.bits", 0, 32, .wo, 0, 4294967295, false⟩]⟩,
  ⟨"can", "tx_abort", "can", true, 0x400A0098, 3, 0x10000, [⟨"bits", ".tx_abort.bits", ".tx_abort.bits", 0, 32, .wo, 0, 4294967295, false⟩]⟩,
  ⟨"can", "tx_sent", "can", true, 0x400A009C, 3, 0x10000, [⟨"bits", ".tx_sent.bits", ".tx_sent.bits", 0, 32, .ro, 0, 4294967295, false⟩]⟩,
  ⟨"can", "tx_abtd", "can", true, 0x400A00A0, 3, 0x10000, [⟨"bits", ".tx_abtd.bits", ".tx_abtd.bits", 0, 32, .ro, 0, 4294967295, false⟩]⟩,
  ⟨"can", "tev_stat", "can", true, 0x400A00B0, 3, 0x10000, [⟨"fill", ".fill", ".tev_stat.fill", 0, 6, .ro, 0, 63, false⟩, ⟨"get", ".get", ".tev_stat.get", 8, 5, .ro, 0, 31, false⟩, ⟨"put", ".put", ".tev_stat.put", 16, 5, .ro, 0, 31, false⟩, ⟨"full", ".full", ".tev_stat.full", 24, 1, .ro, 0, 1, false⟩, ⟨"lost", ".lost", ".tev_stat.lost", 25, 7, .ro, 0, 127, false⟩]⟩,
  ⟨"can", "tev_rel", "can", true, 0x400A00B4, 3, 0x10000, [⟨"count", ".count", ".tev_rel.count", 0, 6, .wo, 0, 63, false⟩, ⟨"wm", ".wm", ".tev_rel.wm", 8, 6, .rw, 0, 63, false⟩]⟩,
  ⟨"can", "ir", "can", true, 0x400A00C0, 3, 0x10000, [⟨"bits", ".ir.bits", ".ir.bits", 0, 20, .w1c, 0, 1048575, false⟩]⟩,
  ⟨"can", "ie", "can", true, 0x400A00C4, 3, 0x10000, [⟨"bits", ".ie.bits", ".ie.bits", 0, 20, .rw, 0, 1048575, false⟩]⟩,
  ⟨"can", "tsx_lo", "can", true, 0x400A00D0, 3, 0x10000, [⟨"ts", ".tsx_lo.ts", ".tsx_lo.ts", 0, 32, .ro, 0, 4294967295, false⟩]⟩,
  ⟨"can", "tsx_hi", "can", true, 0x400A00D4, 3, 0x10000, [⟨"ts", ".tsx_hi.ts", ".tsx_hi.ts", 0, 32, .ro, 0, 4294967295, false⟩]⟩,
  ⟨"can", "fault", "can", true, 0x400A00E0, 3, 0x10000, [⟨"seen", ".seen", ".fault.seen", 0, 6, .rws, 0, 63, false⟩]⟩,
  ⟨"can", "ecc", "can", true, 0x400A00E4, 3, 0x10000, [⟨"corr", ".corr", ".ecc.corr", 0, 16, .ro, 0, 65535, false⟩, ⟨"uncorr", ".uncorr", ".ecc.uncorr", 16, 16, .ro, 0, 65535, false⟩]⟩,
  ⟨"can", "cnt", "can", true, 0x400A00F0, 3, 0x10000, [⟨"disc", ".disc", ".cnt.disc", 0, 16, .ro, 0, 65535, false⟩]⟩,
  ⟨"can", "cnt_rx", "can", true, 0x400A00F4, 3, 0x10000, [⟨"n", ".cnt_rx.n", ".cnt_rx.n", 0, 32, .ro, 0, 4294967295, false⟩]⟩,
  ⟨"can", "cnt_tx", "can", true, 0x400A00F8, 3, 0x10000, [⟨"n", ".cnt_tx.n", ".cnt_tx.n", 0, 32, .ro, 0, 4294967295, false⟩]⟩]

/-- The registers of ETH (part 0). -/
def regRows_ETH_0 : List RegRow := [
  ⟨"eth", "cfg", "eth", false, 0x400D0000, 1, 0x4, [⟨"en", ".en", ".cfg.en", 0, 1, .rw, 0, 1, false⟩, ⟨"if0", ".if0", ".cfg.if0", 1, 2, .rw, 0, 2, false⟩, ⟨"if1", ".if1", ".cfg.if1", 3, 2, .rw, 0, 2, false⟩, ⟨"sw_en", ".sw_en", ".cfg.sw_en", 5, 1, .rw, 0, 1, false⟩, ⟨"wr_err", ".wr_err", ".cfg.wr_err", 6, 1, .w1c, 0, 1, false⟩]⟩,
  ⟨"eth", "port_cfg", "eth.port", true, 0x400D0010, 2, 0x10, [⟨"speed", ".cfg.speed", ".cfg.speed", 0, 2, .rw, 0, 3, false⟩, ⟨"txdly", ".txdly", ".cfg.txdly", 2, 1, .rw, 0, 1, false⟩, ⟨"rxdly", ".rxdly", ".cfg.rxdly", 3, 1, .rw, 0, 1, false⟩, ⟨"phyad", ".phyad", ".cfg.phyad", 4, 5, .rw, 0, 31, false⟩]⟩,
  ⟨"eth", "port_stat", "eth.port", true, 0x400D0014, 2, 0x10, [⟨"link", ".link", ".stat.link", 0, 1, .ro, 0, 1, false⟩, ⟨"speed", ".stat.speed", ".stat.speed", 1, 2, .ro, 0, 3, false⟩]⟩,
  ⟨"eth", "port_cnt0", "eth.port", true, 0x400D0018, 2, 0x10, [⟨"rx", ".rx", ".cnt0.rx", 0, 32, .ro, 0, 4294967295, false⟩]⟩,
  ⟨"eth", "port_cnt1", "eth.port", true, 0x400D001C, 2, 0x10, [⟨"drop", ".drop", ".cnt1.drop", 0, 32, .ro, 0, 4294967295, false⟩]⟩,
  ⟨"eth", "mac_lo", "eth", false, 0x400D0040, 1, 0x4, [⟨"mac", ".mac_lo.mac", ".mac_lo.mac", 0, 32, .ro, 0, 4294967295, false⟩]⟩,
  ⟨"eth", "mac_hi", "eth", false, 0x400D0044, 1, 0x4, [⟨"mac", ".mac_hi.mac", ".mac_hi.mac", 0, 16, .ro, 0, 65535, false⟩]⟩,
  ⟨"eth", "ip", "eth", false, 0x400D0048, 1, 0x4, [⟨"addr", ".ip.addr", ".ip.addr", 0, 32, .rw, 0, 4294967295, false⟩]⟩,
  ⟨"eth", "mask", "eth", false, 0x400D004C, 1, 0x4, [⟨"addr", ".mask.addr", ".mask.addr", 0, 32, .rw, 0, 4294967295, false⟩]⟩,
  ⟨"eth", "gw", "eth", false, 0x400D0050, 1, 0x4, [⟨"addr", ".gw.addr", ".gw.addr", 0, 32, .rw, 0, 4294967295, false⟩]⟩,
  ⟨"eth", "vlan", "eth", false, 0x400D0054, 1, 0x4, [⟨"vid", ".vid", ".vlan.vid", 0, 12, .rw, 0, 4095, false⟩, ⟨"pcp", ".pcp", ".vlan.pcp", 12, 3, .rw, 0, 7, false⟩, ⟨"tag", ".tag", ".vlan.tag", 15, 1, .rw, 0, 1, false⟩]⟩,
  ⟨"eth", "sw", "eth", false, 0x400D0060, 1, 0x4, [⟨"age_s", ".age_s", ".sw.age_s", 0, 12, .rw, 0, 4095, false⟩, ⟨"entries", ".entries", ".sw.entries", 16, 12, .ro, 0, 4095, false⟩]⟩,
  ⟨"eth", "drop", "eth", false, 0x400D0070, 1, 0x4, [⟨"other", ".other", ".drop.other", 0, 16, .ro, 0, 65535, false⟩, ⟨"frag", ".frag", ".drop.frag", 16, 16, .ro, 0, 65535, false⟩]⟩,
  ⟨"eth", "fault", "eth", false, 0x400D007C, 1, 0x4, [⟨"seen", ".seen", ".fault.seen", 0, 2, .rws, 0, 3, false⟩, ⟨"seen7", ".seen7", ".fault.seen7", 2, 1, .rws, 0, 1, false⟩]⟩]

/-- The registers of TSYN (part 0). -/
def regRows_TSYN_0 : List RegRow := [
  ⟨"tsyn", "cfg", "tsyn", false, 0x400E0000, 1, 0x4, [⟨"gptp_en", ".gptp_en", ".cfg.gptp_en", 0, 1, .rw, 0, 1, false⟩, ⟨"gptp_port", ".gptp_port", ".cfg.gptp_port", 1, 2, .rw, 0, 2, false⟩, ⟨"can_en", ".can_en", ".cfg.can_en", 3, 1, .rw, 0, 1, false⟩, ⟨"can_ctrl", ".can_ctrl", ".cfg.can_ctrl", 4, 2, .rw, 0, 2, false⟩, ⟨"pps_en", ".pps_en", ".cfg.pps_en", 6, 1, .rw, 0, 1, false⟩]⟩,
  ⟨"tsyn", "gptp", "tsyn", false, 0x400E0004, 1, 0x4, [⟨"domain", ".domain", ".gptp.domain", 0, 7, .rw, 0, 127, false⟩, ⟨"pd_thresh", ".pd_thresh", ".gptp.pd_thresh", 16, 8, .rw, 0, 255, false⟩]⟩,
  ⟨"tsyn", "servo", "tsyn", false, 0x400E0008, 1, 0x4, [⟨"tau_gptp", ".tau_gptp", ".servo.tau_gptp", 0, 8, .rw, 1, 64, false⟩, ⟨"tau_can", ".tau_can", ".servo.tau_can", 8, 8, .rw, 1, 255, false⟩, ⟨"slew", ".slew", ".servo.slew", 16, 16, .rw, 100, 1000, false⟩]⟩,
  ⟨"tsyn", "hold", "tsyn", false, 0x400E000C, 1, 0x4, [⟨"ho_drift", ".ho_drift", ".hold.ho_drift", 0, 16, .rw, 0, 65535, false⟩, ⟨"phase_max", ".phase_max", ".hold.phase_max", 16, 16, .rw, 0, 65535, false⟩]⟩,
  ⟨"tsyn", "lat", "tsyn", false, 0x400E0010, 1, 0x4, [⟨"rx_lat", ".rx_lat", ".lat.rx_lat", 0, 16, .rw, 0, 65535, false⟩, ⟨"tx_lat", ".tx_lat", ".lat.tx_lat", 16, 16, .rw, 0, 65535, false⟩]⟩,
  ⟨"tsyn", "stat", "tsyn", false, 0x400E0014, 1, 0x4, [⟨"src", ".src", ".stat.src", 0, 2, .ro, 0, 3, false⟩, ⟨"slewing", ".slewing", ".stat.slewing", 2, 1, .ro, 0, 1, false⟩, ⟨"set", ".set", ".stat.set", 3, 1, .ro, 0, 1, false⟩, ⟨"q_gptp", ".q_gptp", ".stat.q_gptp", 4, 1, .ro, 0, 1, false⟩, ⟨"q_can", ".q_can", ".stat.q_can", 5, 1, .ro, 0, 1, false⟩, ⟨"as_capable", ".as_capable", ".stat.as_capable", 6, 1, .ro, 0, 1, false⟩, ⟨"sat", ".sat", ".stat.sat", 7, 1, .ro, 0, 1, false⟩, ⟨"qual", ".qual", ".stat.qual", 8, 8, .ro, 0, 255, false⟩, ⟨"wr_err", ".wr_err", ".stat.wr_err", 16, 1, .w1c, 0, 1, false⟩]⟩,
  ⟨"tsyn", "tbl_lo", "tsyn", false, 0x400E0020, 1, 0x4, [⟨"t", ".tbl_lo.t", ".tbl_lo.t", 0, 32, .ro, 0, 4294967295, false⟩]⟩,
  ⟨"tsyn", "tbl_hi", "tsyn", false, 0x400E0024, 1, 0x4, [⟨"t", ".tbl_hi.t", ".tbl_hi.t", 0, 32, .ro, 0, 4294967295, false⟩]⟩,
  ⟨"tsyn", "tbv_lo", "tsyn", false, 0x400E0028, 1, 0x4, [⟨"t", ".tbv_lo.t", ".tbv_lo.t", 0, 32, .ro, 0, 4294967295, false⟩]⟩,
  ⟨"tsyn", "tbv_hi", "tsyn", false, 0x400E002C, 1, 0x4, [⟨"t", ".tbv_hi.t", ".tbv_hi.t", 0, 32, .ro, 0, 4294967295, false⟩]⟩,
  ⟨"tsyn", "freq", "tsyn", false, 0x400E0030, 1, 0x4, [⟨"y", ".y", ".freq.y", 0, 32, .ro, 0, 4294967295, true⟩]⟩,
  ⟨"tsyn", "freqf", "tsyn", false, 0x400E0034, 1, 0x4, [⟨"yf", ".yf", ".freqf.yf", 0, 32, .ro, 0, 4294967295, true⟩]⟩,
  ⟨"tsyn", "theta", "tsyn", false, 0x400E0038, 1, 0x4, [⟨"theta", ".theta", ".theta.theta", 0, 32, .ro, 0, 4294967295, true⟩]⟩,
  ⟨"tsyn", "pdelay", "tsyn", false, 0x400E003C, 1, 0x4, [⟨"pd", ".pd", ".pdelay.pd", 0, 32, .ro, 0, 4294967295, false⟩]⟩,
  ⟨"tsyn", "gm_lo", "tsyn", false, 0x400E0040, 1, 0x4, [⟨"id", ".gm_lo.id", ".gm_lo.id", 0, 32, .ro, 0, 4294967295, false⟩]⟩,
  ⟨"tsyn", "gm_hi", "tsyn", false, 0x400E0044, 1, 0x4, [⟨"id", ".gm_hi.id", ".gm_hi.id", 0, 32, .ro, 0, 4294967295, false⟩]⟩,
  ⟨"tsyn", "bound", "tsyn", false, 0x400E0048, 1, 0x4, [⟨"bound", ".bound", ".bound.bound", 0, 32, .ro, 0, 4294967295, false⟩]⟩,
  ⟨"tsyn", "fault", "tsyn", false, 0x400E004C, 1, 0x4, [⟨"seen", ".seen", ".fault.seen", 0, 4, .rws, 0, 15, false⟩]⟩]

/-- The registers of PAIR (part 0). -/
def regRows_PAIR_0 : List RegRow := [
  ⟨"pair", "cfg", "pair", false, 0x40030000, 1, 0x4, [⟨"en", ".en", ".cfg.en", 0, 1, .rw, 0, 1, false⟩, ⟨"auto_ho", ".auto_ho", ".cfg.auto_ho", 1, 1, .rw, 0, 1, false⟩, ⟨"elect_wait", ".elect_wait", ".cfg.elect_wait", 8, 8, .rw, 1, 255, false⟩, ⟨"t_steer", ".t_steer", ".cfg.t_steer", 16, 8, .rw, 10, 40, false⟩]⟩,
  ⟨"pair", "stat", "pair", false, 0x40030004, 1, 0x4, [⟨"role", ".role", ".stat.role", 0, 2, .ro, 0, 3, false⟩, ⟨"side", ".side", ".stat.side", 2, 1, .ro, 0, 1, false⟩, ⟨"held", ".held", ".stat.held", 3, 1, .ro, 0, 1, false⟩, ⟨"lease_in", ".lease_in", ".stat.lease_in", 4, 1, .ro, 0, 1, false⟩, ⟨"steer", ".steer", ".stat.steer", 5, 1, .ro, 0, 1, false⟩, ⟨"link", ".link", ".stat.link", 6, 1, .ro, 0, 1, false⟩, ⟨"one_lane", ".one_lane", ".stat.one_lane", 7, 1, .ro, 0, 1, false⟩, ⟨"alone", ".alone", ".stat.alone", 8, 1, .ro, 0, 1, false⟩, ⟨"split", ".split", ".stat.split", 9, 1, .ro, 0, 1, false⟩, ⟨"mirror_stale", ".mirror_stale", ".stat.mirror_stale", 10, 1, .ro, 0, 1, false⟩, ⟨"own_health", ".own_health", ".stat.own_health", 11, 2, .ro, 0, 3, false⟩, ⟨"peer_health", ".peer_health", ".stat.peer_health", 13, 2, .ro, 0, 3, false⟩, ⟨"wr_err", ".wr_err", ".stat.wr_err", 15, 1, .w1c, 0, 1, false⟩]⟩,
  ⟨"pair", "epoch", "pair", false, 0x40030008, 1, 0x4, [⟨"epoch", ".epoch.epoch", ".epoch.epoch", 0, 32, .ro, 0, 4294967295, false⟩]⟩,
  ⟨"pair", "peer_epoch", "pair", false, 0x4003000C, 1, 0x4, [⟨"epoch", ".peer_epoch.epoch", ".peer_epoch.epoch", 0, 32, .ro, 0, 4294967295, false⟩]⟩,
  ⟨"pair", "health", "pair", false, 0x40030010, 1, 0x4, [⟨"checks", ".health.checks", ".health.checks", 0, 11, .ro, 0, 2047, false⟩]⟩,
  ⟨"pair", "peer_health", "pair", false, 0x40030014, 1, 0x4, [⟨"checks", ".peer_health.checks", ".peer_health.checks", 0, 11, .ro, 0, 2047, false⟩]⟩,
  ⟨"pair", "ho_ctrl", "pair", false, 0x40030018, 1, 0x4, [⟨"ho_go", ".ho_go", ".ho_ctrl.ho_go", 0, 1, .wo, 0, 1, false⟩]⟩,
  ⟨"pair", "ho_stat", "pair", false, 0x4003001C, 1, 0x4, [⟨"busy", ".busy", ".ho_stat.busy", 0, 1, .ro, 0, 1, false⟩, ⟨"result", ".result", ".ho_stat.result", 4, 4, .ro, 0, 15, false⟩]⟩,
  ⟨"pair", "last_gap", "pair", false, 0x40030020, 1, 0x4, [⟨"gap_us", ".gap_us", ".last_gap.gap_us", 0, 16, .ro, 0, 65535, false⟩, ⟨"planned", ".planned", ".last_gap.planned", 16, 1, .ro, 0, 1, false⟩, ⟨"cold", ".cold", ".last_gap.cold", 17, 1, .ro, 0, 1, false⟩]⟩,
  ⟨"pair", "cnt", "pair", false, 0x40030024, 1, 0x4, [⟨"takeovers", ".takeovers", ".cnt.takeovers", 0, 16, .ro, 0, 65535, false⟩, ⟨"handovers", ".handovers", ".cnt.handovers", 16, 16, .ro, 0, 65535, false⟩]⟩,
  ⟨"pair", "link_cnt", "pair", false, 0x40030028, 1, 0x4, [⟨"crc", ".crc", ".link_cnt.crc", 0, 16, .ro, 0, 65535, false⟩, ⟨"missed", ".missed", ".link_cnt.missed", 16, 16, .ro, 0, 65535, false⟩]⟩,
  ⟨"pair", "offset_lo", "pair", false, 0x40030030, 1, 0x4, [⟨"ofs", ".offset_lo.ofs", ".offset_lo.ofs", 0, 32, .ro, 0, 4294967295, false⟩]⟩,
  ⟨"pair", "offset_hi", "pair", false, 0x40030034, 1, 0x4, [⟨"ofs", ".offset_hi.ofs", ".offset_hi.ofs", 0, 32, .ro, 0, 4294967295, false⟩]⟩,
  ⟨"pair", "fault", "pair", false, 0x4003003C, 1, 0x4, [⟨"seen", ".seen", ".fault.seen", 0, 11, .rws, 0, 2047, false⟩]⟩]

/-- The registers of WQM (part 0). -/
def regRows_WQM_0 : List RegRow := [
  ⟨"wqm", "stat", "wqm", false, 0x400F0000, 1, 0x4, [⟨"in_use", ".in_use", ".stat.in_use", 0, 13, .ro, 0, 8191, false⟩, ⟨"resync", ".resync", ".stat.resync", 13, 1, .ro, 0, 1, false⟩, ⟨"unmirrored", ".unmirrored", ".stat.unmirrored", 14, 1, .ro, 0, 1, false⟩, ⟨"wr_err", ".wr_err", ".stat.wr_err", 15, 1, .w1c, 0, 1, false⟩]⟩,
  ⟨"wqm", "jrn_head", "wqm", false, 0x400F0004, 1, 0x4, [⟨"slot", ".jrn_head.slot", ".jrn_head.slot", 0, 12, .ro, 0, 4095, false⟩]⟩,
  ⟨"wqm", "jrn_tail", "wqm", false, 0x400F0008, 1, 0x4, [⟨"slot", ".jrn_tail.slot", ".jrn_tail.slot", 0, 12, .ro, 0, 4095, false⟩]⟩,
  ⟨"wqm", "cnt_acc", "wqm", false, 0x400F0010, 1, 0x4, [⟨"n", ".cnt_acc.n", ".cnt_acc.n", 0, 32, .ro, 0, 4294967295, false⟩]⟩,
  ⟨"wqm", "cnt_ref", "wqm", false, 0x400F0014, 1, 0x4, [⟨"n", ".cnt_ref.n", ".cnt_ref.n", 0, 32, .ro, 0, 4294967295, false⟩]⟩,
  ⟨"wqm", "cnt_rpl", "wqm", false, 0x400F0018, 1, 0x4, [⟨"n", ".cnt_rpl.n", ".cnt_rpl.n", 0, 32, .ro, 0, 4294967295, false⟩]⟩,
  ⟨"wqm", "fault", "wqm", false, 0x400F001C, 1, 0x4, [⟨"seen", ".seen", ".fault.seen", 0, 4, .rws, 0, 15, false⟩]⟩,
  ⟨"wqm", "q_cfg", "wqm.q", true, 0x400F0400, 128, 0x10, [⟨"source", ".source", ".cfg.source", 0, 5, .rw, 0, 17, false⟩, ⟨"en", ".en", ".cfg.en", 5, 1, .rw, 0, 1, false⟩, ⟨"door", ".door", ".cfg.door", 6, 1, .rw, 0, 1, false⟩, ⟨"log", ".log", ".cfg.log", 7, 1, .rw, 0, 1, false⟩]⟩,
  ⟨"wqm", "q_stat", "wqm.q", true, 0x400F0404, 128, 0x10, [⟨"fill", ".fill", ".stat.fill", 0, 9, .ro, 0, 511, false⟩, ⟨"held", ".held", ".stat.held", 9, 1, .ro, 0, 1, false⟩]⟩,
  ⟨"wqm", "q_seq", "wqm.q", true, 0x400F0408, 128, 0x10, [⟨"qseq", ".seq.qseq", ".seq.qseq", 0, 32, .ro, 0, 4294967295, false⟩]⟩,
  ⟨"wqm", "q_done", "wqm.q", true, 0x400F040C, 128, 0x10, [⟨"qseq", ".done.qseq", ".done.qseq", 0, 32, .ro, 0, 4294967295, false⟩]⟩]

/-- The registers of LEDG (part 0). -/
def regRows_LEDG_0 : List RegRow := [
  ⟨"ledg", "stat", "ledg", false, 0x40100000, 1, 0x4, [⟨"gap_open", ".gap_open", ".stat.gap_open", 0, 1, .ro, 0, 1, false⟩, ⟨"export", ".export", ".stat.export", 1, 1, .ro, 0, 1, false⟩, ⟨"thinning", ".thinning", ".stat.thinning", 2, 1, .ro, 0, 1, false⟩, ⟨"losing", ".losing", ".stat.losing", 3, 1, .ro, 0, 1, false⟩, ⟨"wr_err", ".wr_err", ".stat.wr_err", 4, 1, .w1c, 0, 1, false⟩]⟩,
  ⟨"ledg", "seq_lo", "ledg", false, 0x40100004, 1, 0x4, [⟨"seq", ".seq_lo.seq", ".seq_lo.seq", 0, 32, .ro, 0, 4294967295, false⟩]⟩,
  ⟨"ledg", "seq_hi", "ledg", false, 0x40100008, 1, 0x4, [⟨"seq", ".seq_hi.seq", ".seq_hi.seq", 0, 16, .ro, 0, 65535, false⟩]⟩,
  ⟨"ledg", "exp_lo", "ledg", false, 0x4010000C, 1, 0x4, [⟨"seq", ".exp_lo.seq", ".exp_lo.seq", 0, 32, .ro, 0, 4294967295, false⟩]⟩,
  ⟨"ledg", "exp_hi", "ledg", false, 0x40100010, 1, 0x4, [⟨"seq", ".exp_hi.seq", ".exp_hi.seq", 0, 16, .ro, 0, 65535, false⟩]⟩,
  ⟨"ledg", "old_lo", "ledg", false, 0x40100014, 1, 0x4, [⟨"seq", ".old_lo.seq", ".old_lo.seq", 0, 32, .ro, 0, 4294967295, false⟩]⟩,
  ⟨"ledg", "old_hi", "ledg", false, 0x40100018, 1, 0x4, [⟨"seq", ".old_hi.seq", ".old_hi.seq", 0, 16, .ro, 0, 65535, false⟩]⟩,
  ⟨"ledg", "fill", "ledg", false, 0x4010001C, 1, 0x4, [⟨"unexp", ".unexp", ".fill.unexp", 0, 16, .ro, 0, 65535, false⟩, ⟨"detail", ".detail", ".fill.detail", 16, 16, .ro, 0, 65535, false⟩]⟩,
  ⟨"ledg", "thin", "ledg", false, 0x40100020, 1, 0x4, [⟨"n", ".thin.n", ".thin.n", 0, 32, .ro, 0, 4294967295, false⟩]⟩,
  ⟨"ledg", "lost", "ledg", false, 0x40100024, 1, 0x4, [⟨"n", ".lost.n", ".lost.n", 0, 32, .ro, 0, 4294967295, false⟩]⟩,
  ⟨"ledg", "cfg", "ledg", false, 0x40100028, 1, 0x4, [⟨"detail_en", ".detail_en", ".cfg.detail_en", 0, 1, .rw, 0, 1, false⟩, ⟨"cmd_en", ".cmd_en", ".cfg.cmd_en", 1, 1, .rw, 0, 1, false⟩]⟩,
  ⟨"ledg", "hold", "ledg", false, 0x40100030, 1, 0x4, [⟨"held", ".held", ".hold.held", 0, 7, .ro, 0, 127, false⟩, ⟨"discarded", ".discarded", ".hold.discarded", 16, 16, .ro, 0, 65535, false⟩]⟩,
  ⟨"ledg", "fault", "ledg", false, 0x4010003C, 1, 0x4, [⟨"seen", ".seen", ".fault.seen", 0, 5, .rws, 0, 31, false⟩]⟩]

/-- The registers of CON (part 0). -/
def regRows_CON_0 : List RegRow := [
  ⟨"con", "uart_cfg", "con.uart", true, 0x40110000, 2, 0x4, [⟨"baud", ".baud", ".cfg.baud", 0, 3, .rw, 0, 7, false⟩]⟩,
  ⟨"con", "cfg", "con", false, 0x40110008, 1, 0x4, [⟨"con_idle", ".con_idle", ".cfg.con_idle", 0, 12, .rw, 60, 3600, false⟩]⟩,
  ⟨"con", "op_allow", "con.op_allow", true, 0x40110010, 4, 0x4, [⟨"addr", ".addr", ".addr", 0, 32, .rw, 0, 4294967295, false⟩]⟩,
  ⟨"con", "sess_stat", "con", false, 0x40110020, 1, 0x4, [⟨"open", ".open", ".sess_stat.open", 0, 6, .ro, 0, 63, false⟩, ⟨"role", ".role", ".sess_stat.role", 6, 12, .ro, 0, 4095, false⟩, ⟨"gen", ".gen", ".sess_stat.gen", 18, 6, .ro, 0, 63, false⟩]⟩,
  ⟨"con", "fault", "con", false, 0x4011003C, 1, 0x4, [⟨"seen", ".seen", ".fault.seen", 0, 1, .rws, 0, 1, false⟩]⟩]

/-- The registers of UPD (part 0). -/
def regRows_UPD_0 : List RegRow := [
  ⟨"upd", "cfg", "upd", false, 0x40120000, 1, 0x4, [⟨"rst_gpio", ".rst_gpio", ".cfg.rst_gpio", 0, 3, .rw, 0, 7, false⟩, ⟨"rst_en", ".rst_en", ".cfg.rst_en", 3, 1, .rw, 0, 1, false⟩, ⟨"rst_dly", ".rst_dly", ".cfg.rst_dly", 4, 6, .rw, 1, 60, false⟩]⟩,
  ⟨"upd", "stat", "upd", false, 0x40120004, 1, 0x4, [⟨"busy", ".busy", ".stat.busy", 0, 1, .ro, 0, 1, false⟩, ⟨"trial", ".trial", ".stat.trial", 1, 1, .ro, 0, 1, false⟩, ⟨"pending_rst", ".pending_rst", ".stat.pending_rst", 2, 1, .ro, 0, 1, false⟩, ⟨"wr_err", ".wr_err", ".stat.wr_err", 3, 1, .w1c, 0, 1, false⟩]⟩,
  ⟨"upd", "trial", "upd", false, 0x40120008, 1, 0x4, [⟨"images", ".images", ".trial.images", 0, 9, .ro, 0, 511, false⟩, ⟨"trial_boots", ".trial_boots", ".trial.trial_boots", 12, 4, .ro, 0, 15, false⟩, ⟨"seconds", ".seconds", ".trial.seconds", 16, 10, .ro, 0, 1023, false⟩]⟩,
  ⟨"upd", "ptr", "upd", false, 0x4012000C, 1, 0x4, [⟨"sel", ".sel", ".ptr.sel", 0, 9, .ro, 0, 511, false⟩]⟩,
  ⟨"upd", "ptr_seq", "upd", false, 0x40120010, 1, 0x4, [⟨"seq", ".seq", ".ptr_seq.seq", 0, 32, .ro, 0, 4294967295, false⟩]⟩,
  ⟨"upd", "fault", "upd", false, 0x4012003C, 1, 0x4, [⟨"seen", ".seen", ".fault.seen", 0, 5, .rws, 0, 31, false⟩]⟩,
  ⟨"upd", "slot_stat", "upd.slot", true, 0x40120100, 18, 0x8, [⟨"state", ".state", ".stat.state", 0, 4, .ro, 0, 15, false⟩, ⟨"mark", ".mark", ".stat.mark", 16, 16, .ro, 0, 65535, false⟩]⟩,
  ⟨"upd", "slot_ver", "upd.slot", true, 0x40120104, 18, 0x8, [⟨"version", ".version", ".ver.version", 0, 32, .ro, 0, 4294967295, false⟩]⟩]

/-- The registers of FLT (part 0). -/
def regRows_FLT_0 : List RegRow := [
  ⟨"flt", "stat", "flt", false, 0x40130000, 1, 0x4, [⟨"cur", ".cur", ".stat.cur", 0, 16, .ro, 0, 65535, false⟩, ⟨"cur_sev", ".cur_sev", ".stat.cur_sev", 16, 3, .ro, 0, 7, false⟩, ⟨"level", ".level", ".stat.level", 19, 5, .ro, 0, 31, false⟩, ⟨"max_sev", ".max_sev", ".stat.max_sev", 24, 3, .ro, 0, 7, false⟩, ⟨"susp", ".susp", ".stat.susp", 27, 4, .ro, 0, 15, false⟩, ⟨"faultn", ".faultn", ".stat.faultn", 31, 1, .ro, 0, 1, false⟩]⟩,
  ⟨"flt", "ovf", "flt", false, 0x40130004, 1, 0x4, [⟨"code", ".ovf.code", ".ovf.code", 0, 16, .ro, 0, 65535, false⟩, ⟨"count", ".ovf.count", ".ovf.count", 16, 16, .ro, 0, 65535, false⟩]⟩,
  ⟨"flt", "list_idx", "flt", false, 0x40130010, 1, 0x4, [⟨"idx", ".idx", ".list_idx.idx", 0, 7, .rw, 0, 127, false⟩]⟩,
  ⟨"flt", "list_ent", "flt", false, 0x40130014, 1, 0x4, [⟨"code", ".list_ent.code", ".list_ent.code", 0, 16, .ro, 0, 65535, false⟩, ⟨"sev", ".sev", ".list_ent.sev", 16, 3, .ro, 0, 7, false⟩, ⟨"esc", ".esc", ".list_ent.esc", 19, 1, .ro, 0, 1, false⟩, ⟨"count", ".list_ent.count", ".list_ent.count", 24, 8, .ro, 0, 255, false⟩]⟩,
  ⟨"flt", "list_first_lo", "flt", false, 0x40130018, 1, 0x4, [⟨"ts", ".list_first_lo.ts", ".list_first_lo.ts", 0, 32, .ro, 0, 4294967295, false⟩]⟩,
  ⟨"flt", "list_first_hi", "flt", false, 0x4013001C, 1, 0x4, [⟨"ts", ".list_first_hi.ts", ".list_first_hi.ts", 0, 32, .ro, 0, 4294967295, false⟩]⟩,
  ⟨"flt", "list_last_lo", "flt", false, 0x40130020, 1, 0x4, [⟨"ts", ".list_last_lo.ts", ".list_last_lo.ts", 0, 32, .ro, 0, 4294967295, false⟩]⟩,
  ⟨"flt", "list_last_hi", "flt", false, 0x40130024, 1, 0x4, [⟨"ts", ".list_last_hi.ts", ".list_last_hi.ts", 0, 32, .ro, 0, 4294967295, false⟩]⟩,
  ⟨"flt", "count", "flt", false, 0x40130028, 1, 0x4, [⟨"n", ".count.n", ".count.n", 0, 7, .ro, 0, 127, false⟩]⟩,
  ⟨"flt", "ack", "flt", false, 0x40130030, 1, 0x4, [⟨"code", ".ack.code", ".ack.code", 0, 16, .wo, 0, 65535, false⟩]⟩,
  ⟨"flt", "ack_res", "flt", false, 0x40130034, 1, 0x4, [⟨"res", ".res", ".ack_res.res", 0, 2, .ro, 0, 3, false⟩]⟩,
  ⟨"flt", "raised", "flt", false, 0x40130038, 1, 0x4, [⟨"n", ".raised.n", ".raised.n", 0, 32, .ro, 0, 4294967295, false⟩]⟩,
  ⟨"flt", "fault", "flt", false, 0x4013003C, 1, 0x4, [⟨"f0211", ".f0211", ".fault.f0211", 0, 1, .rws, 0, 1, false⟩, ⟨"f0230", ".f0230", ".fault.f0230", 1, 1, .rws, 0, 1, false⟩]⟩]

/-- The registers of NOS (part 0). -/
def regRows_NOS_0 : List RegRow := [
  ⟨"nos", "ctrl", "nos", false, 0x50000000, 1, 0x4, [⟨"enable", ".enable", ".ctrl.enable", 0, 1, .rw, 0, 1, false⟩, ⟨"ten_en", ".ten_en", ".ctrl.ten_en", 4, 4, .rw, 0, 15, false⟩]⟩,
  ⟨"nos", "stat", "nos", false, 0x50000004, 1, 0x4, [⟨"running", ".running", ".stat.running", 0, 1, .ro, 0, 1, false⟩, ⟨"loaded", ".loaded", ".stat.loaded", 4, 4, .ro, 0, 15, false⟩, ⟨"running_t", ".running_t", ".stat.running_t", 8, 4, .ro, 0, 15, false⟩, ⟨"cam_up", ".cam_up", ".stat.cam_up", 12, 2, .ro, 0, 3, false⟩, ⟨"wr_err", ".wr_err", ".stat.wr_err", 14, 1, .w1c, 0, 1, false⟩]⟩,
  ⟨"nos", "fault", "nos", false, 0x50000008, 1, 0x4, [⟨"seen", ".seen", ".fault.seen", 0, 9, .rws, 0, 511, false⟩]⟩,
  ⟨"nos", "cam_cfg", "nos.cam", true, 0x50000040, 2, 0x40, [⟨"en", ".en", ".cfg.en", 0, 1, .rw, 0, 1, false⟩, ⟨"lanes", ".lanes", ".cfg.lanes", 1, 2, .rw, 0, 2, false⟩, ⟨"vc", ".vc", ".cfg.vc", 3, 2, .rw, 0, 3, false⟩, ⟨"dt", ".dt", ".cfg.dt", 5, 2, .rw, 0, 2, false⟩, ⟨"shift", ".shift", ".cfg.shift", 7, 3, .rw, 0, 7, false⟩, ⟨"fn_mode", ".fn_mode", ".cfg.fn_mode", 10, 1, .rw, 0, 1, false⟩, ⟨"fe_en", ".fe_en", ".cfg.fe_en", 11, 1, .rw, 0, 1, false⟩, ⟨"fe_job0", ".fe_job0", ".cfg.fe_job0", 12, 6, .rw, 0, 63, false⟩, ⟨"fe_job1", ".fe_job1", ".cfg.fe_job1", 18, 6, .rw, 0, 63, false⟩]⟩,
  ⟨"nos", "cam_geom", "nos.cam", true, 0x50000044, 2, 0x40, [⟨"width", ".width", ".geom.width", 0, 12, .rw, 64, 3840, false⟩, ⟨"lines", ".lines", ".geom.lines", 16, 12, .rw, 16, 4095, false⟩]⟩,
  ⟨"nos", "cam_ring", "nos.cam", true, 0x50000048, 2, 0x40, [⟨"ring_lines", ".ring_lines", ".ring.ring_lines", 0, 12, .rw, 0, 4095, false⟩]⟩,
  ⟨"nos", "cam_explat", "nos.cam", true, 0x5000004C, 2, 0x40, [⟨"exp_lat_us", ".exp_lat_us", ".explat.exp_lat_us", 0, 16, .rw, 0, 8000, false⟩]⟩,
  ⟨"nos", "cam_fidx_lo", "nos.cam", true, 0x50000050, 2, 0x40, [⟨"fidx", ".fidx_lo.fidx", ".fidx_lo.fidx", 0, 32, .ro, 0, 4294967295, false⟩]⟩,
  ⟨"nos", "cam_fidx_hi", "nos.cam", true, 0x50000054, 2, 0x40, [⟨"fidx", ".fidx_hi.fidx", ".fidx_hi.fidx", 0, 16, .ro, 0, 65535, false⟩]⟩,
  ⟨"nos", "cam_fs_ts_lo", "nos.cam", true, 0x50000058, 2, 0x40, [⟨"ts", ".fs_ts_lo.ts", ".fs_ts_lo.ts", 0, 32, .ro, 0, 4294967295, false⟩]⟩,
  ⟨"nos", "cam_fs_ts_hi", "nos.cam", true, 0x5000005C, 2, 0x40, [⟨"ts", ".fs_ts_hi.ts", ".fs_ts_hi.ts", 0, 32, .ro, 0, 4294967295, false⟩]⟩,
  ⟨"nos", "cam_stat", "nos.cam", true, 0x50000060, 2, 0x40, [⟨"stream", ".stream", ".stat.stream", 0, 1, .ro, 0, 1, false⟩, ⟨"fn_jump", ".fn_jump", ".stat.fn_jump", 1, 1, .w1c, 0, 1, false⟩, ⟨"wr_err", ".wr_err", ".stat.wr_err", 2, 1, .w1c, 0, 1, false⟩, ⟨"short", ".short", ".stat.short", 3, 1, .ro, 0, 1, false⟩, ⟨"frame_lines", ".frame_lines", ".stat.frame_lines", 16, 16, .ro, 0, 65535, false⟩]⟩,
  ⟨"nos", "cam_err", "nos.cam", true, 0x50000064, 2, 0x40, [⟨"ecc_corr", ".ecc_corr", ".err.ecc_corr", 0, 8, .ro, 0, 255, false⟩, ⟨"line_bad", ".line_bad", ".err.line_bad", 8, 8, .ro, 0, 255, false⟩, ⟨"dt_ign", ".dt_ign", ".err.dt_ign", 16, 8, .ro, 0, 255, false⟩, ⟨"frames_lost", ".frames_lost", ".err.frames_lost", 24, 8, .ro, 0, 255, false⟩]⟩,
  ⟨"nos", "ten_cfg", "nos.ten", true, 0x50000100, 4, 0x40, [⟨"clu_mask", ".clu_mask", ".cfg.clu_mask", 0, 4, .rw, 0, 15, false⟩]⟩,
  ⟨"nos", "ten_base", "nos.ten", true, 0x50000104, 4, 0x40, [⟨"ofs", ".ofs", ".base.ofs", 0, 32, .rw, 0, 4294967295, false⟩]⟩,
  ⟨"nos", "ten_size", "nos.ten", true, 0x50000108, 4, 0x40, [⟨"size", ".size", ".size.size", 0, 32, .rw, 0, 4294967295, false⟩]⟩,
  ⟨"nos", "ten_stat", "nos.ten", true, 0x5000010C, 4, 0x40, [⟨"loaded", ".loaded", ".stat.loaded", 0, 1, .ro, 0, 1, false⟩, ⟨"running", ".running", ".stat.running", 1, 1, .ro, 0, 1, false⟩, ⟨"jobs", ".jobs", ".stat.jobs", 2, 7, .ro, 0, 127, false⟩]⟩,
  ⟨"nos", "ten_ver", "nos.ten", true, 0x50000110, 4, 0x40, [⟨"ver", ".ver", ".ver.ver", 0, 32, .ro, 0, 4294967295, false⟩]⟩,
  ⟨"nos", "ten_lmax", "nos.ten", true, 0x50000114, 4, 0x40, [⟨"lmax", ".lmax", ".lmax.lmax", 0, 32, .ro, 0, 4294967295, false⟩]⟩,
  ⟨"nos", "ten_loaderr", "nos.ten", true, 0x50000118, 4, 0x40, [⟨"index", ".index", ".loaderr.index", 0, 12, .ro, 0, 4095, false⟩, ⟨"cause", ".cause", ".loaderr.cause", 16, 4, .ro, 0, 15, false⟩, ⟨"section", ".section", ".loaderr.section", 24, 4, .ro, 0, 15, false⟩]⟩,
  ⟨"nos", "ten_jobs", "nos.ten", true, 0x5000011C, 4, 0x40, [⟨"n", ".n", ".jobs.n", 0, 32, .ro, 0, 4294967295, false⟩]⟩,
  ⟨"nos", "ten_drop", "nos.ten", true, 0x50000120, 4, 0x40, [⟨"drop", ".drop", ".drop.drop", 0, 8, .ro, 0, 255, false⟩, ⟨"overrun", ".overrun", ".drop.overrun", 8, 8, .ro, 0, 255, false⟩, ⟨"stale", ".stale", ".drop.stale", 16, 8, .ro, 0, 255, false⟩, ⟨"dep_abandon", ".dep_abandon", ".drop.dep_abandon", 24, 8, .ro, 0, 255, false⟩]⟩,
  ⟨"nos", "grid_fidx_lo", "nos.grid", true, 0x50000400, 4, 0x20, [⟨"fidx", ".fidx_lo.fidx", ".fidx_lo.fidx", 0, 32, .ro, 0, 4294967295, false⟩]⟩,
  ⟨"nos", "grid_fidx_hi", "nos.grid", true, 0x50000404, 4, 0x20, [⟨"fidx", ".fidx_hi.fidx", ".fidx_hi.fidx", 0, 32, .ro, 0, 4294967295, false⟩]⟩,
  ⟨"nos", "grid_lines", "nos.grid", true, 0x50000408, 4, 0x20, [⟨"line_first", ".line_first", ".lines.line_first", 0, 16, .ro, 0, 65535, false⟩, ⟨"line_last", ".line_last", ".lines.line_last", 16, 16, .ro, 0, 65535, false⟩]⟩,
  ⟨"nos", "grid_rows", "nos.grid", true, 0x5000040C, 4, 0x20, [⟨"row0", ".row0", ".rows.row0", 0, 5, .ro, 0, 31, false⟩, ⟨"rows", ".rows", ".rows.rows", 8, 5, .ro, 0, 31, false⟩, ⟨"bad", ".bad", ".rows.bad", 16, 1, .ro, 0, 1, false⟩, ⟨"complete", ".complete", ".rows.complete", 17, 1, .ro, 0, 1, false⟩]⟩,
  ⟨"nos", "grid_texp_lo", "nos.grid", true, 0x50000410, 4, 0x20, [⟨"t", ".texp_lo.t", ".texp_lo.t", 0, 32, .ro, 0, 4294967295, false⟩]⟩,
  ⟨"nos", "grid_texp_hi", "nos.grid", true, 0x50000414, 4, 0x20, [⟨"t", ".texp_hi.t", ".texp_hi.t", 0, 32, .ro, 0, 4294967295, false⟩]⟩,
  ⟨"nos", "grid_tpub_lo", "nos.grid", true, 0x50000418, 4, 0x20, [⟨"t", ".tpub_lo.t", ".tpub_lo.t", 0, 32, .ro, 0, 4294967295, false⟩]⟩,
  ⟨"nos", "grid_tpub_hi", "nos.grid", true, 0x5000041C, 4, 0x20, [⟨"t", ".tpub_hi.t", ".tpub_hi.t", 0, 32, .ro, 0, 4294967295, false⟩]⟩,
  ⟨"nos", "gridmem", "nos.gridmem0_", true, 0x50002000, 144, 0x4, [⟨"word", ".word", ".word", 0, 32, .ro, 0, 4294967295, false⟩]⟩,
  ⟨"nos", "gridmem", "nos.gridmem1_", true, 0x50002400, 144, 0x4, [⟨"word", ".word", ".word", 0, 32, .ro, 0, 4294967295, false⟩]⟩,
  ⟨"nos", "gridmem", "nos.gridmem2_", true, 0x50002800, 144, 0x4, [⟨"word", ".word", ".word", 0, 32, .ro, 0, 4294967295, false⟩]⟩,
  ⟨"nos", "gridmem", "nos.gridmem3_", true, 0x50002C00, 144, 0x4, [⟨"word", ".word", ".word", 0, 32, .ro, 0, 4294967295, false⟩]⟩]

/-- The registers of VMC (part 0). -/
def regRows_VMC_0 : List RegRow := [
  ⟨"vmc", "stat", "vmc", false, 0x51000000, 1, 0x4, [⟨"ddr_ready", ".ddr_ready", ".stat.ddr_ready", 0, 1, .ro, 0, 1, false⟩, ⟨"flush_busy", ".flush_busy", ".stat.flush_busy", 1, 5, .ro, 0, 31, false⟩, ⟨"wr_err", ".wr_err", ".stat.wr_err", 6, 1, .w1c, 0, 1, false⟩]⟩,
  ⟨"vmc", "fault", "vmc", false, 0x51000004, 1, 0x4, [⟨"seen", ".seen", ".fault.seen", 0, 8, .rws, 0, 255, false⟩]⟩,
  ⟨"vmc", "ddr_cfg", "vmc", false, 0x51000010, 1, 0x4, [⟨"rate", ".rate", ".ddr_cfg.rate", 0, 2, .rw, 0, 3, false⟩, ⟨"density", ".density", ".ddr_cfg.density", 2, 2, .rw, 0, 3, false⟩]⟩,
  ⟨"vmc", "ddr_stat", "vmc", false, 0x51000014, 1, 0x4, [⟨"trained", ".trained", ".ddr_stat.trained", 0, 1, .ro, 0, 1, false⟩, ⟨"train_fail", ".train_fail", ".ddr_stat.train_fail", 1, 1, .ro, 0, 1, false⟩, ⟨"attempts", ".attempts", ".ddr_stat.attempts", 2, 2, .ro, 0, 3, false⟩]⟩,
  ⟨"vmc", "ecc", "vmc", false, 0x51000018, 1, 0x4, [⟨"corr", ".corr", ".ecc.corr", 0, 16, .ro, 0, 65535, false⟩, ⟨"f0b03", ".f0b03", ".ecc.f0b03", 16, 8, .ro, 0, 255, false⟩, ⟨"f0b04", ".f0b04", ".ecc.f0b04", 24, 8, .ro, 0, 255, false⟩]⟩,
  ⟨"vmc", "cmd", "vmc", false, 0x5100001C, 1, 0x4, [⟨"part", ".part", ".cmd.part", 0, 3, .wo, 0, 7, false⟩, ⟨"op", ".op", ".cmd.op", 4, 2, .wo, 0, 3, false⟩]⟩,
  ⟨"vmc", "part_cfg", "vmc.part", true, 0x51000100, 5, 0x10, [⟨"slices", ".slices", ".cfg.slices", 0, 16, .rw, 0, 65535, false⟩, ⟨"mode", ".mode", ".cfg.mode", 16, 1, .rw, 0, 1, false⟩]⟩,
  ⟨"vmc", "part_stat", "vmc.part", true, 0x51000104, 5, 0x10, [⟨"nslice", ".nslice", ".stat.nslice", 0, 5, .ro, 0, 31, false⟩, ⟨"flush_busy", ".flush_busy", ".stat.flush_busy", 8, 1, .ro, 0, 1, false⟩]⟩,
  ⟨"vmc", "shr_base", "vmc.shr", true, 0x51000200, 4, 0x10, [⟨"ofs", ".ofs", ".base.ofs", 0, 32, .rw, 0, 4294967295, false⟩]⟩,
  ⟨"vmc", "shr_size", "vmc.shr", true, 0x51000204, 4, 0x10, [⟨"size", ".size", ".size.size", 0, 32, .rw, 0, 4294967295, false⟩]⟩,
  ⟨"vmc", "shr_cfg", "vmc.shr", true, 0x51000208, 4, 0x10, [⟨"ten", ".ten", ".cfg.ten", 0, 2, .rw, 0, 3, false⟩, ⟨"en", ".en", ".cfg.en", 8, 1, .rw, 0, 1, false⟩]⟩,
  ⟨"vmc", "ring_base", "vmc.ring", true, 0x51000280, 2, 0x4, [⟨"ofs", ".ofs", ".base.ofs", 0, 32, .rw, 0, 4294967295, false⟩]⟩,
  ⟨"vmc", "pmc_sel", "vmc.pmc", true, 0x51000300, 8, 0x4, [⟨"event", ".event", ".event", 0, 4, .rw, 0, 15, false⟩, ⟨"scope", ".scope", ".scope", 4, 3, .rw, 0, 7, false⟩, ⟨"clr", ".clr", ".clr", 8, 1, .wo, 0, 1, false⟩]⟩,
  ⟨"vmc", "pmc_lo", "vmc.pmc", true, 0x51000340, 8, 0x8, [⟨"cnt", ".lo.cnt", ".lo.cnt", 0, 32, .ro, 0, 4294967295, false⟩]⟩,
  ⟨"vmc", "pmc_hi", "vmc.pmc", true, 0x51000344, 8, 0x8, [⟨"cnt", ".hi.cnt", ".hi.cnt", 0, 16, .ro, 0, 65535, false⟩]⟩]

/-- The registers of VM (part 0). -/
def regRows_VM_0 : List RegRow := [
  ⟨"vm", "door_addr", "vm", false, 0x60000000, 1, 0x4, [⟨"door_addr", ".door_addr", ".door_addr", 0, 8, .rw, 0, 30, false⟩]⟩,
  ⟨"vm", "id_base", "vm", false, 0x60000004, 1, 0x4, [⟨"id_base", ".id_base", ".id_base", 0, 16, .rw, 0, 1824, false⟩]⟩,
  ⟨"vm", "can_mask", "vm", false, 0x60000008, 1, 0x4, [⟨"can_mask", ".can_mask", ".can_mask", 0, 8, .rw, 0, 7, false⟩]⟩,
  ⟨"vm", "speed_id", "vm", false, 0x6000000C, 1, 0x4, [⟨"speed_id", ".speed_id", ".speed_id", 0, 16, .rw, 0, 2047, false⟩]⟩,
  ⟨"vm", "time_id", "vm", false, 0x60000010, 1, 0x4, [⟨"time_id", ".time_id", ".time_id", 0, 16, .rw, 0, 2047, false⟩]⟩,
  ⟨"vm", "speed_src", "vm", false, 0x60000014, 1, 0x4, [⟨"speed_src", ".speed_src", ".speed_src", 0, 8, .rw, 0, 3, false⟩]⟩,
  ⟨"vm", "vt_period", "vm", false, 0x60000018, 1, 0x4, [⟨"vt_period", ".vt_period", ".vt_period", 0, 16, .rw, 10, 1000, false⟩]⟩,
  ⟨"vm", "dual", "vm", false, 0x6000001C, 1, 0x4, [⟨"dual", ".dual", ".dual", 0, 1, .rw, 0, 1, false⟩]⟩,
  ⟨"vm", "udp_allow", "vm.udp_allow.", true, 0x60000020, 4, 0x4, [⟨"udp_allow", "", "", 0, 32, .rw, 0, 4294967295, false⟩]⟩,
  ⟨"vm", "udp_dest_ip", "vm", false, 0x60000030, 1, 0x4, [⟨"udp_dest_ip", ".udp_dest_ip", ".udp_dest_ip", 0, 32, .rw, 0, 4294967295, false⟩]⟩,
  ⟨"vm", "udp_dest_port", "vm", false, 0x60000034, 1, 0x4, [⟨"udp_dest_port", ".udp_dest_port", ".udp_dest_port", 0, 16, .rw, 0, 65535, false⟩]⟩,
  ⟨"vm", "occ_dest_ip", "vm", false, 0x60000038, 1, 0x4, [⟨"occ_dest_ip", ".occ_dest_ip", ".occ_dest_ip", 0, 32, .rw, 0, 4294967295, false⟩]⟩,
  ⟨"vm", "occ_dest_port", "vm", false, 0x6000003C, 1, 0x4, [⟨"occ_dest_port", ".occ_dest_port", ".occ_dest_port", 0, 16, .rw, 0, 65535, false⟩]⟩,
  ⟨"vm", "door_ip", "vm", false, 0x60000040, 1, 0x4, [⟨"door_ip", ".door_ip", ".door_ip", 0, 32, .rw, 0, 4294967295, false⟩]⟩,
  ⟨"vm", "occ_mode", "vm", false, 0x60000044, 1, 0x4, [⟨"occ_mode", ".occ_mode", ".occ_mode", 0, 2, .rw, 0, 2, false⟩]⟩,
  ⟨"vm", "exp_rto", "vm", false, 0x60000048, 1, 0x4, [⟨"exp_rto", ".exp_rto", ".exp_rto", 0, 16, .rw, 100, 10000, false⟩]⟩,
  ⟨"vm", "exp_rate", "vm", false, 0x6000004C, 1, 0x4, [⟨"exp_rate", ".exp_rate", ".exp_rate", 0, 16, .rw, 10, 1000, false⟩]⟩]

/-- The registers of ADM (part 0). -/
def regRows_ADM_0 : List RegRow := [
  ⟨"adm", "cmd_rate", "adm", false, 0x60001000, 1, 0x4, [⟨"cmd_rate", ".cmd_rate", ".cmd_rate", 0, 16, .rw, 100, 20000, false⟩]⟩,
  ⟨"adm", "con_rate", "adm", false, 0x60001004, 1, 0x4, [⟨"con_rate", ".con_rate", ".con_rate", 0, 16, .rw, 10, 1000, false⟩]⟩]

/-- The registers of GPIO (part 0). -/
def regRows_GPIO_0 : List RegRow := [
  ⟨"gpio", "owner", "gpio", false, 0x60002000, 1, 0x4, [⟨"value", ".owner.value", ".owner.value", 0, 8, .rw, 0, 255, false⟩]⟩,
  ⟨"gpio", "od", "gpio", false, 0x60002004, 1, 0x4, [⟨"value", ".od.value", ".od.value", 0, 8, .rw, 0, 255, false⟩]⟩]

/-- Every register (Tables 22-5 to 22-8). -/
def regTable : List RegRow :=
  regRows_SUP_0 ++ regRows_SYS_0 ++ regRows_FUSE_0 ++ regRows_FBK_0 ++ regRows_DOM_0 ++ regRows_MOT_0 ++ regRows_CUR_0 ++ regRows_DOOR_0 ++ regRows_VOTE_0 ++ regRows_CAN_0 ++ regRows_ETH_0 ++ regRows_TSYN_0 ++ regRows_PAIR_0 ++ regRows_WQM_0 ++ regRows_LEDG_0 ++ regRows_CON_0 ++ regRows_UPD_0 ++ regRows_FLT_0 ++ regRows_NOS_0 ++ regRows_VMC_0 ++ regRows_VM_0 ++ regRows_ADM_0 ++ regRows_GPIO_0

/-- The registers whose reset value is not 0: first address, how many, distance, value (R500). -/
def resetRows : List (Nat × Nat × Nat × Nat) := [
  (0x40020000, 1, 0x4, 0x2BC),
  (0x40020014, 1, 0x4, 0x96050000),
  (0x40000000, 1, 0x4, 0x1),
  (0x40000004, 1, 0x4, 0x1F),
  (0x40000040, 1, 0x4, 0x1),
  (0x40000044, 1, 0x4, 0x14),
  (0x40000048, 1, 0x4, 0xC8),
  (0x4000004C, 2, 0x4, 0x64),
  (0x40000054, 3, 0x4, 0x32),
  (0x40000060, 1, 0x4, 0x64),
  (0x40000064, 1, 0x4, 0x1F4),
  (0x40050000, 6, 0x100, 0x3000),
  (0x40050004, 6, 0x100, 0xA00FA),
  (0x4005000C, 4, 0x100, 0x1F400C8),
  (0x4005040C, 2, 0x100, 0x1F40014),
  (0x40050010, 6, 0x100, 0x75309C40),
  (0x4005003C, 6, 0x100, 0x1),
  (0x4005006C, 6, 0x100, 0x28),
  (0x40050070, 4, 0x100, 0x640),
  (0x40050600, 1, 0x4, 0xA008B),
  (0x40050604, 1, 0x4, 0x7D000C8),
  (0x40050608, 1, 0x4, 0xC8),
  (0x4005060C, 1, 0x4, 0xC),
  (0x40060004, 1, 0x4, 0x80),
  (0x40060400, 32, 0x20, 0x700),
  (0x40060800, 32, 0x20, 0x300),
  (0x40070000, 4, 0x100, 0x1000000),
  (0x40070008, 4, 0x100, 0x1F480FF),
  (0x4007000C, 4, 0x100, 0x7D0),
  (0x40070014, 4, 0x100, 0x220),
  (0x4007001C, 4, 0x100, 0x40),
  (0x40080000, 4, 0x100, 0x7D0410),
  (0x40080004, 4, 0x100, 0x10290050),
  (0x4008000C, 4, 0x100, 0x3C0),
  (0x4008001C, 4, 0x100, 0x140000),
  (0x40090000, 1, 0x4, 0xA0301),
  (0x40090008, 1, 0x4, 0x1F40000),
  (0x4009000C, 1, 0x4, 0x3E8001E),
  (0x40090010, 1, 0x4, 0x13880),
  (0x4009001C, 1, 0x4, 0x12C00C8),
  (0x40090020, 1, 0x4, 0x32012C),
  (0x40090024, 1, 0x4, 0x2580258),
  (0x40090034, 1, 0x4, 0x4E20),
  (0x40090044, 1, 0x4, 0xA),
  (0x40040000, 1, 0x4, 0x21),
  (0x40040020, 1, 0x4, 0x640096),
  (0x40040024, 1, 0x4, 0x5000C8),
  (0x40040028, 1, 0x4, 0xC80A3C),
  (0x4004002C, 1, 0x4, 0xC80116),
  (0x40040030, 1, 0x4, 0x3203A0),
  (0x40040034, 1, 0x4, 0x1F401F4),
  (0x400A0000, 3, 0x10000, 0x2),
  (0x400A0004, 3, 0x10000, 0x2),
  (0x400A0010, 3, 0x10000, 0xF0F3E),
  (0x400A0014, 3, 0x10000, 0x10106),
  (0x400A0018, 3, 0x10000, 0x8),
  (0x400A0020, 3, 0x10000, 0x30),
  (0x400D0010, 2, 0x10, 0x3),
  (0x400D0060, 1, 0x4, 0x12C),
  (0x400E0000, 1, 0x4, 0x9),
  (0x400E0004, 1, 0x4, 0x500000),
  (0x400E0008, 1, 0x4, 0x1F42008),
  (0x400E000C, 1, 0x4, 0x3E803E8),
  (0x400E0014, 1, 0x4, 0xF000),
  (0x40030000, 1, 0x4, 0x281403),
  (0x40030004, 1, 0x4, 0x6000),
  (0x400F0400, 1, 0x10, 0xE1),
  (0x400F0410, 1, 0x10, 0xE2),
  (0x400F0420, 1, 0x10, 0xE3),
  (0x400F0430, 1, 0x10, 0xE4),
  (0x400F0440, 1, 0x10, 0xE5),
  (0x400F0450, 1, 0x10, 0xE6),
  (0x400F0460, 1, 0x10, 0xE7),
  (0x400F0470, 1, 0x10, 0xE8),
  (0x400F0480, 1, 0x10, 0xE9),
  (0x400F0490, 1, 0x10, 0xEA),
  (0x400F04A0, 1, 0x10, 0xEB),
  (0x400F04B0, 1, 0x10, 0xEC),
  (0x400F04C0, 1, 0x10, 0xED),
  (0x400F04D0, 1, 0x10, 0xEE),
  (0x400F04E0, 1, 0x10, 0xF0),
  (0x400F04F0, 1, 0x10, 0xF1),
  (0x400F0500, 16, 0x10, 0x2F),
  (0x40100028, 1, 0x4, 0x3),
  (0x40110000, 2, 0x4, 0x4),
  (0x40110008, 1, 0x4, 0x258),
  (0x40110020, 1, 0x4, 0x3),
  (0x40120000, 1, 0x4, 0x50),
  (0x50000048, 2, 0x40, 0x100),
  (0x50000100, 1, 0x40, 0x1),
  (0x50000140, 1, 0x40, 0x6),
  (0x50000180, 2, 0x40, 0x8),
  (0x51000100, 1, 0x10, 0x30),
  (0x51000110, 1, 0x10, 0xFC0),
  (0x51000120, 1, 0x10, 0x3000),
  (0x51000130, 1, 0x10, 0xC000),
  (0x51000140, 1, 0x10, 0x1000F),
  (0x51000104, 1, 0x10, 0x2),
  (0x51000114, 1, 0x10, 0x6),
  (0x51000124, 2, 0x10, 0x2),
  (0x51000144, 1, 0x10, 0x4),
  (0x60000004, 1, 0x4, 0x400),
  (0x60000008, 1, 0x4, 0x1),
  (0x6000000C, 1, 0x4, 0x100),
  (0x60000010, 1, 0x4, 0x80),
  (0x60000018, 1, 0x4, 0x64),
  (0x6000001C, 1, 0x4, 0x1),
  (0x60000044, 1, 0x4, 0x1),
  (0x60000048, 1, 0x4, 0x1F4),
  (0x6000004C, 1, 0x4, 0xC8),
  (0x60001000, 1, 0x4, 0x7D0),
  (0x60001004, 1, 0x4, 0xC8)]

/-- The words that hold status and SEEN bits, by interrupt line (R497, Table 22-3): line, first address, how many, distance. -/
def irqRows : List (Nat × Nat × Nat × Nat) := [
  (7, 0x40020004, 1, 0x4),
  (25, 0x40000008, 1, 0x4),
  (25, 0x4000000C, 1, 0x4),
  (25, 0x40000024, 1, 0x4),
  (4, 0x4005003C, 6, 0x100),
  (4, 0x40050040, 6, 0x100),
  (4, 0x4005060C, 1, 0x4),
  (5, 0x40060004, 1, 0x4),
  (5, 0x4006007C, 1, 0x4),
  (5, 0x4006041C, 64, 0x20),
  (5, 0x40060F14, 1, 0x4),
  (2, 0x4007001C, 4, 0x100),
  (2, 0x4007003C, 4, 0x100),
  (3, 0x40080020, 4, 0x100),
  (3, 0x40080044, 4, 0x100),
  (1, 0x40090044, 1, 0x4),
  (1, 0x4009004C, 1, 0x4),
  (1, 0x40090050, 1, 0x4),
  (1, 0x40090054, 1, 0x4),
  (6, 0x40040004, 1, 0x4),
  (6, 0x40040010, 1, 0x4),
  (6, 0x40040040, 1, 0x4),
  (16, 0x400D0014, 2, 0x10),
  (16, 0x400D007C, 1, 0x4),
  (17, 0x400E0014, 1, 0x4),
  (17, 0x400E004C, 1, 0x4),
  (15, 0x40030004, 1, 0x4),
  (15, 0x4003001C, 1, 0x4),
  (15, 0x4003003C, 1, 0x4),
  (18, 0x400F0000, 1, 0x4),
  (18, 0x400F001C, 1, 0x4),
  (18, 0x400F0404, 128, 0x10),
  (19, 0x40100000, 1, 0x4),
  (19, 0x4010003C, 1, 0x4),
  (21, 0x40110020, 1, 0x4),
  (21, 0x4011003C, 1, 0x4),
  (24, 0x40120004, 1, 0x4),
  (24, 0x4012003C, 1, 0x4),
  (24, 0x40120100, 18, 0x8),
  (8, 0x40130000, 1, 0x4),
  (8, 0x4013003C, 1, 0x4),
  (22, 0x50000004, 1, 0x4),
  (22, 0x50000008, 1, 0x4),
  (22, 0x50000060, 2, 0x40),
  (22, 0x5000010C, 4, 0x40),
  (23, 0x51000000, 1, 0x4),
  (23, 0x51000004, 1, 0x4),
  (23, 0x51000014, 1, 0x4),
  (23, 0x51000104, 5, 0x10)]

/-- Whether `a` is one of `n` addresses from `base` on, `stride` apart. -/
def inRow (a base n stride : Nat) : Bool :=
  base ≤ a && (a - base) % stride == 0 && (a - base) / stride < n

/-- The layout of the register at an address; none at an unassigned offset (R10). -/
def regRowAt (a : Nat) : Option RegRow := regTable.find? (fun r => inRow a r.addr r.n r.stride)

/-- The value of the register at an address after an L0 reset (R9, R500); 0 where the table has no register (R10). -/
def resetWord (a : Nat) : Word :=
  match resetRows.find? (fun r => inRow a r.1 r.2.1 r.2.2.1) with
  | some r => BitVec.ofNat 32 r.2.2.2
  | none => 0

end Sys2Proof.Machine
end

