-- ==== Sys2Proof/Machine/State.lean ====
section
/-! DEFINITION. The state of the chip: every register in one register file, every memory, and the working state of each block
that the chapters of spec/ describe beside the registers; the reasons a step can stop; and the state right after reset. -/

namespace Sys2Proof.Machine

/-- No step of this block stops: the spec gives every command of its table an effect in every state (log 2). -/
inductive Fault where
  /-- Never raised; kept so that the type of outcomes has a name for a stop. Safe: no meaning answers it. -/
  | none
deriving DecidableEq, Repr

/-- Why a command has no meaning. -/
inductive Refusal where
  /-- A row of the table that this model gives no meaning yet; raised by Dispatch only. Safe: the model stops. -/
  | notModelled (mnemonic : String)
deriving DecidableEq, Repr

/-! ### Supervisor, reset and start-up (spec/03_power_reset_boot.md) -/

/-- The kinds of MRAM store of Table 03-3 (R52), with the state cell of R385 counted as a 64-byte cell store. -/
inductive StoreKind where
  | accept | completion | ledger | pointer | mark | config | stateCell
deriving DecidableEq, Repr

/-- One MRAM store: its kind, when it was asked for, the bytes it writes, and what it belongs to (a journal slot, an image slot). -/
structure Store where
  kind : StoreKind
  since : Nat
  writes : List (Nat × List Byte)
  arg : Nat
deriving DecidableEq, Repr

/-- SUP: the supply supervisor of the always-on domain. -/
structure Sup where
  /-- 64 bit or none; R56; reset none: TB_LOCAL since which VSENSE has stayed below THRESH. -/
  belowSince : Option Nat := none
  /-- 64 bit or none; R56; reset none: TB_LOCAL since which VSENSE has stayed above THRESH + 20 mV. -/
  aboveSince : Option Nat := none
  /-- 64 bit; R58, R59; reset 0: TB_LOCAL at which the warning asserted. -/
  warnSince : Nat := 0
  /-- 11 bit; R55; reset 0: VSENSE in mV at the assertion of the warning (V_1). -/
  dipStart : Nat := 0
  /-- 11 bit; R55, R58; reset 0: least VSENSE of the dip, mV (V_2). -/
  dipMin : Nat := 0
  /-- 64 bit; R55; reset 0: TB_LOCAL of that least VSENSE. -/
  dipMinAt : Nat := 0
  /-- 24 bit; Table 16-10 DIP 32-35; reset 0: least E_AVAIL_UJ of the dip. -/
  dipMinE : Nat := 0
  /-- 1 bit; R55; reset 0: a measured capacitance has been below 80 % of C_HOLD since the last L0 reset: the lowest C_MEAS counts. -/
  capLow : Bool := false
  /-- list; R52, R53; reset empty: MRAM stores that wait under the energy gate, oldest first. -/
  waiting : List Store := []
deriving DecidableEq, Repr

/-- One per-function reset in progress, or deferred (R65, R25). -/
structure FnReset where
  func : Nat
  since : Nat
  /-- The journal slot of the queued command that asked for it; none for a register write, a fault or an activation. -/
  slot : Option Nat
  /-- The reset was asked for by S3 fault handling (R483). -/
  byFault : Bool
  /-- The function is idle, and the release waits for the loader's boot-pointer store under the energy gate (R467). -/
  acked : Bool
deriving DecidableEq, Repr

/-- SYS: chip-level reset, boot and per-function reset. -/
structure Sys where
  /-- 2 bit or none; R49, R62; reset none: the level of a chip-level reset that holds the chip. -/
  held : Option Nat := none
  /-- 2 bit; R62; reset 0: the level RESET_N invokes, read from the fuses at the latest release. -/
  resetNLevel : Nat := 0
  /-- 1 bit; R69, R70; reset 0: the reference is not taken up until the next L0 or L1 reset. -/
  refClosed : Bool := false
  /-- 1 bit; R72, R74; reset 0: SAFE and APP came from QSPI NOR slots. -/
  fromNor : Bool := false
  /-- 1 bit; R73, R74; reset 0: the island's self-test has passed. -/
  selfTest : Bool := false
  /-- 1 bit; R73; reset 0: the start-up sequence has run to its end. -/
  started : Bool := false
  /-- 1 bit; R389, R470, R471; reset 0: the boot ROM waits for a download: nothing of the application side runs. -/
  bootWait : Bool := false
  /-- 1 bit; R68; reset 0: the straps have been sampled since the last release. -/
  strapped : Bool := false
  /-- 1 bit; R434; reset 0: ADM_OK, the running configuration has passed admission. -/
  admOk : Bool := false
  /-- list; R65; reset empty: per-function resets in progress. -/
  frst : List FnReset := []
  /-- record or none; R25; reset none: a MOTU reset or activation that is deferred, and whether it is an activation. -/
  motuDeferred : Option (FnReset × Bool) := none
deriving DecidableEq, Repr

/-- The one-time fuses (R62, R344, R408, R452, R454, R499), which no reset changes. -/
structure Fuses where
  /-- 2 bit or none; R62; reset none (unprogrammed, DESIGN CHOICE): the RSTMAP level of RESET_N. -/
  rstmap : Option Nat := none
  /-- 64 bit; R499; reset 0 (DESIGN CHOICE): the device serial number. -/
  serial : Nat := 0
  /-- 1 bit; R41; reset 0 (DESIGN CHOICE): the debug fuse. -/
  dbgEn : Bool := false
  /-- 48 bit; 13.10; reset 0 (DESIGN CHOICE): the host's MAC address. -/
  mac : Nat := 0
  /-- 8 bit; R452; reset 0 (DESIGN CHOICE): key slots programmed. -/
  keyProg : Nat := 0
  /-- 8 bit; R452; reset 0 (DESIGN CHOICE): key slots revoked. -/
  keyRevoked : Nat := 0
  /-- 8 x 256 bit; R452; reset empty (DESIGN CHOICE): the SHA-256 digest of the public key of each key slot. -/
  keys : List Nat := []
  /-- 32 bit; R454; reset 0 (DESIGN CHOICE): the SAFE security version thermometer. -/
  svnSafe : Nat := 0
  /-- 32 bit; R454; reset 0 (DESIGN CHOICE): the APP security version thermometer. -/
  svnApp : Nat := 0
  /-- 32 bytes; R408; reset empty (DESIGN CHOICE): the service authentication key. -/
  authKey : List Byte := []
  /-- 1 bit; R2; reset 0 (DESIGN CHOICE: the CV-4410): Nosora and CSI-2 fused off, the CV-4410N. -/
  partN : Bool := false
deriving DecidableEq, Repr

/-! ### What leaves the chip -/

/-- What a command made leave the chip on a pin, a bus or a console session. -/
inductive Emission where
  /-- A frame handed to CAN controller `ctl` by the message layer. -/
  | can (ctl : Nat) (id : Nat) (ext fd : Bool) (data : List Byte)
  /-- A frame completed on the bus of controller `ctl` from transmit buffer `buf`. -/
  | canSent (ctl buf : Nat) (words : List Nat) (data : List Byte)
  /-- An Ethernet frame out of a port: 0 and 1 external, 2 the host. -/
  | eth (port : Nat) (frame : List Byte)
  /-- An ARP announcement or reply of the host: port (2 both), destination MAC, the address told. -/
  | arp (port mac ip : Nat)
  /-- An ICMP echo reply: from, to, the data. -/
  | icmp (src dst : Nat) (data : List Byte)
  /-- A UDP datagram from the host: destination, destination port, source port, data. -/
  | udp (ip dport sport : Nat) (data : List Byte)
  /-- A datagram that the host delivers to the message layer: from, port, code, door address, count, payload (R316). -/
  | deliver (ip port code addr count : Nat) (payload : List Byte)
  /-- A TCP segment or reset of session port 4410: session or none, and whether it closes. -/
  | tcp (peer : Nat) (open_ : Bool)
  /-- One output line of a console session, without its end of line. -/
  | line (sess : Nat) (text : String)
  /-- A pair-link frame: type and payload. -/
  | pair (type : Nat) (payload : List Byte)
  /-- A pulse of a feedback channel's output pair: width in ns (R99). -/
  | pwc (ch width : Nat)
  /-- A MIRROR frame. -/
  | mirror (f : MirFrame)
  /-- The prompt of a typed session with the line typed so far (R393, R396). -/
  | prompt (sess : Nat) (typed : List Byte)
  /-- Characters echoed to a typed session (R393). -/
  | echo (sess : Nat) (chars : List Byte)
  /-- A Pdelay or Sync message of TSYN: port, kind, bytes. -/
  | gptp (port kind : Nat) (data : List Byte)
  /-- A coherence message of a home slice (Table 11-4): 0 Inv, 1 Recall, to an agent, for a line offset. -/
  | coherence (msg agent off : Nat)
  /-- A pulse on a GPIO: base level and width in us. -/
  | pulse (gpio width : Nat)
deriving DecidableEq, Repr

/-- The pins that are not registers: inputs as last seen and outputs as driven (spec/02_pins_and_package.md). -/
structure Pins where
  /-- 8 bit; R41, R114; reset 0xFF (pulled high, Table 02-8): level of GPIO0 to GPIO7. -/
  gpio : Nat := 0xFF
  /-- list; R114; reset empty: pulses running: GPIO, base level, end tick. -/
  pulses : List (Nat × Bool × Nat) := []
  /-- 1 bit; R33, R44; reset 1: STEER_FB level. -/
  steerFb : Bool := true
  /-- 1 bit; R44, R338; reset 0: LEASE_OUT carries the 1 MHz square wave. -/
  leaseOut : Bool := false
  /-- 1 bit; R34; reset 0: TRACT_REL carries the 10 kHz square wave. -/
  tractRel : Bool := false
  /-- 1 bit; R33; reset 1: LOCK_DRV level (low: solenoid energised). -/
  lockDrv : Bool := true
  /-- 1 bit; R33; reset 1: BRG_EN_N level. -/
  brgEnN : Bool := true
  /-- 4 bit; R33, R184; reset 0: TPO0 to TPO3 drivers enabled. -/
  tpoOn : Nat := 0
  /-- 1 bit; R33, R484; reset 1: FAULT_N level. -/
  faultN : Bool := true
  /-- 1 bit; R311; reset 1: TSYN_PPS level. -/
  pps : Bool := true
  /-- 3 bit; R275, Table 02-8; reset 7: CANn_STB levels. -/
  canStb : Nat := 7
  /-- 4 x 1 bit; R145; reset 0: gate outputs of axes 0 to 3 driven. -/
  gates : Nat := 0
  /-- 6 x 2 bit; R99, R39; reset 0: level state of the O pairs: 0 idle, 1 copy, 2 PWC, 3 SSI clock. -/
  oPair : List Nat := [0, 0, 0, 0, 0, 0]
deriving DecidableEq, Repr

/-! ### Commands in the work queues -/

/-- The commands a work-queue entry can hold (R362, R423 to R433, R113). -/
inductive QOp where
  | doorOpen | doorClose | doorRelease | doorUnrelease | doorReset | doorIsolate | doorUnisolate
  | post | axisStart | axisReref | curCal | curClrofs
  | fbkArm | fbkDisarm | fbkCount | domArm | domDisarm | domD4
  | configApply | configSave | tenantStart | tenantStop | canMode | canInit
  | handover | ledgerAck | updBegin | updVerify | updActivate | updConfirm | updAbort
  | fnReset | causeClear | setRelHold | faultAck
deriving DecidableEq, Repr

/-- A command in the model's internal form: what to do and up to three numbers. -/
structure QCmd where
  op : QOp
  a : Nat
  b : Nat
  v : Nat
deriving DecidableEq, Repr

/-! ### Fault manager (spec/21_faults_and_long_run.md) -/

/-- One raise on its way to the fault manager: code, arrival, severity at the raise, the function reset it maps to, block detail. -/
structure Raise where
  code : Nat
  at_ : Nat
  sev : Nat
  /-- Raised one level higher while the mapped per-function reset was in progress (R480). -/
  esc : Bool
  /-- The per-function reset of Table 21-4 that an S3 action would use. -/
  func : Option Nat
  /-- The block detail word of the FAULT record. -/
  detail : Nat
deriving DecidableEq, Repr

/-- One fault being handled, suspended or queued (R476 to R478). -/
structure Handling where
  code : Nat
  sev : Nat
  esc : Bool
  func : Option Nat
  /-- TB_LOCAL of its first and of its latest raise. -/
  since : Nat
  last : Nat
  count : Nat
  detail : Nat
deriving DecidableEq, Repr

/-- One fault in force (R475, R479, FLT_LIST). -/
structure InForce where
  code : Nat
  sev : Nat
  esc : Bool
  count : Nat
  first : Nat
  last : Nat
  /-- Coalesced raises since the last FAULT record of the code. -/
  since : Nat
  /-- TB_LOCAL from which the next coalesced record of the code may be written. -/
  lastRec : Nat
  func : Option Nat
  detail : Nat
  /-- The S4 action of R482 replaced its reset: cleared with F0211. -/
  limited : Bool
  /-- An S3 fault raised again since its handling began (R486). -/
  again : Bool
deriving DecidableEq, Repr

/-- FLT: the fault manager. -/
structure Flt where
  /-- list; R476; reset empty: raises that have arrived and are not yet taken, oldest first. -/
  inbox : List Raise := []
  /-- record or none; R476; reset none: the fault under handling. -/
  cur : Option Handling := none
  /-- list; R477; reset empty: suspended handlings, the latest suspended first. -/
  susp : List Handling := []
  /-- 16 entries; R478; reset empty: the fault FIFO, head first. -/
  fifo : List Handling := []
  /-- list; R475, R479, R486; reset empty: faults in force, in order of first raise. -/
  inForce : List InForce := []
  /-- list; R482; reset empty: (function, TB_LOCAL) of the resets that S3 handling started in the last 60 s. -/
  resets : List (Nat × Nat) := []
  /-- record list; R483; reset empty: S3 faults of MOT whose reset waits for standstill: code, raise time. -/
  motWait : List (Nat × Nat) := []
  /-- list; R479; reset empty: (code, coalesced count since its last such record, TB_LOCAL from which the next may be written) of codes not in
  force. -/
  coal : List (Nat × Nat × Nat) := []
  /-- list; R486; reset empty: condition faults, raised and not yet in force or of S3 and above, whose condition has ended. -/
  ended : List Nat := []
deriving DecidableEq, Repr

/-! ### Work queues and ledger (spec/16_ledger_and_acceptance.md) -/

/-- Where the replies to a command go. -/
inductive ReplyTo where
  | nobody
  /-- A vehicle command's paths, in order of arrival (R320, R323). -/
  | vehicle (paths : List Path)
  | session (s : Nat) (tag : Option Nat)
deriving DecidableEq, Repr

/-- One entry of the acceptance journal and of its work queue (R362, R366). -/
structure Entry where
  /-- Journal slot, 12 bit. -/
  slot : Nat
  queue : Nat
  source : Nat
  motion : Bool
  unmirrored : Bool
  /-- HELD at acceptance (R372). -/
  heldAcc : Bool
  dual : Bool
  qseq : Nat
  key : Nat
  tAcc : Nat
  boot : Nat
  cmd : QCmd
  /-- 0 pending, 1 completed, 2 void. -/
  cstate : Nat
  ecode : Nat
  tDone : Nat
  /-- CRC-32 of the command as received (Table 16-4). -/
  pcrc : Nat
  /-- Acceptance has ended and the executor sees it (R362). -/
  visible : Bool
  /-- Stored in MRAM (step 4 of R368). -/
  stored : Bool
  /-- The standby has confirmed its copy, or none is asked for. -/
  mirrored : Bool
  /-- The completion is known to the standby, or none is asked for: the slot may be reused (R365). -/
  doneMirrored : Bool
  /-- The executor has taken it and works on it (a planned handover, a force fit, a per-function reset). -/
  taken : Bool
  /-- TB_LOCAL at which the command reached its stack (R370). -/
  tArr : Nat
  reply : ReplyTo
  /-- Copies of a console line that arrived while it was being accepted (R402). -/
  copies : Nat := 0
deriving DecidableEq, Repr

/-- One entry of a duplicate window (R367, Table 16-4). -/
structure WinEntry where
  /-- Window set, 0 to 15. -/
  set : Nat
  /-- Place in the set's ring, 0 to 1,023. -/
  place : Nat
  key : Nat
  pcrc : Nat
  phase : Nat
  queue : Nat
  ecode : Nat
  qseq : Nat
  reply : List Byte
deriving DecidableEq, Repr

/-- WQM: the work queues. -/
structure Wqm where
  /-- list; R362, R365; reset empty: entries in use, in order of acceptance. -/
  entries : List Entry := []
  /-- list; R367; reset empty: the SRAM index of the duplicate windows, newest first. -/
  windows : List WinEntry := []
  /-- 16 x 10 bit; R367; reset empty: next place of each window set's ring. -/
  winNext : List (Nat × Nat) := []
  /-- 64 bit or none; R375; reset none: TB_LOCAL at which a resynchronisation began. -/
  resyncSince : Option Nat := none
  /-- count; R375; reset 0: resynchronisations the link has interrupted. -/
  resyncBreaks : Nat := 0
deriving DecidableEq, Repr

/-- One slot of the ledger ring in the SRAM index (R382). -/
structure RingSlot where
  slot : Nat
  seq : Nat
  type : Nat
  tb : Nat
deriving DecidableEq, Repr

/-- LEDG: the ledger writer. -/
structure Ledg where
  /-- 256 records; R384; reset empty: the ledger writer's queue. -/
  queue : List LRec := []
  /-- list; R382; reset empty: the SRAM index of the ring by SEQ, oldest first. -/
  ring : List RingSlot := []
  /-- 48 bit; R379; reset 0: the next SEQ. -/
  nextSeq : Nat := 0
  /-- 48 bit; R382, R385; reset none: EXP_SEQ, the highest acknowledged sequence. -/
  expSeq : Option Nat := none
  /-- record or none; R383; reset none: the open GAP: slot, SEQ, LAST, thinned details, thinned commands, TB_LOCAL. -/
  gap : Option (Nat × Nat × Nat × Nat × Nat × Nat) := none
  /-- 32 bit; R382; reset 0 (the state cell's value after start-up): LEDG_LOST. -/
  lost : Nat := 0
  /-- record; R385; reset (0, none): write count and TB_LOCAL of the last state cell written. -/
  cellCount : Nat := 0
  cellAt : Option Nat := none
  /-- 1 bit; R385; reset 0: a value of the state cells has changed since the last write. -/
  cellDirty : Bool := false
  /-- 64 records; R379; reset empty: records of a standby that wait for the link. -/
  holdback : List LRec := []
  /-- 48 bit or none; R381, LEDG_STAT; reset none: SEQ at which a detail record was last thinned, a summary last lost. -/
  thinnedAt : Option Nat := none
  lostAt : Option Nat := none
deriving DecidableEq, Repr

/-! ### Feedback (spec/04_feedback.md) -/

/-- One feedback channel beside its registers. -/
structure FbkCh where
  /-- 2 bit; R78; reset 0: accepted state, A in bit 0 and B in bit 1. -/
  acc : Nat := 0
  /-- 2 bit; R78; reset 0: raw differential state, A in bit 0 and B in bit 1. -/
  raw : Nat := 0
  /-- 64 bit or none; R78; reset none: tick of the last accepted edge. -/
  lastEdge : Option Nat := none
  /-- 64 bit or none; R80; reset none: tick of the last accepted Z rising edge. -/
  lastZ : Option Nat := none
  /-- 64 bit or none; R100; reset none: leading edge of the last accepted PWC pulse. -/
  lastPulse : Option Nat := none
  /-- count; R78; reset 0: rejected transitions in this control cycle. -/
  rejCycle : Nat := 0
  /-- 5 x 64 bit; R87; reset empty: LATCH_TS of the run of timed edges, newest first. -/
  run : List Nat := []
  /-- 48 bit; R87; reset 0: magnitude of the latest period measurement, 1/65,536 um/s. -/
  vPer : Nat := 0
  /-- 48 bit signed; R86; reset 0: observer position, 1/65,536 um. -/
  pHat : Int := 0
  /-- 48 bit signed; R86; reset 0: observer speed, 1/65,536 um/s. -/
  vHat : Int := 0
  /-- 48 bit; R93; reset 0: in SSI mode the change of value at the last edge, nm; it stands for the pitch in R89. -/
  ssiPitch : Nat := 0
  /-- 2 bit; R102; reset 0: consecutive rejected SSI frames. -/
  ssiRej : Nat := 0
  /-- 4 bit; R102; reset 0: consecutive accepted SSI frames. -/
  ssiAcc : Nat := 0
  /-- 1 bit; R102; reset 0: three consecutive frames were rejected and ten have not yet been accepted. -/
  ssiBad : Bool := false
  /-- 1 bit; R102; reset 0: a frame has been accepted since the channel was enabled. -/
  ssiSeen : Bool := false
  /-- 32 bit; R102; reset 0: the value of the last accepted SSI frame. -/
  ssiLast : Nat := 0
  /-- 1 bit; R100; reset 0: a qualified index waits for the accepted edge whose pulse carries it. -/
  ptIndex : Bool := false
  /-- 64 bit or none; R94; reset none: TB_LOCAL since which the wheel channel has run without a fault. -/
  okSince : Option Nat := none
  /-- 3 x 1 bit; R83; reset 0: raw Hall levels U, V, W (1 magnet present). -/
  hallRaw : Nat := 0
deriving DecidableEq, Repr

/-- The wheel-speed function (R94 to R98). -/
structure Wheel where
  /-- 64 bit or none; R95; reset none: TB_LOCAL since which the speeds differ beyond the slide limit. -/
  slideSince : Option Nat := none
  /-- 64 bit; R95; reset 0: TB_LOCAL at which DISAGREE was set. -/
  disagreeAt : Nat := 0
  /-- 64 bit; R96; reset 0: TB_LOCAL since which DISAGREE has been clear. -/
  clearSince : Nat := 0
  /-- 3 x 33 bit; R98; reset 0: weights of FBK4, FBK5 and CAN in the old term of the blend, 1/2^32. -/
  oldW : Nat × Nat × Nat := (0, 0, 0)
  /-- count; R98; reset 0: control cycles of the blend so far. -/
  blendCyc : Nat := 0
  /-- 1 bit; R98; reset 0: a blend was abandoned since the last REFCHANGE record. -/
  aborted : Bool := false
  /-- 2 bit; Table 16-10 REFCHANGE; reset 3: reference before the change, and the abandoned target (0xFF none). -/
  fromSrc : Nat := 3
  viaSrc : Nat := 0xFF
  /-- 64 bit; Table 16-10 REFCHANGE; reset 0: TB_LOCAL of the first change. -/
  changeAt : Nat := 0
  /-- 32 bit signed; Table 16-10 REFCHANGE; reset 0: v_new - v_old at the first change, um/s. -/
  changeDv : Int := 0
  /-- 3 x 64 bit signed; R98; reset 0: interpolated positions of FBK4 and FBK5 at the last cycle, 1/1,000 um. -/
  pos4 : Int := 0
  pos5 : Int := 0
  /-- 64 bit signed; R98, R105; reset 0: odometer increment not yet a whole millimetre, nm/2^32. -/
  rest : Int := 0
  /-- 32 bit signed or none; R97, R327; reset none: vehicle speed of the CAN message, mm/s, and its arrival. -/
  can : Option (Int × Nat) := none
  /-- 1 bit; R97; reset 0: F0511 has been raised and no usable reference has come back. -/
  noRef : Bool := false
deriving DecidableEq, Repr

/-! ### Position domains (spec/05_position_domains.md) -/

/-- One entry of the latch FIFO (R116). -/
structure LfEntry where
  slot : Nat
  dom : Nat
  ts : Nat
  val : Nat
deriving DecidableEq, Repr

/-- DOM: the event unit beside its registers. -/
structure Dom where
  /-- 8 x 64 bit signed; R103, R108; reset 0: the last measured value of each domain (D0 to D3 in nm, D4 in mm, D5 and D6
  composite, D7 unused). -/
  val : List Int := [0, 0, 0, 0, 0, 0, 0, 0]
  /-- 8 x 64 bit; R103; reset 0: TB_LOCAL of that measurement. -/
  ts : List Nat := [0, 0, 0, 0, 0, 0, 0, 0]
  /-- 64 x 64 bit signed; R117; reset none: the working target of each armed slot, after its repeat advances. -/
  target : List (Nat × Int) := []
  /-- 64 x 1 bit; R118; reset none: armed slots whose late check waits for their domain to become valid. -/
  waiting : List Nat := []
  /-- list; R113; reset empty: motions to start at the next boundary: slot, axis, motion set, in order of delivery. -/
  motions : List (Nat × Nat × Nat) := []
  /-- 8 bit; R113, R213; reset 0: SIG0 to SIG7 raised for the next voter cycle. -/
  sigs : Nat := 0
  /-- 32 entries; R116; reset empty: the latch FIFO, head first. -/
  lf : List LfEntry := []
  /-- 8 x 4 bit; R121; reset 0: consecutive cycles above the declared rate. -/
  overs : List Nat := [0, 0, 0, 0, 0, 0, 0, 0]
  /-- 8 x 4 bit; R121; reset 0: consecutive cycles at or below the declared rate. -/
  under : List Nat := [0, 0, 0, 0, 0, 0, 0, 0]
  /-- 8 x 1 bit; R121; reset 0: F0603 condition present on the domain. -/
  rateFlt : List Bool := [false, false, false, false, false, false, false, false]
  /-- 2 x 64 bit; R121; reset 0: ns between the last two lines counted by D5 and D6. -/
  lineDt : List Nat := [0, 0]
deriving DecidableEq, Repr

/-! ### Motion (spec/06_motion_profiles.md) -/

/-- One axis of MOT beside its registers. -/
structure Axis where
  /-- 42 bit; R125, R129; reset 0: commanded speed, nm/s, in the direction of STAT.DIR. -/
  v : Nat := 0
  /-- 96 bit signed; R125; reset 0: integrated position; one unit of XPOS is LEAD_NM x 10^6. -/
  pos : Int := 0
  /-- 17 bit signed; R155; reset 0: commanded acceleration along increasing position, mm/s^2. -/
  acc : Int := 0
  /-- record; R127; reset zeros: the profile copied at the last application. -/
  prof : Profile := {}
  /-- 64 bit or none; R131, R140; reset none: TB_LOCAL of the last stop. -/
  stopAt : Option Nat := none
  /-- 1 bit; R140; reset 0: the phase scale has fallen to SC_HOLD. -/
  holding : Bool := false
  /-- 4 bit; R142; reset 0: consecutive watched cycles with |DEV| at or above the stall limit. -/
  stallCnt : Nat := 0
  /-- 1 bit; R141; reset 0: a load angle was given to CUR in the last cycle. -/
  angleOk : Bool := false
  /-- 1 bit; R142, R205; reset 0: a stall is reported to DOOR and not yet taken. -/
  stallRep : Bool := false
  /-- 2 bit or none; R203; reset none: first trip source since DOOR's last cycle that put the axis into EMERG (0 force, 1 edge, 2 vision, 3 island). -/
  tripSrc : Option Nat := none
  /-- 64 bit; R203; reset 0: TB_LOCAL of that trip. -/
  tripAt : Nat := 0
deriving DecidableEq, Repr

/-! ### Coil current (spec/07_coil_current.md) -/

/-- The bridge states of Table 07-1. -/
inductive Bridge where
  | on | fast | slow | off
deriving DecidableEq, Repr

/-- The chopper fields a cycle start takes over (R154): CHOP, FD, TOFF, TBLANK, HBAND, DEAD. -/
structure ChopCfg where
  hyst : Bool := false
  fd : Nat := 4
  toff : Nat := 80
  tblank : Nat := 4
  hband : Nat := 41
  dead : Nat := 125
deriving DecidableEq, Repr

/-- One phase of one axis. -/
structure Phase where
  /-- 2 bit; Table 07-1; reset OFF: the bridge state. -/
  bridge : Bridge := .off
  /-- 1 bit; R143; reset 0: polarity of the bridge drive, 1 negative. -/
  neg : Bool := false
  /-- 64 bit or none; R148; reset none: TB_LOCAL of the last cycle start. -/
  start : Option Nat := none
  /-- 64 bit; R151, R152; reset 0: TB_LOCAL at which the ON state ended. -/
  onEnd : Nat := 0
  /-- 1 bit; R148; reset 0: the present cycle's ON state ended by the limit. -/
  onLim : Bool := false
  /-- 1 bit; R152, R153; reset 1: the present cycle's mean has been taken: only SLOW remains until the next start. -/
  ended : Bool := true
  /-- record; R154; reset as CUR_AXn_CFG and CHOP: the chopper fields of the present cycle. -/
  cfg : ChopCfg := {}
  /-- 24 bit signed; R151; reset 0: sample at the end of blanking and at the end of ON, uA. -/
  iBe : Int := 0
  iPk : Int := 0
  /-- 24 bit signed; R146; reset 0: the last measured current, uA. -/
  iMeas : Int := 0
  /-- sums; R155; reset 0: means of the cycles that ended in this control cycle: sum in uA, count, of which ended by ON_LIM. -/
  sum : Int := 0
  n : Nat := 0
  nLim : Nat := 0
  /-- sums; R156; reset 0: time in ON and in FAST in this control cycle, ns (signed by polarity). -/
  tOn : Int := 0
  tFast : Int := 0
  /-- 24 bit signed; R155, R156; reset 0: I_AVG of the last control cycle and of the one before, uA. -/
  avg : Int := 0
  avgOld : Int := 0
  /-- 4 bit; R159; reset 0: consecutive cycles with I_PK below 5 % of the set current. -/
  openCnt : Nat := 0
  /-- 5 bit; R159; reset 0: consecutive control cycles in which every cycle ended by ON_LIM. -/
  sagCnt : Nat := 0
deriving DecidableEq, Repr

/-- The running least-squares sums of a force fit (R158): a in mm/s^2, sign of v, v in um/s, motor force in mN. -/
structure FitSums where
  n : Nat := 0
  aa : Int := 0
  as : Int := 0
  av : Int := 0
  ss : Int := 0
  sv : Int := 0
  vv : Int := 0
  af : Int := 0
  sf : Int := 0
  vf : Int := 0
  ff : Int := 0
deriving DecidableEq, Repr

/-- CUR: one axis beside its registers. -/
structure CurAx where
  phA : Phase := {}
  phB : Phase := {}
  /-- 2 bit; R157; reset 0: consecutive cycles with F_OPP at or above F_LIM and F_VALID set. -/
  overs : Nat := 0
  /-- 2 bit; R157; reset 0: consecutive cycles below F_LIM or without F_VALID. -/
  under : Nat := 0
  /-- 2 bit; R158; reset 0: force fit idle, armed, collecting a move. -/
  fit : Nat := 0
  /-- 1 bit; R158; reset 1: the collected move qualifies so far. -/
  fitOk : Bool := true
  /-- 16 bit; R158; reset 0: control cycles of cruise in the collected move. -/
  fitCruise : Nat := 0
  /-- sums; R158; reset 0: the least-squares sums of the collected move. -/
  sums : FitSums := {}
  /-- 1 bit; R159; reset 0: ENABLE has been cleared since the latch and may release it when set at standstill. -/
  unlatchable : Bool := false
  /-- 2 bit; R159, Table 21-5; reset 0: what latched the axis off: bit 0 an overcurrent (F0801), bit 1 an open phase (F0802). -/
  latch : Nat := 0
  /-- 1 bit; R159; reset 1: the last 10 ms check passed. -/
  adcOk : Bool := true
deriving DecidableEq, Repr

/-! ### The door cycle (spec/08_door_cycle.md) -/

/-- What a door cycle has recorded of one axis (R181, Table 16-10). -/
structure DoorAx where
  /-- 1 bit; Table 16-10; reset 0: the axis moved, moved without POS_VALID, stalled in this cycle. -/
  moved : Bool := false
  blind : Bool := false
  stall : Bool := false
  /-- 16 bit; Table 08-8; reset 0: peak F_OPP outside and inside the rind zone, 0.1 N. -/
  peakOut : Nat := 0
  peakIn : Nat := 0
  /-- 16 bit; Table 16-10; reset 0: reversals on the axis. -/
  revs : Nat := 0
  /-- 32 bit; Table 08-8; reset 0: peak |V_REP|, um/s. -/
  peakV : Nat := 0
  /-- 32 bit; Table 16-10; reset 0: largest |DEV|, um. -/
  peakDev : Nat := 0
deriving DecidableEq, Repr

/-- DOOR beside its registers. -/
structure DoorSt where
  /-- 1 bit; R180, R197; reset 0: DOOR requests the bridges on. -/
  bridges : Bool := false
  /-- 1 bit; R170; reset 0: the warning time has run and closing is withheld. -/
  withheld : Bool := false
  /-- 64 bit or none; R170; reset none: TB_LOCAL since which every condition of R169 holds again. -/
  rewarn : Option Nat := none
  /-- 64 bit; R170; reset 0: TB_LOCAL at which the withholding in progress began. -/
  withSince : Nat := 0
  /-- 2 x 4 bit; R179; reset 0: consecutive cycles above the declared rate and margin. -/
  ovs : List Nat := [0, 0]
  /-- 2 bit; R211; reset 0: leaves on the degraded set in this CLOSING. -/
  deg : Nat := 0
  /-- 2 bit; R211; reset 0: of these, leaves soft-stopped at their Hall input. -/
  degStop : Nat := 0
  /-- 2 bit; R205; reset 0: stalled leaves that wait for their return set. -/
  stallRet : Nat := 0
  /-- 2 bit or none; R424; reset none: axis of a console move in progress. -/
  conMove : Option Nat := none
  /-- 1 bit; R209, R210; reset 0: the vision-absent policy was in force at the last cycle. -/
  va : Bool := false
  /-- 1 bit; R165; reset 0: a door cycle runs. -/
  inCycle : Bool := false
  /-- 64 bit; R181; reset 0: TB_LOCAL at the start of the cycle. -/
  start : Nat := 0
  /-- 6 x 64 bit; Table 08-8; reset 0: opening, dwell, warning, withheld, closing and locking times, ns. -/
  times : List Nat := [0, 0, 0, 0, 0, 0]
  /-- 5 x 8 bit; Table 08-8; reset 0: reversals by force, edge, vision, timeout, request. -/
  revs : List Nat := [0, 0, 0, 0, 0]
  ax : List DoorAx := [{}, {}, {}, {}]
  /-- 32 bit signed or none; Table 08-8; reset none: reference-leaf position when the step reached its retracted end, um. -/
  stepAt : Option Int := none
  /-- 3 x 1 bit; Table 08-8; reset 0: vision-absent, LATE slot, STALL in this cycle. -/
  fVa : Bool := false
  /-- 1 bit; Table 08-8; reset 0: OBSTRUCTED was set in this cycle. -/
  fObs : Bool := false
  fLate : Bool := false
  fStall : Bool := false
  /-- list; R484; reset empty: the S4 and S5 faults in force at the last cycle. -/
  seenSafe : List Nat := []
  /-- 1 bit; R350; reset 0: DOOR has completed its latest cycle (the P0 check of PAIR). -/
  ran : Bool := false
deriving DecidableEq, Repr

/-! ### Safety inputs, channels and the voter (spec/09_obstacles_and_interlock.md) -/

/-- The readings of one safety channel. -/
structure SinCh where
  /-- 24 bit; R184, R185; reset 0 (every input open, the restrictive reading): inputs that read closed. -/
  closed : Nat := 0
  /-- 24 bit; R184; reset 0: pulsed inputs with a failed check in the present 200 us frame. -/
  bad : Nat := 0
  /-- 24 bit; R184; reset 0: pulsed inputs whose last frame passed. -/
  good : Nat := 0
  /-- 24 bit; R184; reset 0: pulsed inputs low at another TPO's check in the present frame. -/
  low : Nat := 0
  /-- 24 bit; R184; reset 0: pulsed inputs in fault. -/
  flt : Nat := 0
  /-- 2 x 64 bit or none; R187; reset none: TB_LOCAL since which the inputs of EGRESS and of ISOL differ. -/
  dis : List (Option Nat) := [none, none]
  /-- 2 bit; R187; reset 0: EGRESS and ISOL read restrictive after F0405. -/
  lat : Nat := 0
  /-- 2 x 64 bit or none; R187; reset none: TB_LOCAL since which both inputs of the pair have read closed. -/
  both : List (Option Nat) := [none, none]
deriving DecidableEq, Repr

/-- The island's ECC copy of the parameters of R186 (and of the enables that Table 09-2 names). -/
structure IslCopy where
  closedTol : Nat := 0
  lockWin : Nat := 0
  leaf1 : Bool := true
  step : Bool := false
deriving DecidableEq, Repr

/-- What a grid has shown (R204). -/
structure GridSt where
  /-- 1 bit; R204; reset 0: WITHHOLD stands for the grid. -/
  wh : Bool := false
  /-- 1 bit; R204; reset 0: TRAP stands for the grid. -/
  tr : Bool := false
  /-- 4 bit; R204; reset 0: consecutive complete frames without a WITHHOLD cell. -/
  whClean : Nat := 0
  /-- 4 bit; R204; reset 0: consecutive complete frames without a TRAP cell. -/
  trClean : Nat := 0
  /-- 48 bit and 2 x 1 bit; R204; reset 0: the frame of the latest update and whether it has shown a WITHHOLD and a TRAP cell. -/
  frame : Nat := 0
  whHit : Bool := false
  trHit : Bool := false
deriving DecidableEq, Repr

/-- VOTE and the safety island beside their registers. -/
structure VoteSt where
  ch : List SinCh := [{}, {}, {}]
  /-- record; R186; reset as the factory defaults of the fields, tolerances 0: the channels' copy of the admitted parameters. -/
  copy : IslCopy := {}
  /-- 1 bit; R63, R74; reset 0: the island holds a configuration that has passed admission. -/
  admitted : Bool := false
  /-- 1 bit; R63, R195; reset 0: the lease as it stood at the assertion of the L2 reset in progress. -/
  l2Lease : Bool := false
  /-- 3 bit; R191; reset 0: channels that disagreed in the last cycle. -/
  lastDis : Nat := 0
  /-- 2 bit; R192; reset 0: disagreement cycles since 2OO2 was entered. -/
  dis2 : Nat := 0
  /-- 1 bit; Table 09-2; reset 0: every enabled leaf voted closed. -/
  closed : Bool := false
  /-- 1 bit; Table 09-2; reset 0: the step voted retracted. -/
  stepRet : Bool := false
  /-- 64 bit; R188; reset 0: time DOOR has been outside ISOLATED, ns, and TB_LOCAL of the last count. -/
  outIso : Nat := 0
  cycAt : Nat := 0
  /-- 24 x 64 bit; R188; reset none: that time at the last change of each input. -/
  mark : List (Nat × Nat) := []
  /-- 24 x 64 bit; R189; reset none: TB_LOCAL of the last change of each input's voted reading. -/
  sinAt : List (Nat × Nat) := []
  /-- 24 bit; R189; reset all ones: pushbuttons that may post. -/
  pbReady : Nat := 0xFFFFFF
  /-- 3 bit; R200; reset 0: outputs whose last read-back differed: TRACT_REL, LOCK_DRV, BRG_EN_N. -/
  rbBad : Nat := 0
  /-- 4 bit; R200; reset 0: TPOs whose last pulse did not read back. -/
  tpoBad : Nat := 0
  /-- 64 bit or none; R197; reset none: TB_LOCAL since which egress, isolation, a fault of S4 or S5, or SUPPLY_HOLD stands. -/
  stopSince : Option Nat := none
  /-- 32 bit signed and 64 bit, or none; R199; reset none: the latest SPEED_IN value, mm/s, and its arrival. -/
  speedIn : Option (Int × Nat) := none
  /-- 64 bit or none; R199; reset none: TB_LOCAL since which the veto stands against voted standstill. -/
  vetoSince : Option Nat := none
  /-- 1 bit; R199; reset 0: F0409 has been raised for that stretch. -/
  vetoTold : Bool := false
  /-- 4 records; R204; reset clear: T1 of cameras 0 and 1, T2 of cameras 0 and 1. -/
  grids : List GridSt := [{}, {}, {}, {}]
  /-- 2 x 64 bit or none; R209; reset none: TB_LOCAL of the last grid update from T1 per camera. -/
  gridAt : List (Option Nat) := [none, none]
  /-- 64 bit or none; R209; reset none: TB_LOCAL since which no condition of the vision-absent policy holds. -/
  vaClear : Option Nat := none
  /-- 2 bit; R209; reset 0: cameras with a complete T1 grid since then. -/
  vaFresh : Nat := 0
  /-- 1 bit; R209; reset 0: an activation of NOSF is in progress. -/
  nosfBusy : Bool := false
deriving DecidableEq, Repr
/-! ### The Nosora engine (spec/10_nosora_engine.md) -/

/-- One entry of a tenant's job table (Table 10-6). -/
structure JobDef where
  cam : Nat
  dep : Nat
  first : Nat
  count : Nat
  span : Nat
  wcet : Nat
deriving DecidableEq, Repr

/-- The loaded container of a tenant (R238, R240). -/
structure Tenant where
  /-- n x 64 bytes; R232; reset empty: the layer descriptors. -/
  descs : List Byte := []
  /-- n entries; R238; reset empty: the job table. -/
  jobs : List JobDef := []
  /-- list; R238, R265; reset empty: the CONST sections: window offset and bytes. -/
  consts : List (Nat × List Byte) := []
deriving DecidableEq, Repr

/-- One started or pending instance of a job (R225 to R228). -/
structure JobRun where
  ten : Nat
  idx : Nat
  cam : Nat
  l : Nat
  fidx : Nat
  /-- Order of start. -/
  seq : Nat
  /-- First taken by a cluster. -/
  startAt : Nat
  /-- Arrival tick of line L - 1. -/
  lineAt : Nat
  /-- A pending start beside a running instance. -/
  pend : Bool
  /-- It has been taken by a cluster at least once. -/
  began : Bool
  cluster : Option Nat
  /-- Descriptors run so far. -/
  done : Nat
  layerAt : Nat
  /-- The descriptor with LAST has run. -/
  ended : Bool
  /-- Grid rows of its GRID layers so far. -/
  rows : List (Nat × List Byte)
  bad : Bool
deriving DecidableEq, Repr

/-- One captured line in a stripe ring (R224): line in the frame, FIDX, arrival tick, ring row, bad. -/
structure RingLine where
  n : Nat
  fidx : Nat
  ts : Nat
  row : Nat
  bad : Bool
deriving DecidableEq, Repr

/-- One camera receiver beside its registers. -/
structure CamSt where
  /-- 16 bit or none; R221, R222; reset none: frame number of the last Frame Start since the receiver started. -/
  fn : Option Nat := none
  /-- 48 bit; R221; reset 0: FIDX. -/
  fidx : Nat := 0
  /-- 16 bit or none; R222; reset none: the peer's frame number and FIDX from the mirror. -/
  peer : Option (Nat × Nat) := none
  /-- 64 bit; R223; reset 0: TB_LOCAL of the last Frame Start. -/
  fsAt : Nat := 0
  /-- 12 bit; R220; reset 0: lines stored in this frame. -/
  lines : Nat := 0
  /-- 1 bit; R220; reset 0: this frame is short. -/
  short : Bool := false
  /-- list; R224; reset empty: the lines the ring holds, newest first. -/
  ring : List RingLine := []
  /-- 12 bit; R224; reset 0: ring row of the next line. -/
  row : Nat := 0
deriving DecidableEq, Repr

/-- NOS beside its registers. -/
structure NosSt where
  tens : List Tenant := [{}, {}, {}, {}]
  /-- list; R225; reset empty: job instances, in order of start. -/
  runs : List JobRun := []
  /-- count; R230; reset 0: starts so far. -/
  seq : Nat := 0
  /-- list; R227; reset empty: T0 instances that ended: job, camera, FIDX, L, completed, bad source line; newest first. -/
  t0 : List (Nat × Nat × Nat × Nat × Bool × Bool) := []
  cams : List CamSt := [{}, {}]
  /-- 4 x (48 bit, 18 bit); R241; reset 0: per grid the FIDX and the rows published with it. -/
  seen : List (Nat × Nat) := [(0, 0), (0, 0), (0, 0), (0, 0)]
  /-- 4 bit; R244; reset 0: clusters removed from every mask until the next NOS reset. -/
  badClu : Nat := 0
  /-- 2 x 32 bit; R329; reset 0: SEQ of OCCUPANCY per camera. -/
  occSeq : List Nat := [0, 0]
  /-- list; R329; reset empty: OCCUPANCY datagrams not yet handed to the MAC: camera, T_PUB, payload. -/
  occ : List (Nat × Nat × List Byte) := []
deriving DecidableEq, Repr

/-! ### Vision memory (spec/11_vision_memory.md) -/

/-- One L1 line that holds a valid or pending sector: cluster, line offset in LPDDR4X, sector states (0 I, 1 V, 2 F), data (R245). -/
structure L1Line where
  clu : Nat
  base : Nat
  st : List Nat
  data : List Byte
deriving DecidableEq, Repr

/-- One L2 line that is present (R248 to R250): its partition, slice, set, way, offset in LPDDR4X, mode, states (normal: four sectors, 0 I,
1 V, 2 D, 3 F; churn: one state, 0 I, 1 A, 2 V, 3 D, 4 F), marked granules, data. -/
structure L2Line where
  part : Nat
  slice : Nat
  set : Nat
  way : Nat
  base : Nat
  churn : Bool
  st : List Nat
  mask : Nat
  data : List Byte
deriving DecidableEq, Repr

/-- One request of an agent (0 to 3 clusters, 4 APP, 5 capture) at the L2: offset, length, and the bytes of a write. -/
structure L2Req where
  agent : Nat
  off : Nat
  len : Nat
  wr : Option (List Byte)
deriving DecidableEq, Repr

/-- One miss-holding register (R252): slice, line offset, when it was taken, sectors of the fill and of a second fill, requesters. -/
structure Mshr where
  slice : Nat
  base : Nat
  at_ : Nat
  fill : Nat
  second : Nat
  reqs : List L2Req
  /-- A whey drop waits for this fill (R254). -/
  drop : Bool
deriving DecidableEq, Repr

/-- A request at a home slice of a shared line (R258): 0 GetS, 1 WT, 2 GetM, 3 the eviction of the line, from agent `who`, with the bytes of a
WT. -/
structure DirReq where
  kind : Nat
  who : Nat
  off : Nat
  bytes : List Byte
deriving DecidableEq, Repr

/-- One directory entry (R257, R258): line offset, state 0 U, 1 S, 2 M, sharers (C0 to C3, APP), transient 0 none, 1 S_I, 2 M_R, acks
awaited, requests (the first is the one in progress while transient), and when the transient began. -/
structure DirEnt where
  base : Nat
  st : Nat
  sharers : Nat
  trans : Nat
  acks : Nat
  reqs : List DirReq
  since : Nat
deriving DecidableEq, Repr

/-- VMC beside its registers. -/
structure Vmc where
  /-- list; R245; reset empty: L1 lines. -/
  l1 : List L1Line := []
  /-- list; R248; reset empty: L2 lines. -/
  l2 : List L2Line := []
  /-- 16 per slice; R252; reset empty: miss-holding registers in use. -/
  mshr : List Mshr := []
  /-- 16 per slice; R252; reset empty: replay queues, and after them the requests held at a slice input. -/
  replay : List L2Req := []
  held : List L2Req := []
  /-- list; R257; reset empty: directory entries not in state U. -/
  dir : List DirEnt := []
  /-- 8 x 6 bit; R266; reset 0: events below one unit of each performance counter. -/
  pmcRest : List Nat := [0, 0, 0, 0, 0, 0, 0, 0]
deriving DecidableEq, Repr

/-! ### CAN FD (spec/12_can_fd.md) -/

/-- One CAN controller beside its registers and its message RAM. -/
structure CanCtl where
  /-- 2 bit; R274; reset NORMAL: the mode in effect. -/
  mode : Nat := 0
  /-- 1 bit; R273; reset 0: 11 recessive bits have been seen since INIT was left. -/
  synced : Bool := false
  /-- 5 bit or none; R283; reset none: the transmit buffer selected for the attempt in progress. -/
  sel : Option Nat := none
  /-- 32 bit; R285; reset 0: buffers whose cancellation waits for the end of their attempt. -/
  cancel : Nat := 0
  /-- 32 bit; R282; reset 0: buffers whose shadow holds a held frame. -/
  shadow : Nat := 0
  /-- 9 bit; R288; reset 0: transmit and receive error counters. -/
  tec : Nat := 0
  rec_ : Nat := 0
  /-- list; R292; reset empty: filter elements with an uncorrectable ECC error (extended ones from 64 on). -/
  badFilt : List Nat := []
  /-- count; R290; reset 0: wraps of TS taken into IR.TSWRAP. -/
  wraps : Nat := 0
deriving DecidableEq, Repr


/-! ### Ethernet and time (spec/13_ethernet_and_time.md) -/

/-- One learned address of the switch (R296). -/
structure SwEntry where
  mac : Nat
  port : Nat
  seen : Nat
deriving DecidableEq, Repr

/-- ETH beside its registers. -/
structure EthSt where
  /-- 1,024 entries; R296; reset empty: the address table. -/
  table : List SwEntry := []
deriving DecidableEq, Repr

/-- One time reference as TSYN measures it (R304). -/
structure RefSt where
  /-- 2 s of measurements; R304; reset empty: TB_LOCAL tick and reference time, newest first. -/
  meas : List (Nat × Nat) := []
  /-- 2 bit; Table 13-3; reset 0: consecutive residuals above the limit. -/
  badRun : Nat := 0
  /-- 64 bit or none; Table 13-3; reset none: TB_LOCAL since which the conditions of qualification have held. -/
  okSince : Option Nat := none
  /-- 64 bit signed; R304; reset 0: the last theta, ns. -/
  theta : Int := 0
  /-- 64 bit; R304; reset 0: message interval, ns. -/
  interval : Nat := 0
deriving DecidableEq, Repr

/-- TSYN beside its registers. -/
structure TsynSt where
  gptp : RefSt := {}
  can : RefSt := {}
  /-- 64 bit or none; R303, Table 13-3; reset none: the grandmaster's identity, TB_LOCAL of its last Announce and its interval. -/
  gm : Option (Nat × Nat × Nat) := none
  /-- 64 bit or none; R303; reset none: egress time-stamp of the Pdelay_Req outstanding. -/
  reqAt : Option Nat := none
  /-- 4 bit; R303; reset 0: Pdelay_Req in a row without a response. -/
  lost : Nat := 0
  /-- 2 x 64 bit or none; R303; reset none: origin and ingress of the last Pdelay_Resp. -/
  lastResp : Option (Nat × Nat) := none
  /-- 2 bit and 64 bit; R306, R307; reset 0: at the first of the changes of selection in progress: the source before it, TB_LOCAL, and theta. -/
  fromSrc : Nat := 0
  changeAt : Nat := 0
  changeTh : Int := 0
  /-- 8 bit and 1 bit; R307; reset 0xFF: the abandoned target, and whether one was abandoned. -/
  via : Nat := 0xFF
  aborted : Bool := false
  /-- 64 bit or none; R305; reset none: tick of the last measurement of the selected reference. -/
  lastMeas : Option Nat := none
  /-- 64 bit; R309; reset 0: TB_LOCAL at the entry to holdover, and BOUND there, ns. -/
  hoAt : Nat := 0
  hoBound : Nat := 0
  /-- 64 bit or none; R308; reset none: TB_LOCAL since which y has stood at Y_MAX outside a switch. -/
  satSince : Option Nat := none
  /-- 64 bit or none; R308; reset none: TB_LOCAL of an ETHS reset since which selection is suspended. -/
  suspend : Option Nat := none
deriving DecidableEq, Repr

/-! ### Vehicle messages (spec/14_vehicle_messages.md) -/

/-- An open export session (R330 to R332). -/
structure ExpSess where
  path : Path
  win : Nat
  /-- First sequence not acknowledged. -/
  una : Nat
  /-- Sequence from which the next record is sent. -/
  next : Nat
  /-- Highest sequence sent. -/
  high : Option Nat
  /-- TB_LOCAL of the last ACKN, of the last advance of the acknowledged sequence, of the last record sent. -/
  lastAckn : Nat
  lastAdv : Nat
  lastSent : Option Nat
  /-- END with REASON 0 has been sent since the last record. -/
  endSent : Bool
deriving DecidableEq, Repr

/-- The message layer. -/
structure MsgSt where
  /-- 64 bit or none; R324; reset none: k of the last DOOR_STATUS sent. -/
  dsK : Option Nat := none
  /-- 5 bytes; R325; reset empty: bytes 0 to 4 of the last INTERLOCK_STATUS sent. -/
  ilk : List Byte := []
  /-- 64 bit or none; R325; reset none: TB_LOCAL of the last INTERLOCK_STATUS. -/
  ilkAt : Option Nat := none
  /-- 8 bit; R325; reset 0: ALIVE of the next INTERLOCK_STATUS. -/
  ilkAlive : Nat := 0
  /-- 8 bit or none; R327; reset none: ALIVE of the last SPEED_IN. -/
  spAlive : Option Nat := none
  /-- record or none; R330; reset none: the open export session. -/
  exp : Option ExpSess := none
  /-- path and 64 bit, or none; Table 14-13; reset none: a session closed by the loss of its path, and when. -/
  expLost : Option (Path × Nat) := none
deriving DecidableEq, Repr
/-! ### The lichen pair (spec/15_lichen_pair.md) -/

/-- PAIR beside its registers. -/
structure PairSt where
  /-- record or none; R346, Table 15-2; reset none: the shadow state of the last MIRROR frame applied. -/
  shadow : Option MirBody := none
  /-- 64 bit; PAIR_LAST_GAP; reset 0: TB_LOCAL of the arrival of the last MIRROR frame, and the sender's stamp in it. -/
  mirAt : Nat := 0
  mirTb : Nat := 0
  /-- list; R346, Table 15-2; reset empty: the MRAM stores of this cycle that the next MIRROR frame carries. -/
  work : List (Nat × List Byte) := []
  /-- 64 bit or none; R339; reset none: TB_LOCAL of the last RENEW accepted: the lease timer of 400 us runs from it. -/
  renewRx : Option Nat := none
  /-- 64 bit; R338; reset 0: TB_LOCAL of the last renewal made, and of the last instant the epoch advanced. -/
  renewTx : Nat := 0
  epochAt : Nat := 0
  /-- 2 bit; R338; reset 0: consecutive control cycles in which the renewal conditions held. -/
  okCycles : Nat := 0
  /-- 64 bit or none; R342; reset none: TB_LOCAL of a claim that STEER_FB has not yet confirmed. -/
  claimAt : Option Nat := none
  /-- 2 bit; Table 16-10 SWITCHOVER; reset 0: the claim in progress: 0 unplanned, 1 planned, 2 cold, 3 from the election. -/
  claimKind : Nat := 0
  /-- 1 bit; R342, R354; reset 0: the steering check has passed and the first output cycle is yet to come. -/
  firstOut : Bool := false
  /-- 1 bit; R360; reset 0: between a claim and the end of the first output cycle. -/
  taking : Bool := false
  /-- 2 bit; R342; reset 0: consecutive cycles in which an active read STEER_FB high. -/
  steerHigh : Nat := 0
  /-- 64 bit or none; R343; reset none: TB_LOCAL at which the election began. -/
  electSince : Option Nat := none
  /-- 64 bit or none; R358; reset none: TB_LOCAL of the last claim tried. -/
  triedAt : Option Nat := none
  /-- 64 bit; R343, R358; reset 0: TB_LOCAL since which LEASE_IN has not toggled. -/
  idleSince : Nat := 0
  /-- record or none; R343, R344; reset none: what the peer's last HELLO told, and its side. -/
  peer : Option (HelloInfo × Bool) := none
  /-- 64 bit; R336; reset 0: TB_LOCAL stamp of the last HELLO received from the peer and its arrival. -/
  helloRx : Option (Nat × Nat) := none
  /-- 64 bit or none; R356; reset none: TB_LOCAL at which HO_REQ was sent. -/
  hoSince : Option Nat := none
  /-- 12 bit or none; R427; reset none: the journal slot of the console command that asked for the handover. -/
  hoEntry : Option Nat := none
  /-- 2 x 5 bit; R335; reset 0: frames with CRC errors in a row on each lane, 16 drop the lane. -/
  crcRun : List Nat := [0, 0]
  /-- 2 x 1 bit; R335; reset 0: lanes dropped. -/
  dropped : List Bool := [false, false]
  /-- 64 bit; R335; reset 0: TB_LOCAL of the last valid frame. -/
  frameAt : Nat := 0
  /-- 4 bit; Table 15-3; reset 0: consecutive cycles in which positions, or inputs and votes, differ from the active's. -/
  posDiff : Nat := 0
  inDiff : Nat := 0
  /-- 1 bit; R355; reset 0: released by R338: UNFIT until the next chip-level reset. -/
  unfit : Bool := false
  /-- 2 bit; R354; reset 0: own TPO frames still to pass before the pulse hold ends. -/
  pulseHold : Nat := 0
  /-- 8 bit; R350; reset 0: ALIVE of PAIR_HEALTH. -/
  alive : Nat := 0
  /-- 1 bit; R346; reset 1: the next MIRROR frame is a full snapshot. -/
  needSnap : Bool := true
deriving DecidableEq, Repr


/-! ### Console (spec/17_rurax_language.md, spec/18_rurax_commands.md) -/

/-- One console session (R388): con0, con1, tcp0 to tcp3. Its role and mode stand in CON_SESS_STAT. -/
structure Sess where
  /-- 32 and 16 bit; R390, R407; reset 0: IPv4 address and port of the TCP peer. -/
  peerIp : Nat := 0
  peerPort : Nat := 0
  /-- 64 bit; R390, R409; reset 0: TB_LOCAL of the last line received. -/
  lastLine : Nat := 0
  /-- 16 bytes and 64 bit, or none; R408; reset none: the challenge outstanding and its TB_LOCAL. -/
  challenge : Option (List Byte × Nat) := none
  /-- 2 bit; R408; reset 0: wrong responses. -/
  wrong : Nat := 0
  /-- 64 bit or none; R408; reset none: TB_LOCAL at which `auth` was locked. -/
  lockedAt : Option Nat := none
  /-- 5 bit; R404; reset 0b11001: kinds on: fault, state, pair, adm, update. -/
  subs : Nat := 0b11001
  /-- 64 lines; R405; reset empty: notifications that wait for an output line to end. -/
  notes : List String := []
  /-- count; R405; reset 0: notifications discarded. -/
  lost : Nat := 0
  /-- 64 bit; R396; reset 0: TB_LOCAL at which the output line in progress ends. -/
  busyUntil : Nat := 0
  /-- 480 characters; R393; reset empty: the line being typed. -/
  typed : List Byte := []
  /-- 1 bit; R393; reset 0: an escape sequence is being discarded. -/
  esc : Bool := false
deriving DecidableEq, Repr
/-! ### Configuration (spec/19_configuration_and_admission.md) -/

/-- The configuration layers beside the running one, which the registers hold (R434). A layer is the list of its words that differ from
FACTORY: (address, word with the parameter fields of the layer and every other field at its reset value). -/
structure CfgSt where
  /-- list; R420; reset empty (FACTORY): the working copy, shared by the sessions. -/
  work : List (Nat × Word) := []
  /-- 1 bit or none; R438; reset none: the stored copy in use, 0 A and 1 B. -/
  copy : Option Nat := none
  /-- 32 bit; R437, R438; reset 0: its SEQ. -/
  seq : Nat := 0
  /-- 32 bit; Table 19-3, R349; reset 0: CFG_CRC of the running configuration as last installed. -/
  crc : Nat := 0
  /-- 1 bit or none; R438; reset none: the other copy that a repair is still to write. -/
  repair : Option Nat := none
  /-- list and 12 bit, or none; R441; reset none: an admitted snapshot that waits for the next boundary, and the slot of its entry. -/
  install : Option (List (Nat × Word) × Nat) := none
  /-- list or none; 19.10; reset none: the running configuration that the next MIRROR frame carries. -/
  mirror : Option (List (Nat × Word)) := none
  /-- list or none; 19.10; reset none: on a standby, the configuration that came by the mirror, for the next boundary. -/
  fromMirror : Option (List (Nat × Word)) := none
deriving DecidableEq, Repr

/-! ### Image update (spec/20_update_and_service.md) -/

/-- The service image that a boot ROM receives (R470, R471). -/
structure Svc where
  /-- 32 bit; R470; reset 0: SIZE given by BEGIN, 0 for none. -/
  size : Nat := 0
  /-- 32 bit; R471; reset 0: bytes received so far. -/
  got : Nat := 0
  /-- 2 x 1 bit; R470; reset 0: verified, and started. -/
  verified : Bool := false
  running : Bool := false
  /-- 8 bit or none; R471; reset none: SEQ of the latest request on CAN0, and its reply. -/
  last : Option (Nat × List Byte) := none
deriving DecidableEq, Repr

/-- UPD beside its registers. Slots are numbered i = 2 x image + slot. -/
structure UpdSt where
  /-- 18 x 32 bit; R455; reset none: write count of each slot's record in use. -/
  count : List (Nat × Nat) := []
  /-- 18 x 32 bit; R457; reset none: SIZE of each slot. -/
  size : List (Nat × Nat) := []
  /-- 5 bit or none; R457; reset none: the slot whose download is open. -/
  cur : Option Nat := none
  /-- 32 x 128 bytes; R458; reset empty: the lines of the open block written so far. -/
  block : List (List Byte) := []
  /-- 5 bit, 3 bit and 12 bit, or none; R460; reset none: the slot in VERIFYING, and the journal slot of the command. -/
  verify : Option (Nat × Nat) := none
  /-- 5 bit and 12 bit, or none; R463; reset none: the slot whose activation waits for its per-function resets, and the journal slot. -/
  act : Option (Nat × Nat) := none
  /-- 10 bit; R467; reset 0: service seconds in TRIAL at the latest load or store. -/
  secs : Nat := 0
  /-- 64 bit or none; R467; reset none: TB_LOCAL since which further seconds run. -/
  since : Option Nat := none
  /-- 64 bit or none; R465; reset none: TB_LOCAL at which the self-reset pulse is due. -/
  resetAt : Option Nat := none
  /-- 1 bit; R467; reset 0: a revert waits for its planned handover before the self-reset. -/
  awaitHo : Bool := false
  svc : Svc := {}
deriving DecidableEq, Repr


/-! ### The whole chip -/

/-- The chip: its register file, its memories, and each block's working state. -/
structure Chip where
  /-- 64 bit; R300; reset 0: TB_LOCAL, ns. -/
  now : Nat := 0
  /-- 64 bit; R300, R302; reset 0: TB_VEH, ns. -/
  tbVeh : Nat := 0
  /-- 37 bit; R305; reset 0: the part of TB_VEH below 1 ns, 1/10^11 ns. -/
  vehRest : Int := 0
  /-- every register of Tables 22-5 to 22-8 (R500): (address, word) with rising addresses, none at its reset value. -/
  regs : List (Nat × Word) := []
  /-- MRAM, SRAM, LPDDR4X and the CAN message RAMs (R491, R492, R277): (address, byte), rising, none at the default. -/
  mem : List Host.Cell := []
  /-- QSPI NOR (R451): (offset, byte), rising, none at the erased value 0xFF. -/
  nor : List Host.Cell := []
  /-- 32 bit; R451; reset 0x08000000 (DESIGN CHOICE: a 128 MiB device, as a complete layout needs): bytes of the QSPI NOR. -/
  norSize : Nat := 0x08000000
  fuses : Fuses := {}
  pins : Pins := {}
  sup : Sup := {}
  sys : Sys := {}
  flt : Flt := {}
  wqm : Wqm := {}
  ledg : Ledg := {}
  fbk : List FbkCh := [{}, {}, {}, {}, {}, {}]
  wheel : Wheel := {}
  dom : Dom := {}
  axes : List Axis := [{}, {}, {}, {}]
  cur : List CurAx := [{}, {}, {}, {}]
  vote : VoteSt := {}
  door : DoorSt := {}
  nos : NosSt := {}
  vmc : Vmc := {}
  can : List CanCtl := [{}, {}, {}]
  eth : EthSt := {}
  tsyn : TsynSt := {}
  msg : MsgSt := {}
  pair : PairSt := {}
  cfg : CfgSt := {}
  upd : UpdSt := {}
  sess : List Sess := [{}, {}, {}, {}, {}, {}]
  /-- the model's own (log 10): reads of free values so far. -/
  free : Nat := 0
  /-- the model's own (log 3): what the latest command made leave the chip. -/
  out : List Emission := []
  /-- 26 bit; R497, Table 22-3; reset 0: the interrupt lines that the latest command made pending (log 6). -/
  irq : Nat := 0
  /-- list; R494; reset empty: the snapshots of companion words: (8 x address + requester, word), requesters 0 to 3 the cores, 4 to 6 SC-A to
  SC-C. -/
  snaps : List (Nat × Word) := []
  /-- R493, R494: the answer to the latest bus access: a bus error or the word read. -/
  resp : Option (Option Word) := none
  /-- R495: the registers as they stood when the present tick of 4 ns began. -/
  tickRegs : List (Nat × Word) := []
deriving DecidableEq, Repr

/-- The state of the block: the chip and the commands that wait, first in first out. -/
structure State where
  chip : Chip
  pending : List Instr
deriving DecidableEq, Repr

/-- The machine right after an L0 reset: every register at its reset value, the reset released, the start-up sequence not yet run
(log 4), no command waiting. -/
def State.reset : State := { chip := {}, pending := [] }

end Sys2Proof.Machine
end

