-- ==== Sys2Proof/Machine/Ops.lean ====
section
/-! DEFINITION. The named operations over registers, memories, time and outputs that every meaning is built from
(spec/00_scope.md R8 to R10, spec/22_register_index.md R491 to R496). -/

namespace Sys2Proof.Machine

/-! ### Sparse maps: strictly rising keys, no entry equal to the default -/

/-- Read of a sparse map with default `d`. -/
def sread {α : Type} (d : Nat → α) : List (Nat × α) → Nat → α
  | [], a => d a
  | (k, v) :: m, a => if k = a then v else sread d m a

/-- Removal of a key. -/
def sdel {α : Type} (m : List (Nat × α)) (a : Nat) : List (Nat × α) := m.filter (fun p => p.1 != a)

/-- Insertion of a key that keeps the keys rising. -/
def sins {α : Type} : List (Nat × α) → Nat → α → List (Nat × α)
  | [], a, x => [(a, x)]
  | (k, v) :: m, a, x =>
    if k = a then (a, x) :: m else if a < k then (a, x) :: (k, v) :: m else (k, v) :: sins m a x

/-- Write of a sparse map that keeps the canonical form: writing the default removes the entry. -/
def swrite {α : Type} [DecidableEq α] (d : Nat → α) (m : List (Nat × α)) (a : Nat) (x : α) : List (Nat × α) :=
  if x = d a then sdel m a else sins m a x

/-- Whether a key lies above a bound, if there is one. -/
def aboveKey (lo : Option Nat) (k : Nat) : Bool :=
  match lo with
  | none => true
  | some l => decide (l < k)

/-- The canonical form of a sparse map, with every key above `lo`. -/
def swfFrom {α : Type} [DecidableEq α] (d : Nat → α) (lo : Option Nat) : List (Nat × α) → Bool
  | [] => true
  | (k, v) :: m => aboveKey lo k && decide (v ≠ d k) && swfFrom d (some k) m

/-- The canonical form: keys strictly rising, no entry equal to the default. -/
def swf {α : Type} [DecidableEq α] (d : Nat → α) (m : List (Nat × α)) : Bool := swfFrom d none m

/-! ### Registers -/

/-- The word of the register at an address. -/
def Chip.rd (c : Chip) (a : Nat) : Word := sread resetWord c.regs a

/-- The chip with the register at an address set. -/
def Chip.wr (c : Chip) (a : Nat) (v : Word) : Chip := { c with regs := swrite resetWord c.regs a v }

/-- The value of a field. -/
def Chip.get (c : Chip) (f : Fld) : Nat := bitsOf (c.rd f.addr).toNat f.lo f.w

/-- The value of a signed field. -/
def Chip.getI (c : Chip) (f : Fld) : Int := signedOf f.w (c.get f)

/-- Whether a one-bit field is set. -/
def Chip.is (c : Chip) (f : Fld) : Bool := c.get f != 0

/-- The chip with a field set to the low bits of a value. -/
def Chip.set (c : Chip) (f : Fld) (v : Nat) : Chip :=
  c.wr f.addr (BitVec.ofNat 32 (putBits (c.rd f.addr).toNat f.lo f.w v))

/-- The chip with a signed field set, wrapping. -/
def Chip.setI (c : Chip) (f : Fld) (v : Int) : Chip := c.set f (unsignedOf f.w v)

/-- The chip with a signed field set, saturating. -/
def Chip.setSatI (c : Chip) (f : Fld) (v : Int) : Chip := c.setI f (satInt f.w v)

/-- The chip with a one-bit field set to a truth value. -/
def Chip.put (c : Chip) (f : Fld) (b : Bool) : Chip := c.set f (cond b 1 0)

/-- The chip with a saturating count field one higher. -/
def Chip.incSat (c : Chip) (f : Fld) : Chip := c.set f (satNat f.w (c.get f + 1))

/-- The chip with a wrapping count field one higher (R8). -/
def Chip.incWrap (c : Chip) (f : Fld) : Chip := c.set f (c.get f + 1)

/-- Bit `k` of a field. -/
def Chip.bit (c : Chip) (f : Fld) (k : Nat) : Bool := bitAt (c.get f) k

/-- The chip with bit `k` of a field set to a truth value. -/
def Chip.putBit (c : Chip) (f : Fld) (k : Nat) (b : Bool) : Chip := c.set f (setBit (c.get f) k b)

/-- A 64-bit value over a low and a high word. -/
def Chip.get64 (c : Chip) (lo hi : Fld) : Nat := c.get lo + 2 ^ 32 * c.get hi

/-- The chip with a low and a high word set from a 64-bit value. -/
def Chip.set64 (c : Chip) (lo hi : Fld) (v : Nat) : Chip := (c.set lo v).set hi (v / 2 ^ 32)

/-- The chip with the 64-bit two's-complement pattern of a value in a low and a high word. -/
def Chip.set64I (c : Chip) (lo hi : Fld) (v : Int) : Chip := c.set64 lo hi (unsignedOf 64 v)

/-! ### Memory: one byte space over MRAM, SRAM, LPDDR4X and the CAN message RAMs -/

/-- What a byte of memory that nothing has written reads as (log 5). -/
def memDefault (_ : Nat) : Byte := 0

/-- One byte of memory. -/
def Chip.rdB (c : Chip) (a : Nat) : Byte := sread memDefault c.mem a

/-- The chip with one byte of memory written. -/
def Chip.wrB (c : Chip) (a : Nat) (b : Byte) : Chip := { c with mem := swrite memDefault c.mem a b }

/-- `n` bytes of memory from an address. -/
def Chip.rdBytes (c : Chip) (a : Nat) : Nat → List Byte
  | 0 => []
  | n + 1 => c.rdB a :: c.rdBytes (a + 1) n

/-- The chip with bytes written from an address on. -/
def Chip.wrBytes (c : Chip) (a : Nat) : List Byte → Chip
  | [] => c
  | b :: bs => (c.wrB a b).wrBytes (a + 1) bs

/-- The little-endian value of `n` bytes of memory (R7). -/
def Chip.rdLe (c : Chip) (a n : Nat) : Nat := leValue (c.rdBytes a n)

/-- The canonical form of memory: addresses strictly rising, no byte equal to what an unlisted address reads as. -/
def Memory.wf (m : List Host.Cell) : Bool := swf memDefault m

/-- The canonical form of the register file. -/
def Regs.wf (m : List (Nat × Word)) : Bool := swf resetWord m

/-! ### Time -/

/-- TB_VEH after `dt` ns of TB_LOCAL at the frequency offset y of TSYN_FREQ, in 0.01 ppb, with the part not yet a whole ns
kept in 1/10^11 ns (R300, R305). -/
def Chip.advanceVeh (c : Chip) (dt : Nat) : Chip :=
  let k : Int := c.vehRest + (dt : Int) * (10 ^ 11 + c.getI TSYN_FREQ_Y)
  { c with tbVeh := c.tbVeh + (k / 10 ^ 11).toNat, vehRest := k % 10 ^ 11 }

/-- The lease epoch brought up to the instant: 1 more for every 100 us of TB_LOCAL (R337). -/
def Chip.epochSync (c : Chip) : Chip :=
  let n := (c.now - c.pair.epochAt) / 100000
  if n = 0 then c
  else ({ c with pair := { c.pair with epochAt := c.pair.epochAt + n * 100000 } } : Chip).set PAIR_EPOCH_EPOCH
    (c.get PAIR_EPOCH_EPOCH + n)

/-- The registers as they stood when the tick of 4 ns of instant `t` began (R495). -/
def Chip.tickStart (c : Chip) (t : Nat) : List (Nat × Word) := if c.now / 4 < t / 4 then c.regs else c.tickRegs

/-- The chip at the instant of a command: TB_LOCAL moves on to it, never back, and the outputs of the last command are gone. -/
def Chip.begin (c : Chip) (t : Nat) : Chip :=
  let k := if c.now < t then ({ c.advanceVeh (t - c.now) with now := t } : Chip).epochSync else c
  { k with tickRegs := c.tickStart t, out := [], resp := none, irq := 0 }

/-! ### Outputs and free values -/

/-- The chip with one more emission of this command. -/
def Chip.emit (c : Chip) (e : Emission) : Chip := { c with out := c.out ++ [e] }

/-- The chip with the free-value counter read once (log 10). -/
def Chip.tickFree (c : Chip) : Chip := { c with free := c.free + 1 }

/-! ### Which part of the chip runs while a chip-level reset holds it (Table 03-7, R496) -/

/-- The domains of Table 03-7. -/
inductive Domain where
  | aon | clock | island | app
deriving DecidableEq, Repr

/-- Whether a domain runs: always when no reset holds the chip, but for the application side while the boot ROM waits for a download
(R470, R471); under L1 the always-on domain; under L2 all but the application side. -/
def Chip.live (c : Chip) (d : Domain) : Bool :=
  match c.sys.held with
  | none => d != .app || !c.sys.bootWait
  | some l =>
    match d with
    | .aon => l != 0
    | .clock => l == 2
    | .island => l == 2
    | .app => false

/-! ### Interrupt lines (R497, Table 22-3) -/

/-- The addresses at which two sorted register files differ, looking at up to `n` entries. -/
def changedN : Nat → List (Nat × Word) → List (Nat × Word) → List Nat
  | 0, _, _ => []
  | _, [], b => b.map (fun p => p.1)
  | _, a, [] => a.map (fun p => p.1)
  | n + 1, x :: a, y :: b =>
    if x.1 < y.1 then x.1 :: changedN n a (y :: b)
    else if y.1 < x.1 then y.1 :: changedN n (x :: a) b
    else if x.2 = y.2 then changedN n a b
    else x.1 :: changedN n a b

/-- The addresses of the registers in which two register files differ. -/
def changedRegs (a b : List (Nat × Word)) : List Nat := changedN (a.length + b.length + 1) a b

/-- The line that carries the changes of a register, if it holds status or SEEN bits of a block that has a line. -/
def irqLineOf (addr : Nat) : Option Nat :=
  match irqRows.find? (fun r => inRow addr r.2.1 r.2.2.1 r.2.2.2) with
  | some r => some r.1
  | none => none

/-- Whether a CAN line is pending: a bit of its range of CANn_IR with the same bit of CANn_IE. -/
def Chip.canLine (c : Chip) (k lo w : Nat) : Bool :=
  bitsOf (Nat.land (c.get (CAN_IR_BITS k)) (c.get (CAN_IE_BITS k))) lo w != 0

/-- The chip after a command with the lines its changes made pending: `a` is the chip before. -/
def Chip.latchIrq (a b : Chip) : Chip :=
  let l := (changedRegs a.regs b.regs).foldl (fun n r => match irqLineOf r with | some k => setBit n k true | none => n) b.irq
  let l := [0, 1, 2].foldl (fun n k =>
    setBit (setBit n (9 + 2 * k) (b.canLine k 0 13)) (10 + 2 * k) (b.canLine k 13 7)) l
  { b with irq := l }

/-! ### The outputs of the safety island -/

/-- Whether an L2 reset holds the chip, so that the inputs from DOOR and NOS are absent (R63). -/
def Chip.inL2 (c : Chip) : Bool := c.sys.held == some 2

/-- Whether the chip may drive an output: a lease that the steering has confirmed (R342), or the one of an L2 reset. -/
def Chip.mayOutput (c : Chip) : Bool := if c.inL2 then c.vote.l2Lease else c.is PAIR_STAT_HELD && c.pair.claimAt.isNone

/-- The chip with the island's outputs as its lease allows: a chip that may not drive them holds TRACT_REL static, LOCK_DRV and BRG_EN_N high
and its TPO drivers off, and BRG_EN_N is high throughout an L2 reset (Table 01-1, Table 02-8, R38, R342). -/
def Chip.gated (c : Chip) : Chip :=
  let may := c.mayOutput
  { c with pins := { c.pins with
    tractRel := c.pins.tractRel && may
    lockDrv := c.pins.lockDrv || !may
    brgEnN := c.pins.brgEnN || !may || c.inL2
    tpoOn := if may && c.sys.fromNor then 15 else 0 } }

/-- The chip after a command: the interrupt lines pending and the outputs gated; `a` is the chip before. -/
def Chip.finish (a b : Chip) : Chip := (a.latchIrq b).gated

/-- A command of domain `d` at instant `t`: its effect on a chip that runs the domain, and the passing of time otherwise. -/
def run (d : Domain) (t : Nat) (f : Chip → Chip) (s : State) : Host.Outcome State Fault Refusal :=
  .next { s with chip := let c := s.chip.begin t; if c.live d then c.finish (f c) else c }

/-- The chip with one element of a list field replaced by its image. -/
def modAt {α : Type} (l : List α) (i : Nat) (f : α → α) : List α :=
  match l, i with
  | [], _ => []
  | x :: xs, 0 => f x :: xs
  | x :: xs, i + 1 => x :: modAt xs i f

/-- The element of an association list under a key. -/
def lookupD {β : Type} (l : List (Nat × β)) (k : Nat) (d : β) : β :=
  match l.find? (fun p => p.1 == k) with
  | some p => p.2
  | none => d

/-- An association list with a key's element replaced. -/
def insertD {β : Type} (l : List (Nat × β)) (k : Nat) (x : β) : List (Nat × β) :=
  (k, x) :: l.filter (fun p => p.1 != k)

/-- An association list without a key. -/
def eraseD {β : Type} (l : List (Nat × β)) (k : Nat) : List (Nat × β) := l.filter (fun p => p.1 != k)

end Sys2Proof.Machine
end

