-- ==== Sys2Proof/Machine/Flags.lean ====
section
/-! DEFINITION. Faults on their way to the fault manager, ledger records on their way to the ledger, and console output: what
any block does when it raises, records or tells something (spec/21 R474 to R486, spec/16 R378 to R384, spec/17 R395 to R405). -/

namespace Sys2Proof.Machine

/-! ### Fault codes (R474, Table 21-6) -/

/-- The severity of a code (Table 21-6); `arg` is the tenant for F0A04 and F0A07 (R244). -/
def severityOf (code arg : Nat) : Nat :=
  if code / 256 = 0x0C then
    (if code % 16 = 1 ∨ code % 16 = 6 then 2 else 1)
  else if code = 0x0A04 ∨ code = 0x0A07 then (if arg ≤ 1 then 2 else 1)
  else if code ∈ [0x0308, 0x0309] then 5
  else if code ∈ [0x0102, 0x0201, 0x0211, 0x0230, 0x0307, 0x0402, 0x0403, 0x0404, 0x0407, 0x0803, 0x0902, 0x0904, 0x0907] then 4
  else if code ∈ [0x0104, 0x0221, 0x0301, 0x0305, 0x0306, 0x030A, 0x0401, 0x0405, 0x0406, 0x0408, 0x0501, 0x0502, 0x0504, 0x0505,
      0x0510, 0x0511, 0x0601, 0x0603, 0x0604, 0x0701, 0x0702, 0x0703, 0x0801, 0x0802, 0x0905, 0x0906, 0x0A03, 0x0A05, 0x0A08,
      0x0A09, 0x0B04, 0x0B05, 0x0B07, 0x0B08, 0x0D02, 0x0D05, 0x0D06, 0x0E03, 0x0E08, 0x0F01, 0x0F03, 0x0F05] then 2
  else 1

/-- The per-function reset that an S3 fault of the code would use (Table 21-4); `arg` is the tenant for F0A04, F0A05, F0A07. -/
def resetFuncOf (code arg : Nat) : Option Nat :=
  match code / 256 with
  | 0x05 => some 0
  | 0x07 => some 1
  | 0x0A =>
    if (code = 0x0A04 ∨ code = 0x0A05 ∨ code = 0x0A07) ∧ arg = 2 then some 3
    else if (code = 0x0A04 ∨ code = 0x0A05 ∨ code = 0x0A07) ∧ arg = 3 then some 4
    else some 2
  | 0x0B => some 2
  | 0x0C => some (5 + code / 16 % 16)
  | 0x0D => some 8
  | 0x10 => some 9
  | _ => none

/-- The S2 faults that their block clears when a condition ends (Table 21-5). -/
def isCondition (code : Nat) : Bool :=
  code ∈ [0x0104, 0x0221, 0x0301, 0x0305, 0x0306, 0x0401, 0x0405, 0x0406, 0x0501, 0x0504, 0x0510, 0x0511, 0x0603, 0x0604, 0x0801,
    0x0802, 0x0A03, 0x0A08, 0x0A09, 0x0B05, 0x0B08, 0x0D02, 0x0D06, 0x0F05] || (code / 256 == 0x0C && code % 16 == 1)

/-- The chip with the sticky SEEN bit of a code set in its block's FAULT register, where the block has one for the whole block. -/
def Chip.markSeen (c : Chip) (code : Nat) : Chip :=
  let k := code % 256
  match code / 256 with
  | 0x02 => if k = 0x11 then c.put FLT_FAULT_F0211 true else if k = 0x30 then c.put FLT_FAULT_F0230 true
            else if k = 0x01 then c.put SYS_CLK_STAT_CLK_FAULT true else c
  | 0x03 => c.putBit PAIR_FAULT_SEEN (k - 1) true
  | 0x04 => c.putBit VOTE_FAULT_SEEN (k - 1) true
  | 0x06 => c.putBit DOM_FAULT_SEEN (k - 1) true
  | 0x09 => c.putBit DOOR_FAULT_SEEN (k - 1) true
  | 0x0A => c.putBit NOS_FAULT_SEEN (k - 1) true
  | 0x0B => c.putBit VMC_FAULT_SEEN (k - 1) true
  | 0x0C => c.putBit (CAN_FAULT_SEEN (k / 16)) (k % 16 - 1) true
  | 0x0D => if k ≤ 2 then c.putBit ETH_FAULT_SEEN (k - 1) true
            else if k = 7 then c.put ETH_FAULT_SEEN7 true else c.putBit TSYN_FAULT_SEEN (k - 3) true
  | 0x0E => if k ≤ 4 then c.putBit WQM_FAULT_SEEN (k - 1) true else c.putBit LEDG_FAULT_SEEN (k - 5) true
  | 0x0F => c.putBit UPD_FAULT_SEEN (k - 1) true
  | 0x10 => c.put CON_FAULT_SEEN true
  | _ => c

/-- Whether a raise falls into a takeover and counts as F0308 (R360): S2 or above between the claim and the end of the first output cycle;
the raises that tell of the takeover itself do not (log 70). -/
def Chip.takeoverFault (c : Chip) (code s : Nat) : Bool :=
  c.pair.taking && decide (2 ≤ s) && !(code ∈ [0x0301, 0x0303, 0x0304, 0x0305, 0x0306, 0x0308, 0x0309, 0x030A, 0x030B])

/-- The chip with a fault raised by a block: its sticky bit, and the raise on its way to the fault manager, one severity higher
(never above S4) while the reset mapped to the block is in progress (R480); a raise during a chip-level reset is lost (R486). -/
def Chip.raiseArg (c : Chip) (code arg detail : Nat) : Chip :=
  let c := c.markSeen code
  if c.sys.held.isSome then c
  else
    let fn := resetFuncOf code arg
    let busy := match fn with | some f => c.bit SYS_FRST_STAT_BUSY f | none => false
    let s := severityOf code arg
    let esc := busy && decide (s < 4)
    let c : Chip := { c with flt := { c.flt with ended := c.flt.ended.filter (fun k => k != code) } }
    if c.takeoverFault code s then
      let c := c.markSeen 0x0308
      { c with flt := { c.flt with inbox := c.flt.inbox ++
          [{ code := 0x0308, at_ := c.now, sev := 5, esc := false, func := none, detail := code }] } }
    else
      { c with flt := { c.flt with inbox := c.flt.inbox ++
          [{ code := code, at_ := c.now, sev := if esc then s + 1 else s, esc := esc, func := fn, detail := detail }] } }

/-- The chip with a fault raised. -/
def Chip.raise (c : Chip) (code : Nat) : Chip := c.raiseArg code 0 0

/-- Whether a fault of a code is in force. -/
def Chip.inForce (c : Chip) (code : Nat) : Bool := c.flt.inForce.any (fun e => e.code == code)

/-- Whether a fault of severity S4 or S5 is in force (R484). -/
def Chip.safeFault (c : Chip) : Bool := c.flt.inForce.any (fun e => decide (4 ≤ e.sev))

/-! ### Ledger records on their way to the ring (R378 to R381, R384) -/

/-- Whether the chip is the standby (PAIR_STAT.ROLE 10). -/
def Chip.isStandby (c : Chip) : Bool := c.get PAIR_STAT_ROLE == 2

/-- Whether the chip is the active (PAIR_STAT.ROLE 01). -/
def Chip.isActive (c : Chip) : Bool := c.get PAIR_STAT_ROLE == 1

/-- Whether accepted work is mirrored: the link is up and a standby is present, one that a resynchronisation is bringing up to date included
(R22, R345, R375). -/
def Chip.mirroring (c : Chip) : Bool :=
  c.is PAIR_STAT_LINK && (!c.is PAIR_STAT_ALONE || c.is WQM_STAT_RESYNC) && c.isActive

/-- The flags byte of a record header (Table 16-8). -/
def Chip.recFlags (c : Chip) : Nat :=
  c.get PAIR_STAT_SIDE + (if c.isStandby then 2 else 0) + (if c.mirroring then 0 else 4)

/-- A record body of 40 bytes from (offset in the record, bytes) pieces; bytes 20 to 59 of the record (R381). -/
def recBody (pieces : List (Nat × List Byte)) : List Byte :=
  pieces.foldl (fun b p => b.take (p.1 - 20) ++ p.2 ++ b.drop (p.1 - 20 + p.2.length)) (List.replicate 40 0)

/-- The chip with one record written: the active numbers it and puts it into the ledger writer's queue, where a record that finds
256 is discarded with its SEQ (R379, R384); a standby sends it to the active, or keeps up to 64 while the link is down. -/
def Chip.record (c : Chip) (type : Nat) (pieces : List (Nat × List Byte)) : Chip :=
  let r : LRec := { type := type, flags := c.recFlags, seq := c.ledg.nextSeq, tb := c.now, qual := c.get TSYN_STAT_QUAL,
                    boot := c.get SYS_BOOT_COUNT_COUNT % 65536, body := recBody pieces }
  if c.isStandby then
    if c.is PAIR_STAT_LINK then { c with ledg := { c.ledg with holdback := c.ledg.holdback ++ [{ r with seq := 0 }] } }
    else if c.ledg.holdback.length < 64 then
      ({ c with ledg := { c.ledg with holdback := c.ledg.holdback ++ [{ r with seq := 0 }] } } : Chip).set LEDG_HOLD_HELD
        (c.ledg.holdback.length + 1)
    else (c.incSat LEDG_HOLD_DISCARDED).raise 0x0E09
  else
    let c' := (({ c with ledg := { c.ledg with nextSeq := (c.ledg.nextSeq + 1) % 2 ^ 48 } } : Chip).set64 LEDG_SEQ_LO_SEQ
      LEDG_SEQ_HI_SEQ ((c.ledg.nextSeq + 1) % 2 ^ 48))
    if c.ledg.queue.length < 256 then { c' with ledg := { c'.ledg with queue := c'.ledg.queue ++ [r] } }
    else (({ c' with ledg := { c'.ledg with lost := satNat 32 (c'.ledg.lost + 1), cellDirty := true } } : Chip).incSat
      LEDG_LOST_N).raise 0x0E07

/-- The FAULT record of Table 16-10: code, severity, flags ([0] raised, [1] cleared, [2] escalated, [3] coalesced), count, detail. -/
def Chip.faultRecord (c : Chip) (code sev flags count detail : Nat) : Chip :=
  c.record 4 [(20, leBytes 2 code), (22, leBytes 1 sev), (23, leBytes 1 flags), (24, leBytes 2 count), (28, leBytes 8 detail),
    (36, leBytes 1 (c.get DOOR_STATUS_STATE))]

/-! ### Console output (R393 to R405) -/

/-- The session names of Table 17-1. -/
def sessName (s : Nat) : String := (["con0", "con1", "tcp0", "tcp1", "tcp2", "tcp3"][s]?).getD "con0"

/-- Whether a session is open. -/
def Chip.sessOpen (c : Chip) (s : Nat) : Bool := c.bit CON_SESS_STAT_OPEN s

/-- Whether a session is in generated mode. -/
def Chip.sessGen (c : Chip) (s : Nat) : Bool := c.bit CON_SESS_STAT_GEN s

/-- The role of a session: 0 view, 1 operate, 2 service. -/
def Chip.sessRole (c : Chip) (s : Nat) : Nat := c.get CON_SESS_STAT_ROLE / 4 ^ s % 4

/-- The chip with the role of a session set. -/
def Chip.setSessRole (c : Chip) (s r : Nat) : Chip := c.set CON_SESS_STAT_ROLE (putBits (c.get CON_SESS_STAT_ROLE) (2 * s) 2 r)

/-- The ASCII bytes of a text. -/
def asciiBytes (s : String) : List Byte := s.toList.map (fun ch => BitVec.ofNat 8 ch.toNat)

/-- One byte through the CRC-16/CCITT-FALSE register: eight steps (R398). -/
def crc16Steps : Nat → Nat → Nat
  | 0, r => r
  | n + 1, r => crc16Steps n (if r / 32768 % 2 = 1 then Nat.xor (r * 2 % 65536) 0x1021 else r * 2 % 65536)

/-- CRC-16/CCITT-FALSE: polynomial 0x1021, initial value 0xFFFF, nothing reflected, no final XOR (R398). -/
def crc16 (bs : List Byte) : Nat := bs.foldl (fun r b => crc16Steps 8 (Nat.xor r (b.toNat * 256))) 0xFFFF

/-- One upper-case hexadecimal digit. -/
def hexDigit (n : Nat) : Char := (['0', '1', '2', '3', '4', '5', '6', '7', '8', '9', 'A', 'B', 'C', 'D', 'E', 'F'][n % 16]?).getD '0'

/-- `k` upper-case hexadecimal digits. -/
def hexStr : Nat → Nat → String
  | 0, _ => ""
  | k + 1, n => (hexStr k (n / 16)).push (hexDigit n)

/-- A generated line: its text, one space and the checksum over the text and that space (R398). -/
def genLine (body : String) : String := body ++ " ;c=" ++ hexStr 4 (crc16 (asciiBytes (body ++ " ")))

/-- The baud rates of CON_UARTn_CFG.BAUD (R389). -/
def baudRate (n : Nat) : Nat := ([9600, 19200, 38400, 57600, 115200, 230400, 460800, 921600][n]?).getD 115200

/-- The chip with one output line of a session: CR LF ends it, and a UART is busy until its last bit has left (R389, R395). -/
def Chip.sendLine (c : Chip) (s : Nat) (text : String) : Chip :=
  let free := match c.sess[s]? with | some x => max x.busyUntil c.now | none => c.now
  let dur := if s < 2 then (text.length + 2) * 10 * 10 ^ 9 / baudRate (c.get (CON_UART_CFG_BAUD s)) else 0
  ({ c with sess := modAt c.sess s (fun x => { x with busyUntil := free + dur }) } : Chip).emit (.line s text)

/-- The chip with the notifications of a session sent that waited for an output line to end, first the count of lost ones (R405). -/
def Chip.flushNotes (c : Chip) (s : Nat) : Chip :=
  match c.sess[s]? with
  | none => c
  | some x =>
    let lostLine := if x.lost = 0 then [] else
      [if c.sessGen s then genLine ("~lost n=" ++ toString x.lost) else "~lost n=" ++ toString x.lost]
    let c' : Chip := { c with sess := modAt c.sess s (fun y => { y with notes := [], lost := 0 }) }
    (x.notes ++ lostLine).foldl (fun k l => k.sendLine s l) c'

/-- The chip with one notification to one session, sent at once between output lines, or queued up to 64 while one leaves; in typed mode the
prompt and the line typed so far are shown again after it (R396, R404, R405). -/
def Chip.notifyOne (c : Chip) (s : Nat) (body : String) : Chip :=
  if c.sessOpen s then
    let l := if c.sessGen s then genLine ("~" ++ body) else "~" ++ body
    match c.sess[s]? with
    | none => c
    | some x =>
      if x.busyUntil ≤ c.now then
        let c := (c.flushNotes s).sendLine s l
        if c.sessGen s || x.typed.isEmpty then c else c.emit (.prompt s x.typed)
      else if x.notes.length < 64 ∧ x.lost = 0 then
        { c with sess := modAt c.sess s (fun y => { y with notes := y.notes ++ [l] }) }
      else { c with sess := modAt c.sess s (fun y => { y with lost := y.lost + 1 }) }
  else c

/-- The kinds of notification a session can turn on and off, as bits of `subs` (Table 17-4). -/
inductive NoteKind where
  | fault | state | pair | adm | update
deriving DecidableEq, Repr

/-- The bit of a kind. -/
def NoteKind.bit : NoteKind → Nat
  | .fault => 0 | .state => 1 | .pair => 2 | .adm => 3 | .update => 4

/-- The chip with one notification of a kind to every open session that has it on (R404). -/
def Chip.notify (c : Chip) (k : NoteKind) (body : String) : Chip :=
  [0, 1, 2, 3, 4, 5].foldl (fun c s =>
    match c.sess[s]? with
    | some x => if bitAt x.subs k.bit then c.notifyOne s body else c
    | none => c) c

/-- The chip with a session's role fallen to view for a reason, and the notification of it (R409, Table 17-4). -/
def Chip.roleFall (c : Chip) (s : Nat) (why : String) : Chip :=
  if c.sessOpen s ∧ c.sessRole s ≠ 0 then (c.setSessRole s 0).notifyOne s ("role role=VIEW why=" ++ why) else c

/-- The name of the pair role (PAIR_STAT.ROLE). -/
def roleName (n : Nat) : String := (["ELECTING", "ACTIVE", "STANDBY", "SAFE"][n]?).getD ""

/-- The name of a health (PAIR_STAT.OWN_HEALTH, PEER_HEALTH). -/
def healthName (n : Nat) : String := (["HEALTHY", "DEGRADED", "UNFIT", "ABSENT"][n]?).getD ""

/-- The pair notification: role, lease holding or peer health has changed (Table 17-4). -/
def Chip.pairNote (c : Chip) : Chip :=
  c.notify .pair ("pair role=" ++ roleName (c.get PAIR_STAT_ROLE) ++ " held=" ++ toString (c.get PAIR_STAT_HELD) ++ " peer=" ++
    healthName (c.get PAIR_STAT_PEER_HEALTH))

/-- What every change of the pair role brings to the sessions (R409). -/
def Chip.pairRoleNote (c : Chip) : Chip := [0, 1, 2, 3, 4, 5].foldl (fun c s => c.roleFall s "pair") c.pairNote

/-- The name of a fault code: F and four hexadecimal digits (R416, R474). -/
def faultName (code : Nat) : String := "F" ++ hexStr 4 code

/-- The chip with a fault notification; a fault of S2 and above is told (Table 17-4). -/
def Chip.notifyFault (c : Chip) (code sev : Nat) (ev : String) (n : Nat) : Chip :=
  if 2 ≤ sev then
    c.notify .fault ("fault f=" ++ faultName code ++ " sev=" ++ toString sev ++ " ev=" ++ ev ++ " n=" ++ toString n)
  else c

/-! ### Clearing a fault (R486) -/

/-- The chip with the highest severity in force shown, and FAULT_N low while an S4 or S5 fault is in force (R484, R487). -/
def Chip.fltShow (c : Chip) : Chip :=
  let top := c.flt.inForce.foldl (fun m e => max m e.sev) 0
  let low := decide (4 ≤ top)
  let c := ((c.set FLT_STAT_MAX_SEV top).set FLT_COUNT_N c.flt.inForce.length).put FLT_STAT_FAULTN low
  { c with pins := { c.pins with faultN := !low } }

/-- The chip with a code no longer in force: a record with the cleared flag, one more coalesced record if raises have coalesced
since the last one, and the notification (R479, R486). -/
def Chip.dropFault (c : Chip) (code : Nat) : Chip :=
  match c.flt.inForce.find? (fun e => e.code == code) with
  | none => c
  | some e =>
    let c : Chip := { c with flt := { c.flt with inForce := c.flt.inForce.filter (fun x => x.code != code) } }
    let c := if 0 < e.since then c.faultRecord code e.sev 8 (satNat 16 e.since) e.detail else c
    ((c.faultRecord code e.sev (if e.esc then 6 else 2) 0 e.detail).notifyFault code e.sev "clr" e.count).fltShow

/-- The chip after the condition of an S2 condition fault has ended (Table 21-5): the fault in force clears; one that is escalated to S3 or
above, or whose raise the manager has not come to, is noted as ended (R486). -/
def Chip.endCondition (c : Chip) (code : Nat) : Chip :=
  let note : Chip → Chip := fun c => { c with flt := { c.flt with ended := code :: c.flt.ended.filter (fun k => k != code) } }
  match c.flt.inForce.find? (fun e => e.code == code) with
  | some e => if e.sev ≤ 2 then c.dropFault code else note c
  | none =>
    if c.flt.inbox.any (fun r => r.code == code) || c.flt.fifo.any (fun h => h.code == code) then note c else c

end Sys2Proof.Machine
end

