-- ==== Sys2Proof/Machine/Operands.lean ====
section
/-! DEFINITION. Shared numeric operands: square root, the sine table of the microsteps, CRC-32, and texts of numbers
(spec/06 R140, spec/07 R155, spec/16 R366, spec/17 R416). -/

namespace Sys2Proof.Machine

/-- Integer square root by bits: the largest `r` with `r * r <= n`, trying bits from `k - 1` down. -/
def isqrtFrom (n : Nat) : Nat → Nat → Nat
  | 0, r => r
  | k + 1, r => isqrtFrom n k (if (r + 2 ^ k) * (r + 2 ^ k) ≤ n then r + 2 ^ k else r)

/-- The integer square root, rounded down, of values below 2^128. -/
def isqrt (n : Nat) : Nat := isqrtFrom n 64 0

/-- Entries 0 to 63 of the built-in table (R140). -/
def sineTable0 : List Nat :=
  [0, 201, 402, 603, 804, 1005, 1206, 1407, 1608, 1809, 2009, 2210, 2410, 2611, 2811, 3012,
   3212, 3412, 3612, 3811, 4011, 4210, 4410, 4609, 4808, 5007, 5205, 5404, 5602, 5800, 5998, 6195,
   6393, 6590, 6786, 6983, 7179, 7375, 7571, 7767, 7962, 8157, 8351, 8545, 8739, 8933, 9126, 9319,
   9512, 9704, 9896, 10087, 10278, 10469, 10659, 10849, 11039, 11228, 11417, 11605, 11793, 11980, 12167, 12353]

/-- Entries 64 to 127 of the built-in table (R140). -/
def sineTable1 : List Nat :=
  [12539, 12725, 12910, 13094, 13279, 13462, 13645, 13828, 14010, 14191, 14372, 14553, 14732, 14912, 15090, 15269,
   15446, 15623, 15800, 15976, 16151, 16325, 16499, 16673, 16846, 17018, 17189, 17360, 17530, 17700, 17869, 18037,
   18204, 18371, 18537, 18703, 18868, 19032, 19195, 19357, 19519, 19680, 19841, 20000, 20159, 20317, 20475, 20631,
   20787, 20942, 21096, 21250, 21403, 21554, 21705, 21856, 22005, 22154, 22301, 22448, 22594, 22739, 22884, 23027]

/-- Entries 128 to 191 of the built-in table (R140). -/
def sineTable2 : List Nat :=
  [23170, 23311, 23452, 23592, 23731, 23870, 24007, 24143, 24279, 24413, 24547, 24680, 24811, 24942, 25072, 25201,
   25329, 25456, 25582, 25708, 25832, 25955, 26077, 26198, 26319, 26438, 26556, 26674, 26790, 26905, 27019, 27133,
   27245, 27356, 27466, 27575, 27683, 27790, 27896, 28001, 28105, 28208, 28310, 28411, 28510, 28609, 28706, 28803,
   28898, 28992, 29085, 29177, 29268, 29358, 29447, 29534, 29621, 29706, 29791, 29874, 29956, 30037, 30117, 30195]

/-- Entries 192 to 255 of the built-in table (R140). -/
def sineTable3 : List Nat :=
  [30273, 30349, 30424, 30498, 30571, 30643, 30714, 30783, 30852, 30919, 30985, 31050, 31113, 31176, 31237, 31297,
   31356, 31414, 31470, 31526, 31580, 31633, 31685, 31736, 31785, 31833, 31880, 31926, 31971, 32014, 32057, 32098,
   32137, 32176, 32213, 32250, 32285, 32318, 32351, 32382, 32412, 32441, 32469, 32495, 32521, 32545, 32567, 32589,
   32609, 32628, 32646, 32663, 32678, 32692, 32705, 32717, 32728, 32737, 32745, 32752, 32757, 32761, 32765, 32766]

/-- The built-in quarter-wave table: 32,767 x sin(pi/2 x i/256) rounded to nearest, i = 0 to 256 (R140). -/
def sineTable : List Nat := sineTable0 ++ sineTable1 ++ sineTable2 ++ sineTable3 ++ [32767]

/-- The built-in quarter-wave magnitude at `i`, 0 to 256. -/
def sineQ (i : Nat) : Nat := (sineTable[i]?).getD 0

/-- `e` of one electrical period folded to the quarter wave: `e mod 512` folded about 256 (R140). -/
def foldQ (e : Nat) : Nat := if e % 512 ≤ 256 then e % 512 else 512 - e % 512

/-- The sine of `n`/65,536 of a turn, in 1/32,767, interpolated linearly between table entries (log 21). -/
def sin65536 (n : Int) : Int :=
  let u : Nat := (n % 65536).toNat
  let q : Nat → Int := fun e => if e % 1024 < 512 then (sineQ (foldQ (e % 1024)) : Int) else -(sineQ (foldQ (e % 1024)) : Int)
  let e := u / 64
  let r : Int := u % 64
  q e + divNear ((q (e + 1) - q e) * r) 64

/-- One step of the reflected CRC-32 register. -/
def crc32Steps : Nat → Nat → Nat
  | 0, r => r
  | n + 1, r => crc32Steps n (if r % 2 = 1 then Nat.xor (r / 2) 0xEDB88320 else r / 2)

/-- CRC-32 (IEEE 802.3): reflected, initial value and final XOR 0xFFFFFFFF (R366, R378). -/
def crc32 (bs : List Byte) : Nat :=
  Nat.xor (bs.foldl (fun r b => crc32Steps 8 (Nat.xor r b.toNat)) 0xFFFFFFFF) 0xFFFFFFFF

/-- A signed decimal text (R416). -/
def intStr (i : Int) : String := if i < 0 then "-" ++ toString i.natAbs else toString i.natAbs

/-- The names of set flags, comma-separated, as one key; nothing when none is set (R416). -/
def flagsStr (fs : List (Bool × String)) : String :=
  match (fs.filter (fun p => p.1)).map (fun p => p.2) with
  | [] => ""
  | l => " flags=" ++ String.intercalate "," l

end Sys2Proof.Machine
end

