-- ==== Sys2Proof/Machine/Accept.lean ====
section
/-! DEFINITION. Acceptance of work: the energy gate of MRAM stores, the journal and the duplicate windows, the mirror's confirmation,
completion, and the replies that acceptance sends (spec/03 R52, R53, spec/14 R317 to R323, spec/16 R362 to R376, spec/17 R398 to R411). -/

namespace Sys2Proof.Machine

/-! ### MRAM stores (R52, Table 03-3) -/

/-- The time of a store in us (Table 03-3). -/
def storeTime : StoreKind → Nat
  | .accept => 8
  | .config => 4096
  | _ => 4

/-- Whether a store may start now: always without a supply warning; under one with twice its energy available (R52). -/
def Chip.gateOpen (c : Chip) (k : StoreKind) : Bool :=
  !c.is SUP_STATUS_WARN || decide (2 * storeTime k * c.get SUP_HOLDUP_CFG1_P_LOAD ≤ 10 * c.get SUP_HOLDUP_E_E_AVAIL_UJ)

/-- Bytes stored in MRAM by the store engine; while work is mirrored the same store goes to the standby in the next MIRROR frame (R368,
R371, R379). -/
def Chip.mram (c : Chip) (a : Nat) (bs : List Byte) : Chip :=
  let c := c.wrBytes a bs
  if c.mirroring then { c with pair := { c.pair with work := c.pair.work ++ [(a, bs)] } } else c

/-- Bytes stored in MRAM that are this chip's own: image slots, configuration copies, state cells, boot pointer cells. -/
def Chip.mramOwn (c : Chip) (a : Nat) (bs : List Byte) : Chip := c.wrBytes a bs

/-- A store that waits under the gate (R53, Table 03-4). -/
def Chip.deferStore (c : Chip) (k : StoreKind) (arg : Nat) (w : List (Nat × List Byte)) : Chip :=
  ({ c with sup := { c.sup with waiting := c.sup.waiting ++ [{ kind := k, since := c.now, writes := w, arg := arg }] } } : Chip).put
    SUP_STATUS_STORE_GATED true

/-! ### Where journal and windows lie (R365, R367) -/

/-- The address of journal slot `n`. -/
def jrnAddr (n : Nat) : Nat := 0x10280000 + 64 * (n % 4096)

/-- The address of place `p` of window set `w`. -/
def winAddr (w p : Nat) : Nat := 0x10300000 + 0x8000 * w + 32 * (p % 1024)

/-- The window set of a source code (Table 16-1). -/
def winSet (source : Nat) : Option Nat :=
  if source = 0 ∨ 16 ≤ source then none else some (source - 1)

/-- The number of a queued operation in the journal's internal form (log 30). -/
def QOp.code : QOp → Nat
  | .doorOpen => 1 | .doorClose => 2 | .doorRelease => 3 | .doorUnrelease => 4 | .doorReset => 5 | .doorIsolate => 6
  | .doorUnisolate => 7 | .post => 8 | .axisStart => 9 | .axisReref => 10 | .curCal => 11 | .curClrofs => 12 | .fbkArm => 13
  | .fbkDisarm => 14 | .fbkCount => 15 | .domArm => 16 | .domDisarm => 17 | .domD4 => 18 | .configApply => 19 | .configSave => 20
  | .tenantStart => 21 | .tenantStop => 22 | .canMode => 23 | .canInit => 24 | .handover => 25 | .ledgerAck => 26 | .updBegin => 27
  | .updVerify => 28 | .updActivate => 29 | .updConfirm => 30 | .updAbort => 31 | .fnReset => 32 | .causeClear => 33
  | .setRelHold => 34 | .faultAck => 35

/-- The operation of a number; a number that names none is a POST. -/
def QOp.ofCode (n : Nat) : QOp :=
  ([QOp.post, .doorOpen, .doorClose, .doorRelease, .doorUnrelease, .doorReset, .doorIsolate, .doorUnisolate, .post, .axisStart,
    .axisReref, .curCal, .curClrofs, .fbkArm, .fbkDisarm, .fbkCount, .domArm, .domDisarm, .domD4, .configApply, .configSave,
    .tenantStart, .tenantStop, .canMode, .canInit, .handover, .ledgerAck, .updBegin, .updVerify, .updActivate, .updConfirm, .updAbort,
    .fnReset, .causeClear, .setRelHold, .faultAck][n]?).getD .post

/-- A path as the journal's internal form holds it, so that a new active answers on it (R374, log 30). -/
def pathCode : Path → Nat
  | .can k => 1 + k
  | .udp ip port => 4 + 256 * port + 2 ^ 24 * ip

/-- The path of such a number; none where it names none. -/
def pathOf (n : Nat) : Option Path :=
  let k := n % 256
  if 1 ≤ k ∧ k ≤ 3 then some (.can (k - 1)) else if k = 4 then some (.udp (n / 2 ^ 24) (n / 256 % 65536)) else none

/-- The command bytes of a journal entry: operation, two operands and a value (log 30). -/
def QCmd.bytes (q : QCmd) : List Byte :=
  leBytes 1 q.op.code ++ leBytes 3 q.a ++ leBytes 4 q.b ++ leBytes 8 q.v ++ List.replicate 4 0

/-- The command of 20 journal bytes. -/
def QCmd.ofBytes (b : List Byte) : QCmd :=
  { op := QOp.ofCode (leAt b 0 1), a := leAt b 1 3, b := leAt b 4 4, v := leAt b 8 8 }

/-- The acceptance part of a journal entry (Table 16-3, bytes 0 to 47). -/
def Entry.accPart (e : Entry) : List Byte :=
  let f := cond e.motion 1 0 + 2 * cond e.unmirrored 1 0 + 4 * cond e.heldAcc 1 0 + 16 * cond e.dual 1 0
  let b := leBytes 1 1 ++ leBytes 1 e.queue ++ leBytes 1 e.source ++ leBytes 1 f ++ leBytes 4 e.qseq ++ leBytes 4 e.key ++
    leBytes 8 e.tAcc ++ leBytes 2 e.boot ++ leBytes 2 16 ++ e.cmd.bytes
  b ++ leBytes 4 (crc32 b)

/-- The completion part of a journal entry (Table 16-3, bytes 48 to 63). -/
def Entry.donePart (e : Entry) : List Byte :=
  let b := leBytes 1 e.cstate ++ leBytes 1 0 ++ leBytes 2 e.ecode ++ leBytes 8 e.tDone
  b ++ leBytes 4 (crc32 b)

/-- A window entry's 32 bytes (Table 16-4). -/
def WinEntry.bytes (w : WinEntry) : List Byte :=
  let b := leBytes 4 w.key ++ leBytes 4 w.pcrc ++ leBytes 1 w.phase ++ leBytes 1 w.queue ++ leBytes 2 w.ecode ++ leBytes 4 w.qseq ++
    sliceBytes w.reply 0 12
  b ++ leBytes 4 (crc32 b)

/-! ### Replies -/

/-- The ACK of Table 14-5. -/
def ackBytes (reqId code phase : Nat) (replay unm held : Bool) (reason ecode : Nat) : List Byte :=
  leBytes 2 reqId ++ leBytes 1 code ++ leBytes 1 (phase + 4 * cond replay 1 0 + 8 * cond unm 1 0 + 16 * cond held 1 0) ++
    leBytes 1 reason ++ leBytes 2 ecode ++ leBytes 1 0

/-- An ACK with REPLAY set (R323). -/
def ackReplay (b : List Byte) : List Byte :=
  b.take 3 ++ leBytes 1 (setBit (leAt b 3 1) 2 true) ++ b.drop 4

/-- Whether the Ethernet host sends: ETHS not in reset, the link of a port up, and an address to send from (R299, R318, R334). -/
def Chip.hostUp (c : Chip) : Bool :=
  !c.bit SYS_FRST_STAT_BUSY 8 && (c.is (ETH_PORT_STAT_LINK 0) || c.is (ETH_PORT_STAT_LINK 1)) &&
    (c.get ETH_IP_ADDR != 0 || c.get VM_DOOR_IP_VALUE != 0)

/-- The chip with a UDP datagram of the message set sent (Table 14-3). -/
def Chip.sendUdp (c : Chip) (ip port code count : Nat) (payload : List Byte) : Chip :=
  if ip ≠ 0 ∧ c.hostUp then
    c.emit (.udp ip port 44100 (leBytes 2 0x5643 ++ leBytes 1 1 ++ leBytes 1 code ++ leBytes 1 (c.get VM_DOOR_ADDR_VALUE) ++
      leBytes 1 count ++ leBytes 2 payload.length ++ payload))
  else c

/-- The chip with a CAN message of the set handed to a controller, on VM_ID_BASE + `k` + DOOR_ADDR (R313, log 31); none while the
controller or its function is in reset, off, in INIT or in MONITOR (R273, R274, R333). -/
def Chip.sendCan (c : Chip) (ctl k : Nat) (data : List Byte) : Chip :=
  if c.bit SYS_FRST_STAT_BUSY (5 + ctl) ∨ ¬ c.is (CAN_CTRL_EN ctl) ∨ c.is (CAN_STAT_INIT_ACK ctl) ∨
      c.get (CAN_CTRL_MODE ctl) = 1 then c
  else c.emit (.can ctl (c.get VM_ID_BASE_VALUE + k + c.get VM_DOOR_ADDR_VALUE) false (decide (8 < data.length)) data)

/-- The chip with an ACK sent on a path (R320). -/
def Chip.sendAck (c : Chip) (p : Path) (ack : List Byte) : Chip :=
  match p with
  | .can ctl => c.sendCan ctl 0x20 ack
  | .udp ip port => c.sendUdp ip port 1 0 ack

/-- The chip with one reply line of a session: the status text after its tag and checksum in generated mode, a prompt after it in typed
mode (Table 17-2). -/
def Chip.reply (c : Chip) (s : Nat) (tag : Option Nat) (text : String) : Chip :=
  match tag with
  | some g => c.sendLine s (genLine ("=" ++ toString g ++ " " ++ text))
  | none =>
    if c.sessGen s then c.sendLine s (genLine ("=? " ++ text)) else (c.sendLine s text).emit (.prompt s [])

/-- The chip with a continuation line of a reply (R400). -/
def Chip.replyMore (c : Chip) (s : Nat) (tag : Option Nat) (text : String) : Chip :=
  match tag with
  | some g => c.sendLine s (genLine ("=" ++ toString g ++ " ok+ " ++ text))
  | none => c.sendLine s ("ok+ " ++ text)

/-- The code of a console error as text: E and the number. -/
def errName (n : Nat) : String := "E" ++ toString n

/-- The acceptance reply of a queued console command (R411). -/
def acceptText (q seq : Nat) (rpl held unm : Bool) : String :=
  "ok" ++ (if rpl then " rpl=1" else "") ++ " acc q=" ++ toString q ++ " seq=" ++ toString seq ++ (if held then " held=1" else "") ++
    (if unm then " unm=1" else "")

/-- The text of a done notification (Table 17-4). -/
def doneText (tag : Option Nat) (q seq ecode : Nat) (note : String) : String :=
  "done" ++ (match tag with | some g => " tag=" ++ toString g | none => "") ++ " q=" ++ toString q ++ " seq=" ++ toString seq ++
    " code=" ++ (if ecode = 0 then "0" else errName ecode) ++ (if note = "" then "" else " " ++ note)

/-! ### Queues and entries -/

/-- The chip with the fill, the held mark and the mirrored mark of the work queues shown (WQM registers). -/
def Chip.wqmShow (c : Chip) (q : Nat) : Chip :=
  let es := c.wqm.entries
  let mine := es.filter (fun e => e.queue == q && e.cstate == 0)
  let c := (c.set (WQM_Q_STAT_FILL q) mine.length).put (WQM_Q_STAT_HELD q)
    (c.is SUP_STATUS_WARN && (match mine with | e :: _ => e.motion && e.visible | [] => false))
  let c := (c.set WQM_STAT_IN_USE es.length).put WQM_STAT_UNMIRRORED (es.any (fun e => e.unmirrored && !e.doneMirrored))
  match es with
  | e :: _ => c.set WQM_JRN_TAIL_SLOT e.slot
  | [] => c.set WQM_JRN_TAIL_SLOT (c.get WQM_JRN_HEAD_SLOT)

/-- The chip with the entry of a journal slot changed. -/
def Chip.setEntry (c : Chip) (slot : Nat) (f : Entry → Entry) : Chip :=
  { c with wqm := { c.wqm with entries := c.wqm.entries.map (fun e => if e.slot = slot then f e else e) } }

/-- The entry of a journal slot. -/
def Chip.entryAt (c : Chip) (slot : Nat) : Option Entry := c.wqm.entries.find? (fun e => e.slot == slot)

/-- The first free journal slot from `n` on, cyclically, among `k` (R365). -/
def freeSlotFrom (es : List Entry) : Nat → Nat → Option Nat
  | 0, _ => none
  | k + 1, n => if es.any (fun e => e.slot == n % 4096) then freeSlotFrom es k (n + 1) else some (n % 4096)

/-- The lowest enabled queue bound to a source (R363). -/
def Chip.queueOf (c : Chip) (source : Nat) : Nat → Option Nat
  | 0 => none
  | n + 1 =>
    match c.queueOf source n with
    | some q => some q
    | none => if c.get (WQM_Q_CFG_SOURCE n) = source ∧ c.is (WQM_Q_CFG_EN n) then some n else none

/-- Whether a command would start a motion, directly or by starting a DOOR phase (R57, Table 03-5); an UNRELEASE starts the close
phase only from OPEN or OPENING (Table 08-3). -/
def Chip.opMotion (c : Chip) : QOp → Bool
  | .doorOpen | .doorClose | .axisStart => true
  | .doorUnrelease => c.get DOOR_STATUS_STATE == 2 || c.get DOOR_STATUS_STATE == 3
  | _ => false

/-- What became of an offered command (R368, R321, Table 16-5). -/
inductive Offered where
  /-- Refused: a reason of Table 14-6 and a console error. -/
  | refused (reason ecode : Nat)
  /-- The key is in the window with an equal CRC: the stored reply is sent again (R323). -/
  | replay (w : WinEntry)
  /-- A copy of a command still being accepted: no reply of its own (R323). -/
  | copy
  /-- Taken up in a journal slot; its reply goes out when acceptance ends. -/
  | taken (slot : Nat)
deriving DecidableEq, Repr

/-- The reply fields stored with a window entry (Table 16-4, R403): an ACK of a vehicle source, status and flags of a console source. -/
def replyFields (e : Entry) (phase : Nat) : List Byte :=
  if e.source ≤ 8 then ackBytes e.key 0 phase false e.unmirrored e.heldAcc 0 e.ecode
  else leBytes 1 (if e.ecode = 0 then 0 else 1) ++ leBytes 1 (cond e.heldAcc 1 0 + 2 * cond e.unmirrored 1 0)

/-- The window entry that belongs to a journal entry (R368, R371). -/
def Entry.window (e : Entry) (set place phase : Nat) : WinEntry :=
  { set := set, place := place, key := e.key, pcrc := e.pcrc, phase := phase, queue := e.queue, ecode := e.ecode, qseq := e.qseq,
    reply := replyFields e phase }

/-- The chip with a window entry in the SRAM index and in MRAM, in place of the one at the same place (R367). -/
def Chip.putWindow (c : Chip) (w : WinEntry) : Chip :=
  let c : Chip := { c with wqm := { c.wqm with
    windows := w :: c.wqm.windows.filter (fun x => !(x.set == w.set && x.place == w.place)) } }
  c.mram (winAddr w.set w.place) w.bytes

/-- The window entry of a key in a set; a void one counts as absent (R370). -/
def Chip.findWindow (c : Chip) (set key : Nat) : Option WinEntry :=
  c.wqm.windows.find? (fun w => w.set == set && w.key == key && w.phase != 3)

/-- The chip with the window entry of a journal entry stored at a phase: in place where the key stands, else at the next place of the
set's ring, over its oldest entry (R367). -/
def Chip.stampWindow (c : Chip) (e : Entry) (phase : Nat) : Chip :=
  match winSet e.source with
  | none => c
  | some set =>
    if e.key = 0 then c
    else
      match c.wqm.windows.find? (fun w => w.set == set && w.key == e.key && w.qseq == e.qseq && w.queue == e.queue) with
      | some w => c.putWindow (e.window set w.place phase)
      | none =>
        let p := lookupD c.wqm.winNext set 0
        let c : Chip := { c with wqm := { c.wqm with winNext := insertD c.wqm.winNext set ((p + 1) % 1024) } }
        c.putWindow (e.window set p phase)

/-- The ACK or acceptance line of an accepted entry, on every path on which it arrived (R320, R323, R411). -/
def Chip.sendAccept (c : Chip) (e : Entry) : Chip :=
  match e.reply with
  | .nobody => c
  | .vehicle ps =>
    let ack := ackBytes e.key 0 0 false e.unmirrored e.heldAcc 0 0
    match ps with
    | [] => c
    | p :: rest => rest.foldl (fun c q => c.sendAck q (ackReplay ack)) (c.sendAck p ack)
  | .session s tag =>
    (List.range e.copies).foldl (fun c _ => c.reply s tag (acceptText e.queue e.qseq true e.heldAcc e.unmirrored))
      (c.reply s tag (acceptText e.queue e.qseq false e.heldAcc e.unmirrored))

/-- Acceptance ends: the entry becomes visible to its executor and its reply is sent (step 6 of R368). -/
def Chip.acceptEnd (c : Chip) (slot : Nat) : Chip :=
  match c.entryAt slot with
  | none => c
  | some e =>
    if e.visible then c
    else
      let c := ((c.setEntry slot (fun e => { e with visible := true })).set (WQM_Q_SEQ_QSEQ e.queue) e.qseq).incWrap WQM_CNT_ACC_N
      (c.sendAccept e).wqmShow e.queue

/-- The store of step 4: journal entry and window entry as one store; with no standby mirrored acceptance ends at once, UNMIRRORED
(R22, R368). -/
def Chip.commit (c : Chip) (slot : Nat) : Chip :=
  let c := c.setEntry slot (fun e => { e with tAcc := c.now, boot := c.get SYS_BOOT_COUNT_COUNT % 65536, stored := true,
                                              unmirrored := !c.mirroring, mirrored := !c.mirroring })
  match c.entryAt slot with
  | none => c
  | some e =>
    let c := (c.mram (jrnAddr slot) (e.accPart ++ e.donePart)).set WQM_JRN_HEAD_SLOT ((slot + 1) % 4096)
    let c := (c.stampWindow e 0).wqmShow e.queue
    if e.mirrored then c.acceptEnd slot else c

/-- A command refused by WQM (R321, Table 16-5). -/
def Chip.refuse (c : Chip) (reason ecode : Nat) : Chip × Offered := (c.incSat WQM_CNT_REF_N, .refused reason ecode)

/-- One path more for a copy of a command still being accepted (R323, R402). -/
def ReplyTo.join (a b : ReplyTo) : ReplyTo :=
  match a, b with
  | .vehicle p, .vehicle q => .vehicle (p ++ q)
  | r, _ => r

/-- A command offered to queue `q`: duplicates, room, the gated store, and acceptance (R368, R369). -/
def Chip.offer (c : Chip) (q source key pcrc : Nat) (motion : Bool) (cmd : QCmd) (reply : ReplyTo) : Chip × Offered :=
  let waiting := c.wqm.entries.find? (fun e => e.source == source && e.key == key && !e.visible && e.cstate == 0)
  let checked := decide (key ≠ 0) && (winSet source).isSome
  match (if checked then waiting else none) with
  | some e =>
    if e.pcrc = pcrc then (c.setEntry e.slot (fun x => { x with dual := true, reply := x.reply.join reply, copies := x.copies + 1 }), .copy)
    else c.refuse 6 506
  | none =>
    match (if checked then c.findWindow ((winSet source).getD 15) key else none) with
    | some w => if w.pcrc = pcrc then (c.incSat WQM_CNT_RPL_N, .replay w) else c.refuse 6 506
    | none =>
      if 256 ≤ (c.wqm.entries.filter (fun e => e.queue == q && e.cstate == 0)).length then c.refuse 3 501
      else
        match freeSlotFrom c.wqm.entries 4096 (c.get WQM_JRN_HEAD_SLOT) with
        | none => (c.raise 0x0E01).refuse 8 502
        | some slot =>
          let last := (c.wqm.entries.filter (fun e => e.queue == q)).foldl (fun m e => if serialNewer 32 e.qseq m then e.qseq else m)
            (c.get (WQM_Q_SEQ_QSEQ q))
          let e : Entry := { slot := slot, queue := q, source := source, motion := motion, unmirrored := false,
                             heldAcc := motion && c.is SUP_STATUS_WARN, dual := false, qseq := (last + 1) % 2 ^ 32, key := key,
                             tAcc := 0, boot := 0, cmd := cmd, cstate := 0, ecode := 0, tDone := 0, pcrc := pcrc, visible := false,
                             stored := false, mirrored := false, doneMirrored := false, taken := false, tArr := c.now, reply := reply }
          let c : Chip := { c with wqm := { c.wqm with entries := c.wqm.entries ++ [e] } }
          if c.gateOpen .accept then (c.commit slot, .taken slot) else (c.deferStore .accept slot [], .taken slot)

/-! ### Completion (R371) -/

/-- The COMPLETE reply of an entry (R320, R411); the completion of a CANS, ETHS or CONS session that is gone reaches nobody (R433). -/
def Chip.sendDone (c : Chip) (e : Entry) (note : String) : Chip :=
  match e.reply with
  | .nobody => c
  | .vehicle ps =>
    let ack := ackBytes e.key 0 2 false e.unmirrored e.heldAcc 0 e.ecode
    match ps with
    | [] => c
    | p :: rest => rest.foldl (fun c q => c.sendAck q (ackReplay ack)) (c.sendAck p ack)
  | .session s tag => c.notifyOne s (doneText tag e.queue e.qseq e.ecode note)

/-- The stores of a completion, then the reply; the slot is free at once with no standby mirrored (R365, R371). -/
def Chip.storeDone (c : Chip) (slot : Nat) (note : String) : Chip :=
  match c.entryAt slot with
  | none => c
  | some e =>
    let c := c.mram (jrnAddr slot + 48) e.donePart
    let c := (c.stampWindow e 2).sendDone e note
    let c := if c.mirroring then c
      else { c with wqm := { c.wqm with entries := c.wqm.entries.filter (fun x => x.slot != slot) } }
    c.wqmShow e.queue

/-- An executor has acted on an entry, or refused it with an error number: COMMAND record, completion part, window entry and COMPLETE
reply (R371, R380). -/
def Chip.complete (c : Chip) (slot ecode : Nat) (note : String) : Chip :=
  match c.entryAt slot with
  | none => c
  | some e0 =>
    if e0.cstate ≠ 0 then c
    else
      let e := { e0 with cstate := 1, ecode := ecode, tDone := c.now }
      let c := (c.setEntry slot (fun _ => e)).set (WQM_Q_DONE_QSEQ e.queue) e.qseq
      let c := if c.is (WQM_Q_CFG_LOG e.queue) ∧ c.is LEDG_CFG_CMD_EN then
          c.record 3 [(20, leBytes 1 e.queue), (21, leBytes 1 e.source), (22, leBytes 2 ecode), (24, leBytes 4 e.qseq),
            (28, leBytes 4 e.key), (32, leBytes 8 e.tAcc), (40, e.cmd.bytes.take 8),
            (48, leBytes 1 (cond e.motion 1 0 + 2 * cond e.unmirrored 1 0 + 4 * cond e.heldAcc 1 0 + 16 * cond e.dual 1 0))]
        else c
      if c.gateOpen .completion then c.storeDone slot note else (c.deferStore .completion slot [(0, asciiBytes note)]).wqmShow e.queue

/-- An entry refused after the commit: CSTATE 2, PHASE 3, and the refusal (R370). -/
def Chip.voidEntry (c : Chip) (slot reason ecode : Nat) : Chip :=
  match c.entryAt slot with
  | none => c
  | some e =>
    let v := { e with cstate := 2, ecode := ecode, tDone := c.now }
    let c := if e.stored then (c.mram (jrnAddr slot + 48) v.donePart).stampWindow v 3 else c
    let c : Chip := { c with
      wqm := { c.wqm with entries := c.wqm.entries.filter (fun x => x.slot != slot) },
      sup := { c.sup with waiting := c.sup.waiting.filter (fun w => !(w.kind == .accept && w.arg == slot)) } }
    let c := c.incSat WQM_CNT_REF_N
    let c := match e.reply with
      | .nobody => c
      | .vehicle ps =>
        let ack := ackBytes e.key 0 1 false false false reason 0
        (match ps with
         | [] => c
         | p :: rest => rest.foldl (fun c q => c.sendAck q (ackReplay ack)) (c.sendAck p ack))
      | .session s tag =>
        (List.range e.copies).foldl (fun c _ => c.reply s tag ("err rpl=1 " ++ errName ecode)) (c.reply s tag ("err " ++ errName ecode))
    c.wqmShow e.queue

/-- The mirror's confirmation of every entry up to a journal index, in order of acceptance (R368 step 6). -/
def Chip.confirmUpTo (c : Chip) (slot : Nat) : Chip :=
  let rec go (c : Chip) : List Entry → Chip
    | [] => c
    | e :: es =>
      let c := if e.stored ∧ e.visible = false then (c.setEntry e.slot (fun x => { x with mirrored := true })).acceptEnd e.slot else c
      if e.slot = slot then c else go c es
  if c.wqm.entries.any (fun e => e.slot == slot) then go c c.wqm.entries else c

/-- Completed entries that the standby holds too leave the journal (R365). -/
def Chip.freeDone (c : Chip) (applied : Nat) : Chip :=
  { c with wqm := { c.wqm with entries := c.wqm.entries.filter (fun e => !(e.cstate == 1 && decide (e.tDone < applied) &&
      !c.sup.waiting.any (fun w => w.kind == .completion && w.arg == e.slot))) } }

/-- Acceptance stores that have waited 2 ms under the gate: the commands are refused with SUPPLY (R53, Table 03-4). -/
def Chip.refuseGated (c : Chip) : Chip :=
  (c.wqm.entries.filter (fun e => !e.stored && decide (2000000 ≤ c.now - e.tArr))).foldl (fun c e => c.voidEntry e.slot 1 504) c

/-- The earliest entry of a queue that no executor has taken (R362). -/
def Chip.queueHead (c : Chip) (q : Nat) : Option Entry :=
  match c.wqm.entries.find? (fun e => e.queue == q && e.cstate == 0 && !e.taken) with
  | some e => if e.visible then some e else none
  | none => none

end Sys2Proof.Machine
end

