-- ==== Sys2Proof/Machine/Session.lean ====
section
/-! DEFINITION. Console sessions: how they open and close (spec/17 R388 to R391, R409). -/

namespace Sys2Proof.Machine

/-- The part's name (R391). -/
def Chip.partName (c : Chip) : String := if c.fuses.partN then "CV-4410N" else "CV-4410"

/-- The side's letter. -/
def Chip.sideName (c : Chip) : String := if c.is SYS_STRAP_SIDE then "B" else "A"

/-- The pair role as `hello` tells it (R391). -/
def Chip.pairWord (c : Chip) : String := (["electing", "active", "standby", "safe"][c.get PAIR_STAT_ROLE]?).getD ""

/-- A session opens: in role view, in its mode, and with the notification hello; a typed one shows its prompt (R388, R391). -/
def Chip.sessOpens (c : Chip) (s : Nat) (x : Sess) : Chip :=
  let gen := decide (2 ≤ s)
  let c : Chip := { c with sess := modAt c.sess s (fun _ => { x with lastLine := c.now }) }
  let c := ((c.putBit CON_SESS_STAT_OPEN s true).putBit CON_SESS_STAT_GEN s gen).setSessRole s 0
  let c := c.notifyOne s ("hello dev=" ++ c.partName ++ " rev=B1 side=" ++ c.sideName ++ " pair=" ++ c.pairWord ++ " sess=" ++ sessName s)
  if gen then c else c.emit (.prompt s [])

/-- A session closes with a reason: what it has not sent is discarded, its role is view (R390, R409). -/
def Chip.sessCloses (c : Chip) (s : Nat) (why : String) : Chip :=
  if c.sessOpen s then
    let c := c.notifyOne s ("bye why=" ++ why)
    let c := ((c.putBit CON_SESS_STAT_OPEN s false).putBit CON_SESS_STAT_GEN s false).setSessRole s 0
    let c : Chip := { c with sess := modAt c.sess s (fun _ => {})
                             wqm := { c.wqm with entries := c.wqm.entries.map (fun e =>
                               match e.reply with | .session k _ => (if k = s then { e with reply := .nobody } else e) | _ => e) } }
    if 2 ≤ s then c.emit (.tcp s false) else c
  else c

/-- Every TCP session closed: by a CONS or ETHS reset (R390). -/
def Chip.tcpClose (c : Chip) (why : String) : Chip := [2, 3, 4, 5].foldl (fun c s => c.sessCloses s why) c

/-- The window set of a session, cleared when a new connection takes it (R367). -/
def Chip.windowClear (c : Chip) (set : Nat) : Chip :=
  let ws := c.wqm.windows.filter (fun w => w.set == set)
  let c := ws.foldl (fun c w => c.mram (winAddr set w.place) (List.replicate 32 0)) c
  { c with wqm := { c.wqm with windows := c.wqm.windows.filter (fun w => w.set != set), winNext := eraseD c.wqm.winNext set } }

/-- con0 and con1 opened: at step 8 of the start-up and after a CONS reset (R388). -/
def Chip.consOpen (c : Chip) : Chip := [0, 1].foldl (fun c s => c.sessOpens s {}) c

/-- TCP_CONNECT: the lowest free session, or a reset where four are open (R388, R390). -/
def Chip.tcpConnect (c : Chip) (ip port : Nat) : Chip :=
  match [2, 3, 4, 5].find? (fun s => !c.sessOpen s) with
  | none => c.emit (.tcp 6 false)
  | some s =>
    if c.hostUp ∧ ¬ c.bit SYS_FRST_STAT_BUSY 9 then ((c.windowClear (s + 8)).emit (.tcp s true)).sessOpens s { peerIp := ip, peerPort := port }
    else c

/-- CON_IDLE_TIMEOUT: no line for CON_IDLE (R390). -/
def Chip.conIdle (c : Chip) (s : Nat) : Chip :=
  match c.sess[s]? with
  | some x =>
    if c.sessOpen s ∧ c.get CON_CFG_CON_IDLE * 1000000000 ≤ c.now - x.lastLine then c.sessCloses s "idle" else c
  | none => c

/-- ROLE_IDLE_TIMEOUT: 15 min in role service without a line (R409). -/
def Chip.roleIdle (c : Chip) (s : Nat) : Chip :=
  match c.sess[s]? with
  | some x => if c.sessRole s = 2 ∧ 900000000000 ≤ c.now - x.lastLine then c.roleFall s "idle" else c
  | none => c

/-- AUTH_LOCK_END: 60 s after three wrong responses (R408). -/
def Chip.authUnlock (c : Chip) (s : Nat) : Chip :=
  match c.sess[s]? with
  | some x =>
    (match x.lockedAt with
     | some a =>
       if 60000000000 ≤ c.now - a then { c with sess := modAt c.sess s (fun y => { y with lockedAt := none, wrong := 0 }) } else c
     | none => c)
  | none => c

end Sys2Proof.Machine
end

