-- ==== Sys2Proof/Machine/Images.lean ====
section
/-! DEFINITION. Images in the QSPI NOR: slots, boot-pointer cells, image containers and signature blocks (spec/20_update_and_service.md
R451 to R454, R462, spec/10_nosora_engine.md R239). -/

namespace Sys2Proof.Machine

/-- One byte of the NOR; an unwritten one reads erased. -/
def Chip.norB (c : Chip) (a : Nat) : Byte := sread (fun _ => 0xFF) c.nor a

/-- `n` bytes of the NOR. -/
def Chip.norBytes (c : Chip) (a : Nat) : Nat → List Byte
  | 0 => []
  | n + 1 => c.norB a :: c.norBytes (a + 1) n

/-- The chip with bytes of the NOR erased and programmed. -/
def Chip.norWrite (c : Chip) (a : Nat) : List Byte → Chip
  | [] => c
  | b :: bs => ({ c with nor := swrite (fun _ => 0xFF) c.nor a b } : Chip).norWrite (a + 1) bs

/-- Slot A of each image (Table 20-1). -/
def imgOfs (k : Nat) : Nat :=
  ([0, 0x00100000, 0x00900000, 0x00940000, 0x01940000, 0x02540000, 0x02640000, 0x02840000, 0x02140000][k]?).getD 0

/-- The NOR offset of a slot of an image: slot B lies 0x0294_0000 above slot A (R451). -/
def slotOfs (k slot : Nat) : Nat := imgOfs k + slot * 0x02940000

/-- The largest image, bytes (Table 20-1). -/
def imgMax (k : Nat) : Nat := 1024 * ([1024, 8192, 256, 16384, 8192, 1024, 2048, 1024, 4096][k]?).getD 0

/-- The key slots accepted for an image (Table 20-1). -/
def imgKeys (k : Nat) : List Nat := if k = 4 then [2, 3] else if k = 8 then [0, 1, 4, 5] else [0, 1]

/-- Whether a slot lies on the device (R451). -/
def Chip.slotPresent (c : Chip) (k slot : Nat) : Bool := decide (slotOfs k slot + imgMax k ≤ c.norSize)

/-! ### Boot-pointer cells (R462, Table 20-4) -/

/-- The address of a boot-pointer cell. -/
def bootAddr (i : Nat) : Nat := 0x102E0000 + 64 * i

/-- SEQ and the nine SEL bytes of a boot-pointer cell, if valid. -/
def Chip.bootCell (c : Chip) (i : Nat) : Option (Nat × List Nat) :=
  let b := c.rdBytes (bootAddr i) 64
  if b.take 4 = [0x43, 0x56, 0x42, 0x50] ∧ leAt b 60 4 = crc32 (b.take 60) then
    some (leAt b 4 4, ((b.drop 8).take 9).map (fun x => x.toNat))
  else none

/-- The cell in use: the valid one of higher SEQ by R8. -/
def Chip.bootCur (c : Chip) : Option (Nat × Nat × List Nat) :=
  match c.bootCell 0, c.bootCell 1 with
  | none, none => none
  | some x, none => some (0, x)
  | none, some y => some (1, y)
  | some x, some y => if serialNewer 32 y.1 x.1 then some (1, y) else some (0, x)

/-- The SEL byte of an image: slot A, no trial, where no cell is valid. -/
def Chip.bootSel (c : Chip) (k : Nat) : Nat :=
  match c.bootCur with
  | some x => (x.2.2[k]?).getD 0
  | none => 0

/-- The address and the bytes of the next cell with a SEL byte changed (R462). -/
def Chip.bootNext (c : Chip) (f : List Nat → List Nat) : Nat × List Byte :=
  let (i, seq, sels) := (c.bootCur).getD (1, 0, List.replicate 9 0)
  let b : List Byte := [0x43, 0x56, 0x42, 0x50] ++ leBytes 4 (seq + 1) ++ (f sels).map (fun n => BitVec.ofNat 8 n) ++ List.replicate 43 0
  (bootAddr (1 - i), b ++ leBytes 4 (crc32 b))

/-! ### Signature blocks (R239, R452) -/

/-- The check of a 136-byte signature block over the bytes before it: 0 passed, 1 signature, 2 key slot. -/
def Chip.sigCause (c : Chip) (slots : List Nat) (body block : List Byte) : Nat :=
  let ks := leAt block 0 1
  if leAt block 1 1 ≠ 1 then 1
  else if ¬ slots.contains ks ∨ ¬ bitAt c.fuses.keyProg ks ∨ bitAt c.fuses.keyRevoked ks ∨
      c.fuses.keys[ks]? ≠ some (beValue (sha256 (sliceBytes block 8 64))) then 2
  else if ecdsaOk (beAt block 8 32) (beAt block 40 32) (beAt block 72 32) (beAt block 104 32) body then 0 else 1

/-- The header of an image container (Table 20-2). -/
structure ImgHdr where
  image : Nat
  flags : Nat
  length : Nat
  version : Nat
  svn : Nat
  minApp : Nat
  proto : Nat
  protoMin : Nat
  build : Nat
deriving DecidableEq, Repr

/-- The header of 64 bytes, where its fixed fields are right. -/
def imgHdr (b : List Byte) : Option ImgHdr :=
  let h : ImgHdr := { image := leAt b 6 1, flags := leAt b 7 1, length := leAt b 8 4, version := leAt b 12 4, svn := leAt b 16 4,
                      minApp := leAt b 20 4, proto := leAt b 24 2, protoMin := leAt b 26 2, build := leAt b 28 8 }
  if b.take 4 = [0x43, 0x56, 0x49, 0x4D] ∧ leAt b 4 2 = 1 ∧ h.flags < 8 ∧ 200 ≤ h.length ∧
      (b.drop 36).take 28 = List.replicate 28 0 ∧ (h.image < 2 ∨ (h.proto = 0 ∧ h.protoMin = 0)) then some h
  else none

/-- Whether the flags of an image permit this part (Table 20-2). -/
def Chip.imgForPart (c : Chip) (h : ImgHdr) : Bool := bitAt h.flags (cond c.fuses.partN 1 0)

/-- The version of the image that the boot pointer selects, from its header or its container (R453). -/
def Chip.imgVersion (c : Chip) (k : Nat) : Nat := leAt (c.norBytes (slotOfs k (c.bootSel k % 2) + 12) 4) 0 4

end Sys2Proof.Machine
end

