-- ==== Sys2Proof/Machine/VisionMem.lean ====
section
/-! DEFINITION. Vision memory: L1 and L2 lines, churn lines, miss merging, whey marks, partitions, the directory of shared regions and the
performance counters (spec/11_vision_memory.md R245 to R267). Offsets are from 0x8000_0000. -/

namespace Sys2Proof.Machine

/-! ### Windows, partitions, slices (R255, R248) -/

/-- The first `n` tenants' window that holds an offset. -/
def Chip.windowOf (c : Chip) (off : Nat) : Nat → Option Nat
  | 0 => none
  | n + 1 =>
    match c.windowOf off n with
    | some k => some k
    | none => if c.get (NOS_TEN_BASE_OFS n) ≤ off ∧ off < c.get (NOS_TEN_BASE_OFS n) + c.get (NOS_TEN_SIZE_SIZE n) then some n else none

/-- The partition that caches an offset: P0 to P3 for the tenants' windows, 4 (PS) otherwise (R255). -/
def Chip.partOf (c : Chip) (off : Nat) : Nat := (c.windowOf off 4).getD 4

/-- The declared LPDDR4X size in bytes (VMC_DDR_CFG.DENSITY). -/
def Chip.ddrSize (c : Chip) : Nat := ([0, 2 ^ 30, 2 ^ 31, 2 ^ 32][c.get VMC_DDR_CFG_DENSITY]?).getD 0

/-- The address of an LPDDR4X offset. -/
def ddrAddr (off : Nat) : Nat := 0x80000000 + off

/-- The slices a partition owns, ascending. -/
def Chip.slices (c : Chip) (p : Nat) : List Nat :=
  [0, 1, 2, 3, 4, 5, 6, 7, 8, 9, 10, 11, 12, 13, 14, 15].filter (fun s => c.bit (VMC_PART_CFG_SLICES p) s)

/-- The bytes of a line of a partition: 128, or 2 KiB in churn-line mode. -/
def Chip.lineSize (c : Chip) (p : Nat) : Nat := if c.is (VMC_PART_CFG_MODE p) then 2048 else 128

/-- The slice and set of an offset in a partition that owns slices (R248). -/
def Chip.place (c : Chip) (p off : Nat) : Nat × Nat :=
  let sl := c.slices p
  let n := max 1 sl.length
  let b := off / 2048
  ((sl[b % n]?).getD 0, if c.is (VMC_PART_CFG_MODE p) then b / n % 16 else (b / n * 16 + off / 128 % 16) % 256)

/-- The shared region that holds an offset, among the first `n` (R257). -/
def Chip.sharedAt (c : Chip) (off : Nat) : Nat → Bool
  | 0 => false
  | n + 1 => c.sharedAt off n || (c.is (VMC_SHR_CFG_EN n) && decide (c.get (VMC_SHR_BASE_OFS n) ≤ off) &&
      decide (off < c.get (VMC_SHR_BASE_OFS n) + c.get (VMC_SHR_SIZE_SIZE n)))

/-! ### Performance counters (R266) -/

/-- The unit of each event (Table 11-9). -/
def pmcUnit (ev : Nat) : Nat := ([64, 4, 4, 4, 4, 1, 128, 128, 16, 16, 1, 64, 4, 4][ev]?).getD 1

/-- `n` occurrences of an event in a scope, counted by every counter that selects them. -/
def Chip.pmc (c : Chip) (ev scope n : Nat) : Chip :=
  [0, 1, 2, 3, 4, 5, 6, 7].foldl (fun c k =>
    if c.get (VMC_PMC_SEL_EVENT k) = ev ∧ ev < 14 ∧ c.get (VMC_PMC_SEL_SCOPE k) = scope then
      let r := (c.vmc.pmcRest[k]?).getD 0 + n
      let v := satNat 48 (c.get64 (VMC_PMC_LO_CNT k) (VMC_PMC_HI_CNT k) + r / pmcUnit ev)
      ({ c with vmc := { c.vmc with pmcRest := modAt c.vmc.pmcRest k (fun _ => r % pmcUnit ev) } } : Chip).set64 (VMC_PMC_LO_CNT k)
        (VMC_PMC_HI_CNT k) v
    else c) c

/-! ### Lines -/

/-- The L2 line that covers an offset, if present. -/
def Chip.l2Line (c : Chip) (off : Nat) : Option L2Line :=
  c.vmc.l2.find? (fun x => decide (x.base ≤ off) && decide (off < x.base + x.data.length))

/-- The chip with the L2 line of a base changed. -/
def Chip.setL2 (c : Chip) (base : Nat) (f : L2Line → L2Line) : Chip :=
  { c with vmc := { c.vmc with l2 := c.vmc.l2.map (fun x => if x.base = base then f x else x) } }

/-- The state of the sector (normal) or of the line (churn) at an offset. -/
def L2Line.stAt (x : L2Line) (off : Nat) : Nat := (x.st[if x.churn then 0 else (off - x.base) / 32]?).getD 0

/-- Whether the line's data at an offset is what a read returns. -/
def L2Line.holds (x : L2Line) (off : Nat) : Bool :=
  if x.churn then
    x.stAt off == 2 || x.stAt off == 3 || (x.stAt off == 1 && bitAt x.mask ((off - x.base) / 32))
  else x.stAt off == 1 || x.stAt off == 2

/-- Bytes of a list replaced from a position on. -/
def patch (l : List Byte) (i : Nat) (bs : List Byte) : List Byte := l.take i ++ bs ++ l.drop (i + bs.length)

/-- One byte as the L2 and LPDDR4X together hold it: the line's data, else a write held for its fill, else LPDDR4X. -/
def Chip.viewB (c : Chip) (off : Nat) : Byte :=
  match c.l2Line off with
  | some x =>
    if x.holds off then (x.data[off - x.base]?).getD 0
    else
      match (c.vmc.mshr.flatMap (fun m => m.reqs)).reverse.find? (fun r => r.wr.isSome && decide (r.off ≤ off) && decide (off < r.off + r.len)) with
      | some r => (((r.wr.getD [])[off - r.off]?).getD 0)
      | none => c.rdB (ddrAddr off)
  | none => c.rdB (ddrAddr off)

/-- `n` bytes as the L2 and LPDDR4X together hold them. -/
def Chip.viewBytes (c : Chip) (off : Nat) : Nat → List Byte
  | 0 => []
  | n + 1 => c.viewB off :: c.viewBytes (off + 1) n

/-- The bytes of an L1 removed, of every line for which `p` holds. -/
def Chip.l1Drop (c : Chip) (p : L1Line → Bool) : Chip := { c with vmc := { c.vmc with l1 := c.vmc.l1.filter (fun x => !p x) } }

/-! ### Directory entries (R257, R258) -/

/-- A directory entry removed. -/
def Chip.dirDrop (c : Chip) (base : Nat) : Chip := { c with vmc := { c.vmc with dir := c.vmc.dir.filter (fun e => e.base != base) } }

/-- The directory entry of a line, U when none is held. -/
def Chip.dirAt (c : Chip) (base : Nat) : DirEnt :=
  (c.vmc.dir.find? (fun e => e.base == base)).getD
    { base := base, st := 0, sharers := 0, trans := 0, acks := 0, reqs := [], since := 0 }

/-- The chip with a directory entry set. -/
def Chip.setDir (c : Chip) (e : DirEnt) : Chip :=
  let c := c.dirDrop e.base
  if e.st = 0 ∧ e.trans = 0 then c else { c with vmc := { c.vmc with dir := c.vmc.dir ++ [e] } }

/-- Messages of a home slice to the agents of a mask. -/
def Chip.toAgents (c : Chip) (msg mask base : Nat) : Chip :=
  [0, 1, 2, 3, 4].foldl (fun c a => if bitAt mask a then (c.pmc 11 (c.partOf base) 1).emit (.coherence msg a base) else c) c

/-- The eviction of a shared line begins at its home: Inv to every sharer, or Recall of an M copy; the line stays in its transient state until
they have answered (Table 11-5). Request kind 3 stands for the eviction. -/
def Chip.evictAsk (c : Chip) (base : Nat) : Chip :=
  let e := c.dirAt base
  let r : DirReq := { kind := 3, who := 4, off := base, bytes := [] }
  if e.st = 2 then (c.toAgents 1 16 base).setDir { e with trans := 2, acks := 16, reqs := [r], since := c.now }
  else (c.toAgents 0 e.sharers base).setDir { e with trans := 1, acks := e.sharers, reqs := [r], since := c.now }

/-! ### Write-back and eviction -/

/-- The sharers of a 128-byte line invalidated before a flush: Inv to each, and their L1 copies dropped (R257). -/
def Chip.dirEvict (c : Chip) (base : Nat) : Chip :=
  match c.vmc.dir.find? (fun e => e.base == base) with
  | none => c
  | some e =>
    let c := [0, 1, 2, 3, 4].foldl (fun c a =>
      if bitAt e.sharers a then ((c.pmc 11 (c.partOf base) 1).emit (.coherence 0 a base)).l1Drop (fun x => x.clu == a && x.base == base)
      else c) c
    c.dirDrop base

/-- The write-back of a line's dirty data to LPDDR4X (Tables 11-1, 11-2). -/
def Chip.writeBack (c : Chip) (x : L2Line) : Chip :=
  if x.churn then
    let s := x.stAt x.base
    if s = 1 then
      let c := (List.range 64).foldl (fun c g => if bitAt x.mask g then c.wrBytes (ddrAddr (x.base + 32 * g)) ((x.data.drop (32 * g)).take 32) else c) c
      (c.pmc 6 x.part (32 * ((List.range 64).filter (fun g => !bitAt x.mask g)).length)).pmc 7 x.part 2048
    else if s = 3 then (c.wrBytes (ddrAddr x.base) x.data).pmc 7 x.part 2048
    else c
  else
    [0, 1, 2, 3].foldl (fun c i =>
      if (x.st[i]?).getD 0 = 2 then (c.wrBytes (ddrAddr (x.base + 32 * i)) ((x.data.drop (32 * i)).take 32)).pmc 7 x.part 32 else c) c

/-- The clean states of a line after a write-back: dirty becomes clean; an assembling line was filled. -/
def L2Line.cleaned (x : L2Line) (fill : List Byte) : L2Line :=
  if x.churn then (if x.stAt x.base = 1 ∨ x.stAt x.base = 3 then { x with st := [2], mask := 0, data := fill } else x)
  else { x with st := x.st.map (fun s => if s = 2 then 1 else s) }

/-- The chip without the L2 line of a base. -/
def Chip.l2Remove (c : Chip) (base : Nat) : Chip := { c with vmc := { c.vmc with l2 := c.vmc.l2.filter (fun x => x.base != base) } }

/-- A line evicted: sharers invalidated, dirty data written back, line removed. -/
def Chip.l2Evict (c : Chip) (x : L2Line) : Chip := ((c.dirEvict x.base).writeBack x).l2Remove x.base

/-- Whether a line has a pending fill. -/
def L2Line.filling (x : L2Line) : Bool := if x.churn then x.st == [4] else x.st.contains 3

/-- The line of an offset allocated with no valid sector; the victim of a full set is a line not in F, chosen by pseudo-LRU, whose tree the spec
does not give (R251, log 12). False where the request has to wait: every way is in F or in a transient state, or the victim is a shared line
whose sharers are now asked to drop it (R257). -/
def Chip.l2Alloc (c : Chip) (p off : Nat) : Chip × Bool :=
  let (slice, set) := c.place p off
  let size := c.lineSize p
  let mine := c.vmc.l2.filter (fun x => x.slice == slice && x.set == set && x.part == p)
  let fresh : Nat → L2Line := fun w =>
    { part := p, slice := slice, set := set, way := w, base := off / size * size, churn := c.is (VMC_PART_CFG_MODE p),
      st := if c.is (VMC_PART_CFG_MODE p) then [0] else [0, 0, 0, 0], mask := 0, data := List.replicate size 0 }
  match (List.range 16).find? (fun w => !mine.any (fun x => x.way == w)) with
  | some w => ({ c with vmc := { c.vmc with l2 := c.vmc.l2 ++ [fresh w] } }, true)
  | none =>
    let cand := mine.filter (fun x => !x.filling && !c.vmc.dir.any (fun e => e.base == x.base && e.trans != 0))
    match cand[Config.victimWay c.free % (max 1 cand.length)]? with
    | none => (c, false)
    | some v =>
      if (c.dirAt v.base).st ≠ 0 then ((c.evictAsk v.base).tickFree, false)
      else
        let c := (c.l2Evict v).tickFree
        ({ c with vmc := { c.vmc with l2 := c.vmc.l2 ++ [fresh v.way] } }, true)

/-- Bytes cut at 32-byte boundaries. -/
def cut32 : Nat → Nat → List Byte → List (Nat × List Byte)
  | 0, _, _ => []
  | k + 1, off, bs =>
    if bs = [] then [] else
      let n := 32 - off % 32
      (off, bs.take n) :: cut32 k (off + n) (bs.drop n)

/-- One piece inside a 32-byte granule written into a present line, without a miss: the rest of a granule or sector that is not valid comes
from LPDDR4X (Tables 11-1, 11-2). -/
def Chip.lineWrite (c : Chip) (x : L2Line) (off : Nat) (bs : List Byte) : Chip :=
  let g := (off - x.base) / 32
  let data := if x.holds off then x.data else patch x.data (32 * g) (c.rdBytes (ddrAddr (x.base + 32 * g)) 32)
  let data := patch data (off - x.base) bs
  if x.churn then
    let m := setBit x.mask g true
    let assembling := x.stAt off == 0 || x.stAt off == 1
    let st := if assembling && m != 2 ^ 64 - 1 then [1] else [3]
    c.setL2 x.base (fun y => { y with data := data, st := st, mask := cond assembling m x.mask })
  else c.setL2 x.base (fun y => { y with data := data, st := modAt x.st g (fun _ => 2) })

/-- One piece written to the L2 at once: into its line, into the write buffer of a pending fill, or straight to LPDDR4X where the partition
owns no slice or no way is free at once (R249, R250, R255). -/
def Chip.putPiece (c : Chip) (off : Nat) (bs : List Byte) : Chip :=
  let p := c.partOf off
  if c.slices p = [] then (c.wrBytes (ddrAddr off) bs).pmc 7 p 32
  else
    match c.l2Line off with
    | some x =>
      if x.stAt off = (if x.churn then 4 else 3) then
        { c with vmc := { c.vmc with mshr := c.vmc.mshr.map (fun m =>
            if m.base = x.base then { m with reqs := m.reqs ++ [{ agent := 5, off := off, len := bs.length, wr := some bs }] } else m) } }
      else c.lineWrite x off bs
    | none =>
      let (c, ok) := c.l2Alloc p off
      match (if ok then c.l2Line off else none) with
      | some x => c.lineWrite x off bs
      | none => (c.wrBytes (ddrAddr off) bs).pmc 7 p 32

/-- Bytes written to the L2 at once; beyond the declared density they are refused with F0B07 (R255). -/
def Chip.l2Put (c : Chip) (off : Nat) (bs : List Byte) : Chip :=
  if c.ddrSize < off + bs.length then c.raiseArg 0x0B07 0 off
  else (cut32 (bs.length + 1) off bs).foldl (fun c p => c.putPiece p.1 p.2) c

/-! ### L1 (R245 to R247) -/

/-- The L1 of a cluster invalidated at the start of a job (R246). -/
def Chip.l1Clear (c : Chip) (clu : Nat) : Chip := c.l1Drop (fun x => x.clu == clu)

/-- The L1 line of a cluster at an offset. -/
def Chip.l1Line (c : Chip) (clu off : Nat) : Option L1Line := c.vmc.l1.find? (fun x => x.clu == clu && x.base == off / 128 * 128)

/-- The chip with one L1 sector set: state and, where given, data. A full set loses a line with no sector in F (R245, log 12). -/
def Chip.l1Set (c : Chip) (clu off st : Nat) (data : Option (List Byte)) : Chip :=
  let base := off / 128 * 128
  let i := (off - base) / 32
  let upd : L1Line → L1Line := fun x =>
    { x with st := modAt x.st i (fun _ => st), data := match data with | some d => patch x.data (32 * i) d | none => x.data }
  match c.l1Line clu off with
  | some _ => { c with vmc := { c.vmc with l1 := c.vmc.l1.map (fun x => if x.clu = clu ∧ x.base = base then upd x else x) } }
  | none =>
    let set := base / 128 % 256
    let mine := c.vmc.l1.filter (fun x => x.clu == clu && x.base / 128 % 256 == set)
    let cand := mine.filter (fun x => !x.st.contains 2)
    let c := if mine.length < 8 then c
      else match cand[Config.victimWay c.free % (max 1 cand.length)]? with
        | some v => (c.l1Drop (fun x => x.clu == clu && x.base == v.base)).tickFree
        | none => c
    { c with vmc := { c.vmc with l1 := c.vmc.l1 ++ [upd { clu := clu, base := base, st := [0, 0, 0, 0], data := List.replicate 128 0 }] } }

/-- The 32-byte sectors an access touches: their offsets. -/
def sectorsOf (off len : Nat) : List Nat :=
  (List.range ((off % 32 + max 1 len + 31) / 32)).map (fun i => off / 32 * 32 + 32 * i)

/-- Data delivered to a requester: a cluster's L1 sectors become V (R245, R252). -/
def Chip.deliver (c : Chip) (r : L2Req) : Chip :=
  if 4 ≤ r.agent ∨ r.wr.isSome then c
  else (sectorsOf r.off r.len).foldl (fun c o => c.l1Set r.agent o 1 (some (c.viewBytes o 32))) c

/-! ### Misses (R252) -/

/-- The mask of the sectors of a line that an access touches. -/
def sectMask (base off len : Nat) : Nat := (sectorsOf off len).foldl (fun m o => setBit m ((o - base) / 32) true) 0

/-- The sectors of a mask put into F. -/
def Chip.l2Fill (c : Chip) (base mask : Nat) : Chip :=
  c.setL2 base (fun x => if x.churn then { x with st := [4] }
    else { x with st := (List.range 4).map (fun i => if bitAt mask i then 3 else (x.st[i]?).getD 0) })

/-- A request that misses: it takes an MSHR, merges into one, waits in the replay queue, or waits at the slice input (R252). A fill counts as
issued from the instant after its MSHR was taken (log 33). -/
def Chip.l2Miss (c : Chip) (p : Nat) (r : L2Req) : Chip :=
  let (slice, _) := c.place p r.off
  let base := r.off / c.lineSize p * c.lineSize p
  match c.vmc.mshr.find? (fun m => m.base == base) with
  | some m =>
    if m.reqs.length < 8 then
      let want := sectMask base r.off r.len
      let new := match c.l2Line r.off with
        | some x => (List.range 64).foldl (fun n i => if bitAt want i ∧ x.churn = false ∧ (x.st[i]?).getD 1 = 0 then setBit n i true else n) 0
        | none => 0
      let c := (c.l2Fill base new).pmc 2 p 1
      let c := if new = 0 then c else c
      { c with vmc := { c.vmc with mshr := c.vmc.mshr.map (fun y => if y.base = base then
          (if y.at_ = c.now then { y with fill := Nat.lor y.fill new, reqs := y.reqs ++ [r] }
           else { y with second := Nat.lor y.second new, reqs := y.reqs ++ [r] }) else y) } }
    else if (c.vmc.replay.filter (fun q => (c.place (c.partOf q.off) q.off).1 == slice)).length < 16 then
      { c with vmc := { c.vmc with replay := c.vmc.replay ++ [r] } }
    else { c with vmc := { c.vmc with held := c.vmc.held ++ [r] } }
  | none =>
    if 16 ≤ (c.vmc.mshr.filter (fun m => m.slice == slice)).length then { c with vmc := { c.vmc with held := c.vmc.held ++ [r] } }
    else
      let (c, ok) := match c.l2Line r.off with | some _ => (c, true) | none => c.l2Alloc p r.off
      if ok = false then { c with vmc := { c.vmc with held := c.vmc.held ++ [r] } }
      else
        let want := sectMask base r.off r.len
        let need := match c.l2Line r.off with
          | some x => if x.churn then 1 else (List.range 4).foldl (fun n i => if bitAt want i ∧ (x.st[i]?).getD 1 = 0 then setBit n i true else n) 0
          | none => want
        let c := (c.l2Fill base need).pmc 1 p 1
        { c with vmc := { c.vmc with mshr := c.vmc.mshr ++
          [{ slice := slice, base := base, at_ := c.now, fill := need, second := 0, reqs := [r], drop := false }] } }

/-- A refused access: F0B07, and a bus error for the application complex (R255, R259). -/
def Chip.vmcRefuse (c : Chip) (agent off : Nat) : Chip :=
  let c := c.raiseArg 0x0B07 0 off
  if agent = 4 then { c with resp := some none } else c

/-- One request at the L2 (R249, R250, R255, R259). -/
def Chip.l2Access (c : Chip) (r : L2Req) : Chip :=
  let p := c.partOf r.off
  if c.ddrSize < r.off + max 1 r.len then c.vmcRefuse r.agent r.off
  else if r.agent = 4 ∧ p < 4 ∧ c.sharedAt r.off 4 = false then
    if c.is (NOS_TEN_STAT_RUNNING p) then c.vmcRefuse 4 r.off
    else
      match r.wr with
      | some bs => c.wrBytes (ddrAddr r.off) bs
      | none => c
  else
    let c := c.pmc 0 p 1
    let c := match r.wr with
      | some bs => if r.agent < 4 then
          (cut32 (bs.length + 1) r.off bs).foldl (fun c q =>
            match c.l1Line r.agent q.1 with
            | some x => if (x.st[q.1 % 128 / 32]?).getD 0 = 1 then
                c.l1Set r.agent q.1 1 (some (patch ((x.data.drop (q.1 % 128 / 32 * 32)).take 32) (q.1 % 32) q.2)) else c
            | none => c) c
        else c
      | none => c
    match r.wr with
    | some bs =>
      (cut32 (bs.length + 1) r.off bs).foldl (fun c q =>
        let whole := q.2.length == 32
        match c.l2Line q.1 with
        | some x =>
          if x.churn = false ∧ x.stAt q.1 = 0 ∧ whole = false ∧ c.slices p ≠ [] then
            c.l2Miss p { agent := r.agent, off := q.1, len := q.2.length, wr := some q.2 }
          else c.putPiece q.1 q.2
        | none =>
          if c.is (VMC_PART_CFG_MODE p) = false ∧ whole = false ∧ c.slices p ≠ [] then
            c.l2Miss p { agent := r.agent, off := q.1, len := q.2.length, wr := some q.2 }
          else c.putPiece q.1 q.2) c
    | none =>
      if c.slices p = [] then c.deliver r
      else
        match c.l2Line r.off with
        | some x =>
          if (sectorsOf r.off r.len).all (fun o => x.holds o) then c.deliver r
          else if x.churn ∧ x.stAt r.off = 1 then
            let d := (List.range 64).foldl (fun d g => if bitAt x.mask g then d else patch d (32 * g) (c.rdBytes (ddrAddr (x.base + 32 * g)) 32)) x.data
            let c := c.pmc 6 p (32 * ((List.range 64).filter (fun g => !bitAt x.mask g)).length)
            (c.setL2 x.base (fun y => { y with data := d, st := [3], mask := 0 })).deliver r
          else c.l2Miss p r
        | none => c.l2Miss p r

/-- The requests held at the input of a slice run again (R252). -/
def Chip.runHeld (c : Chip) (slice : Nat) : Chip :=
  let mine := c.vmc.held.filter (fun r => (c.place (c.partOf r.off) r.off).1 == slice)
  let c : Chip := { c with vmc := { c.vmc with held := c.vmc.held.filter (fun r => !mine.contains r) } }
  mine.foldl (fun c r => c.l2Access r) c

/-- A fill arrives: its sectors become V, every merged requester is served, a second fill goes on, and at the end merged writes are applied,
a whey drop that waited acts, and replays and held requests run (R252, R254). -/
def Chip.fillDone (c : Chip) (off : Nat) : Chip :=
  match c.vmc.mshr.find? (fun m => decide (m.base ≤ off) && decide (off < m.base + c.lineSize (c.partOf m.base))) with
  | none => c
  | some m =>
    let p := c.partOf m.base
    let slice := m.slice
    let full := decide (16 ≤ (c.vmc.mshr.filter (fun y => y.slice == slice)).length)
    let last := (c.vmc.mshr.filter (fun y => y.slice == slice)).foldl (fun t y => max t y.at_) 0
    let c := c.setL2 m.base (fun x =>
      if x.churn then { x with st := [2], data := c.rdBytes (ddrAddr x.base) 2048 }
      else { x with
        data := [0, 1, 2, 3].foldl (fun d i => if bitAt m.fill i then patch d (32 * i) (c.rdBytes (ddrAddr (x.base + 32 * i)) 32) else d) x.data,
        st := (List.range 4).map (fun i => if bitAt m.fill i ∧ (x.st[i]?).getD 0 = 3 then 1 else (x.st[i]?).getD 0) })
    let bytes := if c.is (VMC_PART_CFG_MODE p) then 2048 else 32 * ((List.range 4).filter (fun i => bitAt m.fill i)).length
    let c := c.pmc 6 p bytes
    let c := if 2 ≤ (m.reqs.filter (fun r => r.wr.isNone)).length then c.pmc 3 p 1 else c
    let served := m.reqs.filter (fun r => r.wr.isNone && (match c.l2Line r.off with
      | some x => (sectorsOf r.off r.len).all (fun o => x.holds o) | none => true))
    let c := served.foldl (fun c r => c.deliver r) c
    if m.second ≠ 0 then
      { c with vmc := { c.vmc with mshr := c.vmc.mshr.map (fun y =>
        if y.base = m.base then { y with fill := m.second, second := 0, reqs := m.reqs.filter (fun r => !served.contains r) } else y) } }
    else
      let c : Chip := { c with vmc := { c.vmc with mshr := c.vmc.mshr.filter (fun y => y.base != m.base) } }
      let c := if full then c.pmc 5 p ((c.now - last) / 4) else c
      let c := m.reqs.foldl (fun c r => match r.wr with
        | some bs => (match c.l2Line r.off with | some x => c.lineWrite x r.off bs | none => c)
        | none => c) c
      let c := if m.drop then (c.l2Remove m.base).pmc 8 p 1 else c
      let mineR := c.vmc.replay.filter (fun r => decide (m.base ≤ r.off) && decide (r.off < m.base + c.lineSize p))
      let c : Chip := { c with vmc := { c.vmc with replay := c.vmc.replay.filter (fun r => !mineR.contains r) } }
      let c := mineR.foldl (fun c r => (c.pmc 4 p 1).l2Access r) c
      c.runHeld slice

/-! ### Whey marks and partitions (R253 to R256) -/

/-- The lines of a partition that lie wholly inside an extent are dropped, with the cluster's L1 copies (R253, R254). -/
def Chip.wheyDrop (c : Chip) (clu p lo hi : Nat) : Chip :=
  let inside := c.vmc.l2.filter (fun x => x.part == p && decide (lo ≤ x.base) && decide (x.base + x.data.length ≤ hi + 1))
  let c := inside.foldl (fun c x =>
    if x.filling then { c with vmc := { c.vmc with mshr := c.vmc.mshr.map (fun m => if m.base = x.base then { m with drop := true } else m) } }
    else if c.sharedAt x.base 4 then c.pmc 10 p 1
    else
      let d := if x.churn then (if x.st = [1] ∨ x.st = [3] then 1 else 0) else (x.st.filter (fun s => s == 2)).length
      ((c.l2Remove x.base).pmc 8 p 1).pmc 9 p d) c
  c.l1Drop (fun y => y.clu == clu && inside.any (fun x => decide (x.base ≤ y.base) && decide (y.base + 128 ≤ x.base + x.data.length) &&
    !c.sharedAt x.base 4))

/-- Whether a partition is idle: Pn while TEN_EN bit n is 0, PS while NOS is off (R256). -/
def Chip.partIdle (c : Chip) (p : Nat) : Bool := if p < 4 then !c.bit NOS_CTRL_TEN_EN p else !c.is NOS_CTRL_ENABLE

/-- Every dirty line of a partition written back; the lines stay, clean (VMC_CMD OP 01). -/
def Chip.partClean (c : Chip) (p : Nat) : Chip :=
  (c.vmc.l2.filter (fun x => x.part == p)).foldl (fun c x =>
    let c := c.writeBack x
    c.setL2 x.base (fun y => y.cleaned (c.rdBytes (ddrAddr x.base) x.data.length))) c

/-- Every line of a partition written back and invalidated (R256, VMC_CMD OP 10). -/
def Chip.partFlush (c : Chip) (p : Nat) : Chip :=
  let ls := c.vmc.l2.filter (fun x => x.part == p)
  let c := ls.foldl (fun c x => c.l2Evict x) c
  { c with vmc := { c.vmc with mshr := c.vmc.mshr.filter (fun m => !ls.any (fun x => x.base == m.base)) } }

/-- Every line of a partition invalidated without write-back (R264, R265). -/
def Chip.partDrop (c : Chip) (p : Nat) : Chip :=
  let ls := c.vmc.l2.filter (fun x => x.part == p)
  { c with vmc := { c.vmc with
      l2 := c.vmc.l2.filter (fun x => x.part != p),
      mshr := c.vmc.mshr.filter (fun m => !ls.any (fun x => x.base == m.base)),
      replay := c.vmc.replay.filter (fun r => c.partOf r.off != p),
      held := c.vmc.held.filter (fun r => c.partOf r.off != p) } }

/-- The dirty lines of the shared regions written back, their sharers invalidated, and APP's modified copies recalled: their data are written back
when APP returns them (Table 11-7). `ten` names one tenant's regions or all. -/
def Chip.sharedFlush (c : Chip) (ten : Option Nat) : Chip :=
  let mine : Nat → Bool := fun base => c.sharedAt base 4 && (match ten with | some n => c.partOf base == n | none => true)
  let c := (c.vmc.l2.filter (fun x => mine x.base)).foldl (fun c x => c.writeBack x) c
  (c.vmc.dir.filter (fun e => mine e.base)).foldl (fun c e => if e.st = 2 then c.evictAsk e.base else c.dirEvict e.base) c

/-- A write to VMC_PARTp_CFG of an idle partition: write back, invalidate, apply (R256). -/
def Chip.partReconfig (c : Chip) (p v : Nat) : Chip :=
  if c.partIdle p then
    let c := c.partFlush p
    let c := (c.set (VMC_PART_CFG_SLICES p) (bitsOf v 0 16)).set (VMC_PART_CFG_MODE p) (bitsOf v 16 1)
    c.set (VMC_PART_STAT_NSLICE p) (c.slices p).length
  else c.put VMC_STAT_WR_ERR true

/-! ### Directory (R257, R258) -/

/-- The line of a shared region present in the L2, filled at once (R257: the L2 is inclusive of every copy). -/
def Chip.dirLine (c : Chip) (base : Nat) : Chip :=
  let p := c.partOf base
  let c := match c.l2Line base with | some _ => c | none => (c.l2Alloc p base).1
  match c.l2Line base with
  | some x => c.setL2 base (fun y => { y with
      data := [0, 1, 2, 3].foldl (fun d i => if (x.st[i]?).getD 0 = 0 then patch d (32 * i) (c.rdBytes (ddrAddr (base + 32 * i)) 32) else d) y.data,
      st := y.st.map (fun s => if s = 0 then 1 else s) })
  | none => c

/-- One request of a line in a stable state, or its eviction (kind 3): the transition of Table 11-5; a transient state keeps the request first in the entry. -/
def Chip.dirServe (c : Chip) (base : Nat) (r : DirReq) : Chip :=
  let e := c.dirAt base
  let held : Bool := if r.who < 4 then (c.l1Line r.who base).isSome else bitAt e.sharers 4
  if r.kind = 3 then
    if e.st ≠ 0 then c.evictAsk base
    else match c.l2Line base with
      | some x => (c.l2Evict x).runHeld x.slice
      | none => c
  else if e.st = 2 ∧ r.kind ≠ 2 then
    (c.toAgents 1 16 base).setDir { e with trans := 2, acks := 16, reqs := [r], since := c.now }
  else if r.kind = 0 then
    let c := c.dirLine base
    let c := if r.who < 4 then c.deliver { agent := r.who, off := base, len := 128, wr := none } else c
    c.setDir { e with st := 1, sharers := setBit e.sharers r.who true, reqs := [] }
  else if r.kind = 1 then
    let others := setBit e.sharers r.who false
    let c := (c.toAgents 0 others base).l2Access { agent := r.who, off := r.off, len := r.bytes.length, wr := some r.bytes }
    if e.st = 0 then c
    else if held then c.setDir { e with st := 1, sharers := 2 ^ r.who, reqs := [] } else c.setDir { e with st := 0, sharers := 0, reqs := [] }
  else
    let clus := e.sharers % 16
    if e.st = 1 ∧ clus ≠ 0 then
      (c.toAgents 0 clus base).setDir { e with trans := 1, acks := clus, reqs := [r], since := c.now }
    else (c.dirLine base).setDir { e with st := 2, sharers := 16, reqs := [] }

/-- Requests of a line served in order until one leaves it in a transient state (R258). -/
def Chip.dirRun (c : Chip) (base : Nat) : List DirReq → Chip
  | [] => c
  | r :: rs =>
    if (c.dirAt base).trans ≠ 0 then c.setDir { c.dirAt base with reqs := (c.dirAt base).reqs ++ (r :: rs) }
    else (c.dirServe base r).dirRun base rs

/-- A request reaches its home slice (R258). -/
def Chip.dirRequest (c : Chip) (r : DirReq) : Chip :=
  if c.sharedAt r.off 4 then c.dirRun (r.off / 128 * 128) [r] else c

/-- The transient state of a line ends; the request in progress completes and the waiting ones follow (R258). -/
def Chip.dirEnd (c : Chip) (base st sharers : Nat) : Chip :=
  let e := c.dirAt base
  (c.setDir { e with st := st, sharers := sharers, trans := 0, acks := 0, reqs := [] }).dirRun base e.reqs

/-! ### The commands -/

/-- L2 errors found by an access: 1 an L1 parity error is refetched, 2 a single-bit error is corrected, 3 an uncorrectable error (R247, R265);
dirty data lost is answered true. -/
def Chip.l2Ecc (c : Chip) (agent off ecc : Nat) : Chip × Bool :=
  let p := c.partOf off
  if ecc = 1 then (if (c.l1Line agent off).isSome then ((c.l1Set agent off 0 none).raise 0x0B01, false) else (c, false))
  else if ecc = 2 then ((c.set VMC_ECC_CORR (satNat 16 (c.get VMC_ECC_CORR + 1))).raise 0x0B02, false)
  else if ecc = 3 then
    match c.l2Line off with
    | some x =>
      if (if x.churn then x.st == [1] || x.st == [3] else x.stAt off == 2) then ((c.incSat VMC_ECC_F0B04).raiseArg 0x0B04 0 p, true)
      else (((c.incSat VMC_ECC_F0B03).raise 0x0B03).setL2 x.base (fun y =>
        if y.churn then (if y.st = [2] then { y with st := [0] } else y) else { y with st := modAt y.st ((off - y.base) / 32) (fun s => if s = 1 then 0 else s) }), false)
    | none => (c, false)
  else (c, false)

/-- A read cut at the boundary of a 128-byte line: a request concerns one line (R252). -/
def cutLine (off len : Nat) : List (Nat × Nat) :=
  if off % 128 + len ≤ 128 then [(off, len)] else [(off, 128 - off % 128), (off / 128 * 128 + 128, len - (128 - off % 128))]

/-- Sectors gathered into runs inside one 128-byte line: offset and bytes. -/
def sectorRuns (os : List Nat) : List (Nat × Nat) :=
  (os.foldl (fun (rs : List (Nat × Nat)) o => match rs with
    | (a, n) :: rest => if a + n = o ∧ a / 128 = o / 128 then (a, n + 32) :: rest else (o, 32) :: rs
    | [] => [(o, 32)]) []).reverse

/-- A read by an agent; a cluster's L1 answers what it holds and waits for what is on its way, and only the sectors that miss are fetched (R245,
R249). -/
def Chip.agentRead (c : Chip) (agent off len : Nat) : Chip :=
  if c.ddrSize < off + max 1 len then c.vmcRefuse agent off
  else if agent < 4 then
    let need := (sectorsOf off len).filter (fun o => match c.l1Line agent o with
      | some x => (x.st[o % 128 / 32]?).getD 0 == 0 | none => true)
    let hits := (sectorsOf off len).length - need.length
    let c := (c.pmc 12 agent hits).pmc 13 agent need.length
    (sectorRuns need).foldl (fun c q =>
      if c.sharedAt q.1 4 then c.dirRequest { kind := 0, who := agent, off := q.1, bytes := [] }
      else
        let c := (sectorsOf q.1 q.2).foldl (fun c o => c.l1Set agent o 2 none) c
        c.l2Access { agent := agent, off := q.1, len := q.2, wr := none }) c
  else (cutLine off len).foldl (fun c q => c.l2Access { agent := agent, off := q.1, len := q.2, wr := none }) c

/-- GETS (R258). -/
def execGetS (t : Nat) (who : Fin 5) (off : Nat) (s : State) : Host.Outcome State Fault Refusal :=
  run .app t (fun c => c.dirRequest { kind := 0, who := who, off := off, bytes := [] }) s

/-- WT (R258): 1 to 32 bytes. -/
def execWt (t : Nat) (who : Fin 4) (off : Nat) (bytes : List Byte) (s : State) : Host.Outcome State Fault Refusal :=
  run .app t (fun c => if bytes.length = 0 ∨ 32 < bytes.length then c else c.dirRequest { kind := 1, who := who, off := off, bytes := bytes }) s

/-- GETM (R258). -/
def execGetM (t : Nat) (off : Nat) (s : State) : Host.Outcome State Fault Refusal :=
  run .app t (fun c => c.dirRequest { kind := 2, who := 4, off := off, bytes := [] }) s

/-- PUTM (R258): APP writes back its modified copy and holds none; while a Recall is on its way the data answers it. -/
def execPutM (t : Nat) (off : Nat) (bytes : List Byte) (s : State) : Host.Outcome State Fault Refusal :=
  run .app t (fun c =>
    let base := off / 128 * 128
    let e := c.dirAt base
    if e.st = 2 then
      let c := (c.endCondition 0x0B08).l2Put base (sliceBytes bytes 0 128)
      if e.trans = 2 then c.dirEnd base 0 0 else c.setDir { e with st := 0, sharers := 0 }
    else c) s

/-- INV (R258): the agent drops its copy. -/
def execInv (t : Nat) (who : Fin 5) (off : Nat) (s : State) : Host.Outcome State Fault Refusal :=
  run .app t (fun c => c.l1Drop (fun x => x.clu == who.val && x.base == off / 128 * 128)) s

/-- INVACK (R258): the transient state ends when every ack has arrived. -/
def execInvAck (t : Nat) (who : Fin 5) (off : Nat) (s : State) : Host.Outcome State Fault Refusal :=
  run .app t (fun c =>
    let base := off / 128 * 128
    let e := c.dirAt base
    if e.trans = 1 then
      let acks := setBit e.acks who false
      let c := if who = 4 then c.endCondition 0x0B08 else c
      let out := match e.reqs with | r :: _ => r.kind == 3 | [] => false
      if acks = 0 then (if out then c.dirEnd base 0 0 else c.dirEnd base (if e.sharers / 16 % 2 = 1 then 1 else 0) (e.sharers / 16 % 2 * 16))
      else c.setDir { e with acks := acks }
    else c) s

/-- RECALL (R258): APP returns its modified data and drops its copy; the data reaches home as RecallData. -/
def execRecall (t : Nat) (off : Nat) (s : State) : Host.Outcome State Fault Refusal :=
  run .app t (fun c =>
    let base := off / 128 * 128
    if (c.dirAt base).trans = 2 then c.emit (.coherence 2 5 base) else c) s

/-- RECALLDATA (R258): the data goes into the L2 as D and the pending request completes; after a GetS APP stays a sharer (Table 11-5). -/
def execRecallData (t : Nat) (off : Nat) (bytes : List Byte) (s : State) : Host.Outcome State Fault Refusal :=
  run .app t (fun c =>
    let base := off / 128 * 128
    let e := c.dirAt base
    if e.trans = 2 then
      let c := (c.endCondition 0x0B08).l2Put base (sliceBytes bytes 0 128)
      let getS := match e.reqs with | r :: _ => r.kind == 0 | [] => false
      if getS then c.dirEnd base 1 16 else c.dirEnd base 0 0
    else c) s

/-- APP_COHERENCE_TIMEOUT (R258): unanswered for 10 us; the line stays in its transient state. -/
def execAppCoherenceTimeout (t : Nat) (off : Nat) (s : State) : Host.Outcome State Fault Refusal :=
  run .app t (fun c =>
    let e := c.dirAt (off / 128 * 128)
    if e.trans ≠ 0 ∧ bitAt e.acks 4 ∧ 10000 ≤ c.now - e.since then c.raiseArg 0x0B08 0 off else c) s

/-- FILL_COMPLETE (R252). -/
def execFillComplete (t : Nat) (off : Nat) (s : State) : Host.Outcome State Fault Refusal :=
  run .app t (fun c => c.fillDone off) s

/-- PARTITION_RECONFIG (R256). -/
def execPartitionReconfig (t : Nat) (p : Fin 5) (v : Word) (s : State) : Host.Outcome State Fault Refusal :=
  run .app t (fun c => c.partReconfig p v.toNat) s

/-- VMC_WRITE_BACK (R267): only while the partition is idle. -/
def execVmcWriteBack (t : Nat) (p : Fin 5) (s : State) : Host.Outcome State Fault Refusal :=
  run .app t (fun c => if c.partIdle p then c.partClean p else c) s

/-- VMC_WRITE_BACK_INVALIDATE (R267): only while the partition is idle. -/
def execVmcWriteBackInvalidate (t : Nat) (p : Fin 5) (s : State) : Host.Outcome State Fault Refusal :=
  run .app t (fun c => if c.partIdle p then c.partFlush p else c) s

/-- A write of VMC_PMC_SELk: EVENT and SCOPE, and with CLR set the counter cleared (R266). -/
def Chip.pmcSelWrite (c : Chip) (k v : Nat) : Chip :=
  let c := (c.set (VMC_PMC_SEL_EVENT k) (bitsOf v 0 4)).set (VMC_PMC_SEL_SCOPE k) (bitsOf v 4 3)
  if bitAt v 8 then
    ({ c with vmc := { c.vmc with pmcRest := modAt c.vmc.pmcRest k (fun _ => 0) } } : Chip).set64 (VMC_PMC_LO_CNT k) (VMC_PMC_HI_CNT k) 0
  else c

/-- PMC_CLEAR (R266). -/
def execPmcClear (t : Nat) (k : Fin 8) (v : Word) (s : State) : Host.Outcome State Fault Refusal :=
  run .app t (fun c => c.pmcSelWrite k v.toNat) s

end Sys2Proof.Machine
end

