-- ==== Sys2Proof/Machine/Nosora.lean ====
section
/-! DEFINITION. The Nosora engine: tenant containers and their checks, stripe jobs, the twelve layer operations, and the occupancy grid
(spec/10_nosora_engine.md R224 to R244, spec/11_vision_memory.md R246, R253, R261, R265). -/

namespace Sys2Proof.Machine

/-! ### Descriptors (R232, R233) -/

/-- One operand of a descriptor (Table 10-3). -/
structure Opd where
  addr : Nat
  h : Nat
  w : Nat
  c : Nat
  zp : Nat
  flags : Nat
deriving DecidableEq, Repr

/-- Operand `i` of a descriptor: 0 IN0, 1 IN1, 2 OUT. -/
def opdOf (d : List Byte) (i : Nat) : Opd :=
  let o := 8 + 12 * i
  { addr := leAt d o 4, h := leAt d (o + 4) 2, w := leAt d (o + 6) 2, c := leAt d (o + 8) 2, zp := leAt d (o + 10) 1, flags := leAt d (o + 11) 1 }

/-- The U8 flag of an operand. -/
def Opd.u8 (o : Opd) : Bool := bitAt o.flags 0

/-- The RING flag of an operand. -/
def Opd.ring (o : Opd) : Bool := bitAt o.flags 1

/-- The WHEY flag of an operand. -/
def Opd.whey (o : Opd) : Bool := bitAt o.flags 2

/-- STRIDE: W x C rounded up to a multiple of 32 bytes (R233). -/
def Opd.stride (o : Opd) : Nat := (o.w * o.c + 31) / 32 * 32

/-- The bytes from ADDR to the operand's last byte. -/
def Opd.extent (o : Opd) : Nat := (o.h - 1) * o.stride + o.w * o.c

/-- The value of a stored byte: unsigned with U8, else signed. -/
def Opd.value (o : Opd) (b : Byte) : Int := if o.u8 then (b.toNat : Int) else b.toInt

/-- The zero point as a value. -/
def Opd.zero (o : Opd) : Int := if o.u8 then (o.zp : Int) else signedOf 8 o.zp

/-- A value limited to the element range of an operand (R234). -/
def Opd.sat (o : Opd) (v : Int) : Byte :=
  if o.u8 then BitVec.ofInt 8 (max 0 (min 255 v)) else BitVec.ofInt 8 (max (-128) (min 127 v))

/-- Whether the operation writes its result unchanged (Table 10-4). -/
def isDirect (op func : Nat) : Bool := op = 6 || op = 7 || op = 8 || op = 11 || (op = 5 && func = 2)

/-- Whether the operation reads IN1. -/
def usesIn1 (op : Nat) : Bool := op = 0 || op = 1 || op = 3 || op = 4 || op = 7 || op = 8 || op = 9

/-- The bytes of PARAM that the operation uses: positions 44 to 63. -/
def paramUsed (op func : Nat) : List Nat :=
  match op with
  | 0 | 1 => [44, 45, 46, 47, 48, 49, 50, 51, 52, 53, 54, 55]
  | 2 => [44, 45, 46, 47, 48, 49, 50, 51, 52]
  | 3 => [44, 45, 46, 47]
  | 5 => if func = 0 then [44] else if func = 1 then [44, 45, 46] else [44, 48, 49, 50, 51]
  | 6 | 7 | 9 => [44]
  | 8 => [44, 45]
  | 10 => [44, 45, 48, 49, 50, 51]
  | 11 => [44, 45, 46, 47]
  | _ => []

/-- A 4-bit field of byte `i` of a descriptor, the high half where `hi`. -/
def nib (d : List Byte) (i : Nat) (hi : Bool) : Nat := if hi then leAt d i 1 / 16 else leAt d i 1 % 16

/-- The output size of a window along one axis (R236); none where the window does not fit. -/
def winOut (n p0 p1 dil k s : Nat) : Option Nat :=
  if n + p0 + p1 < dil * (k - 1) + 1 ∨ s = 0 then none else some ((n + p0 + p1 - dil * (k - 1) - 1) / s + 1)

/-- Whether the window parameters are in range and give the output shape (Table 10-5, R236). -/
def winOk (d : List Byte) (a o : Opd) : Bool :=
  let kh := leAt d 44 1
  let kw := leAt d 45 1
  let rng : Nat → Nat → Nat → Bool := fun lo hi x => decide (lo ≤ x) && decide (x ≤ hi)
  rng 1 15 kh && rng 1 15 kw && rng 1 4 (nib d 46 false) && rng 1 4 (nib d 46 true) && rng 1 4 (nib d 47 false) &&
    rng 1 4 (nib d 47 true) && rng 0 7 (leAt d 48 1) && rng 0 7 (leAt d 49 1) && rng 0 7 (leAt d 50 1) && rng 0 7 (leAt d 51 1) &&
    winOut a.h (leAt d 48 1) (leAt d 49 1) (nib d 47 false) kh (nib d 46 false) == some o.h &&
    winOut a.w (leAt d 50 1) (leAt d 51 1) (nib d 47 true) kw (nib d 46 true) == some o.w

/-- Whether an operand's sizes are 1 to 4,096 and its flags legal for the place (Table 10-3). -/
def opdOk (o : Opd) (i : Nat) : Bool :=
  decide (1 ≤ o.h) && decide (o.h ≤ 4096) && decide (1 ≤ o.w) && decide (o.w ≤ 4096) && decide (1 ≤ o.c) && decide (o.c ≤ 4096) &&
    (!o.ring || (i == 0 && o.c == 1 && o.u8 && !o.whey)) && (!o.whey || i != 2)

/-- Whether an operand lies in a window of a size (R231, R233). -/
def opdIn (o : Opd) (size : Nat) : Bool :=
  if o.ring then decide (o.addr < 65536) else o.addr % 32 == 0 && decide (o.addr + o.extent ≤ size)

/-- Whether the shapes of a descriptor agree (Table 10-4, R236). -/
def shapeOk (d : List Byte) (op : Nat) (a b o : Opd) : Bool :=
  let same := o.h == a.h && o.w == a.w && o.c == a.c
  let bc : Nat → Nat → Bool := fun x y => y == x || y == 1
  match op with
  | 0 => winOk d a o && !b.u8 && b.zp == 0 && b.h == o.c && b.w == leAt d 44 1 * leAt d 45 1 && b.c == a.c &&
      decide (leAt d 44 1 * leAt d 45 1 * a.c ≤ 65536)
  | 1 => winOk d a o && !b.u8 && b.zp == 0 && b.h == 1 && b.w == leAt d 44 1 * leAt d 45 1 && b.c == a.c && o.c == a.c
  | 2 => winOk d a o && o.c == a.c && decide (leAt d 52 1 ≤ 1)
  | 3 | 4 => same && bc a.h b.h && bc a.w b.w && bc a.c b.c
  | 5 => same && decide (leAt d 44 1 ≤ 2)
  | 6 => o.c == a.c && decide (leAt d 44 1 ≤ 1)
  | 7 => b.zp == a.zp && b.u8 == a.u8 &&
      (if leAt d 44 1 = 0 then b.h == a.h && b.w == a.w && o.h == a.h && o.w == a.w && o.c == a.c + b.c
       else leAt d 44 1 == 1 && b.w == a.w && b.c == a.c && o.w == a.w && o.c == a.c && o.h == a.h + b.h)
  | 8 => b.u8 && b.h == o.h && b.w == o.w && b.c == 4 && o.c == a.c && decide (leAt d 45 1 ≤ 1)
  | 9 => same && b.h == a.h && b.w == a.w && b.c == a.c && decide (leAt d 44 1 ≤ 1)
  | 10 => decide (1 ≤ leAt d 44 2) && decide (leAt d 44 2 ≤ 1024) && o.h == 1 && o.w == leAt d 44 2 && o.c == a.c
  | _ => same

/-- The tables a descriptor reads in the window: offset and bytes (Tables 10-4, 10-5). -/
def tablesOf (d : List Byte) (op : Nat) (o : Opd) : List (Nat × Nat) :=
  if (op = 0 ∨ op = 1) ∧ leAt d 52 4 ≠ 0xFFFFFFFF then [(leAt d 52 4, 4 * o.c)]
  else if op = 5 ∧ leAt d 44 1 = 2 then [(leAt d 48 4, 256)]
  else if op = 10 then [(leAt d 48 4, 8 * leAt d 44 2)]
  else []

/-- The check of one descriptor of a tenant with a window of a size: 0 passed, else the cause of LOADERR: 5 OP, 6 shape, 7 address, 8
reserved field (R229, R231 to R237). -/
def descCause (ten size : Nat) (d : List Byte) : Nat :=
  let op := leAt d 0 1 % 16
  let grid := bitAt (leAt d 0 1) 5
  let a := opdOf d 0
  let b := opdOf d 1
  let o := opdOf d 2
  let dir := isDirect op (leAt d 44 1)
  if 11 < op then 5
  else if grid ∧ ten ≠ 1 ∧ ten ≠ 2 then 5
  else if 64 ≤ leAt d 0 1 ∨ 64 ≤ leAt d 3 1 ∨ leAt d 6 2 ≠ 0 ∨ 8 ≤ a.flags ∨ 8 ≤ b.flags ∨ 8 ≤ o.flags ∨
      (grid = false ∧ leAt d 1 2 ≠ 0) ∨ (usesIn1 op = false ∧ (d.drop 20).take 12 ≠ List.replicate 12 0) ∨
      ((List.range 20).any (fun i => !(paramUsed op (leAt d 44 1)).contains (44 + i) && leAt d (44 + i) 1 != 0)) then 8
  else if (dir ∧ (leAt d 3 3 ≠ 0 ∨ o.zp ≠ a.zp ∨ o.u8 ≠ a.u8)) ∨ (dir = false ∧ (leAt d 4 2 = 0 ∨ 47 < leAt d 3 1)) ∨
      opdOk a 0 = false ∨ (usesIn1 op ∧ opdOk b 1 = false) ∨ opdOk o 2 = false ∨ shapeOk d op a b o = false ∨
      (grid ∧ (17 < leAt d 1 1 ∨ leAt d 2 1 = 0 ∨ 18 < leAt d 1 1 + leAt d 2 1 ∨ o.h ≠ leAt d 2 1 ∨ o.w ≠ 32 ∨ o.c ≠ 1 ∨ o.u8 = false ∨
        o.addr ≠ 0)) then 6
  else if opdIn a size = false ∨ (usesIn1 op ∧ opdIn b size = false) ∨ (grid = false ∧ opdIn o size = false) ∨
      (tablesOf d op o).any (fun t => decide (size < t.1 + t.2)) then 7
  else 0

/-! ### Containers (R238 to R240) -/

/-- A section of a container: type, bytes, destination, CRC. -/
structure Section where
  type : Nat
  bytes : List Byte
  dest : Nat
  crc : Nat
  /-- Its reserved bytes are 0, it starts at a multiple of 64 and lies before the signature block. -/
  ok : Bool
deriving DecidableEq, Repr

/-- Section `i` of a container of `len` bytes. -/
def sectionOf (b : List Byte) (len i : Nat) : Section :=
  let e := 64 + 24 * i
  let ofs := leAt b (e + 4) 4
  let n := leAt b (e + 8) 4
  { type := leAt b e 1, bytes := (b.drop ofs).take n, dest := leAt b (e + 12) 4, crc := leAt b (e + 16) 4,
    ok := leAt b (e + 1) 3 == 0 && leAt b (e + 20) 4 == 0 && ofs % 64 == 0 && decide (ofs + n + 136 ≤ len) &&
      (leAt b e 1 == 3 || leAt b (e + 12) 4 == 0) }

/-- A job table entry (Table 10-6). -/
def jobDef (b : List Byte) (i : Nat) : JobDef :=
  let o := 16 * i
  { cam := leAt b o 1, dep := leAt b (o + 1) 1, first := leAt b (o + 2) 2, count := leAt b (o + 4) 2, span := leAt b (o + 6) 2,
    wcet := leAt b (o + 8) 4 }

/-- What a container that passed its checks gives: the tenant, PROG_VER, LMAX_US. -/
structure Loaded where
  ten : Tenant
  ver : Nat
  lmax : Nat
deriving DecidableEq, Repr

/-- The 64-byte descriptor `i`. -/
def descAt (ds : List Byte) (i : Nat) : List Byte := (ds.drop (64 * i)).take 64

/-- The checks of R240 on the container at the head of `b` for tenant `n`: what it gives, or (cause, section entry, index) of LOADERR. `depOk`
tells whether a T0 job index exists. -/
def Chip.container (c : Chip) (n : Nat) (depOk : Nat → Bool) (b : List Byte) : Except (Nat × Nat × Nat) Loaded :=
  let len := leAt b 8 4
  let ns := leAt b 7 1
  if b.take 4 ≠ [0x4E, 0x53, 0x52, 0x41] ∨ leAt b 4 2 ≠ 1 ∨ leAt b 6 1 ≠ n ∨ ns < 2 ∨ 8 < ns ∨ len < 200 + 24 * ns ∨ b.length < len ∨
      leAt b 32 4 = 0 ∨ 1000 < leAt b 32 4 ∨ (b.drop 36).take 28 ≠ List.replicate 28 0 then .error (4, 0, 0)
  else
    let body := b.take (len - 136)
    let sig := c.sigCause (if n < 2 then imgKeys 3 else if n = 2 then imgKeys 4 else imgKeys 8) body ((b.drop (len - 136)).take 136)
    let secs := (List.range ns).map (fun i => sectionOf b len i)
    if sig ≠ 0 then .error (sig, 0, 0)
    else
      match (List.range ns).find? (fun i => match secs[i]? with
        | some s => !s.ok || s.type == 0 || decide (3 < s.type) | none => true) with
      | some i => .error (4, i, 0)
      | none =>
        match (List.range ns).find? (fun i => match secs[i]? with | some s => decide (crc32 s.bytes ≠ s.crc) | none => true) with
        | some i => .error (3, i, 0)
        | none =>
          let ds := secs.filter (fun s => s.type == 1)
          let js := secs.filter (fun s => s.type == 2)
          let cs := secs.filter (fun s => s.type == 3)
          let descs := (ds.map (fun s => s.bytes)).headD []
          let jobsB := (js.map (fun s => s.bytes)).headD []
          let nd := descs.length / 64
          let nj := jobsB.length / 16
          let jobs := (List.range nj).map (jobDef jobsB)
          let size := c.get (NOS_TEN_SIZE_SIZE n)
          let pos : Nat → Nat := fun ty => (List.range ns).foldl (fun m i => match secs[i]? with
            | some s => if s.type = ty then i else m | none => m) 0
          if ds.length ≠ 1 ∨ js.length ≠ 1 ∨ descs.length % 64 ≠ 0 ∨ 4096 < nd ∨ jobsB.length % 16 ≠ 0 ∨ 64 < nj then .error (4, 0, 0)
          else if size < leAt b 28 4 then .error (10, 0, 0)
          else if cs.any (fun s => decide (size < s.dest + s.bytes.length)) then .error (7, pos 3, 0)
          else if c.imgVersion 3 < leAt b 16 4 then .error (11, 0, 0)
          else
            match (List.range nd).find? (fun i => decide (descCause n size (descAt descs i) ≠ 0)) with
            | some i => .error (descCause n size (descAt descs i), pos 1, i)
            | none =>
              match (List.range nj).find? (fun i => match jobs[i]? with
                | some j => decide (1 < j.cam) || decide (nd < j.first + j.count) || j.count == 0 ||
                    leAt jobsB (16 * i + 12) 4 != 0 || (j.dep != 0xFF && (n == 0 || !depOk j.dep)) ||
                    !bitAt (leAt (descAt descs (j.first + j.count - 1)) 0 1) 4
                | none => true) with
              | some i => .error (9, pos 2, i)
              | none => .ok { ten := { descs := descs, jobs := jobs, consts := cs.map (fun s => (s.dest, s.bytes)) },
                              ver := leAt b 12 4, lmax := leAt b 32 4 }

/-- Tenant `n` of NOS. -/
def Chip.tenant (c : Chip) (n : Nat) : Tenant := (c.nos.tens[n]?).getD {}

/-- The NOR offset of a tenant's container in the slots that the boot pointer selects: T0 and T1 follow one another in the body of NOSF (log 34). -/
def Chip.containerAt (c : Chip) (n : Nat) : Nat :=
  let nosf := slotOfs 3 (c.bootSel 3 % 2) + 64
  let len0 := leAt (c.norBytes (nosf + 8) 4) 0 4
  match n with
  | 0 => nosf
  | 1 => nosf + (len0 + 63) / 64 * 64
  | 2 => slotOfs 4 (c.bootSel 4 % 2)
  | _ => slotOfs 8 (c.bootSel 8 % 2)

/-- The check of the container at a NOR offset; its header tells how many bytes to read (R240). -/
def Chip.containerCheck (c : Chip) (n at_ : Nat) : Except (Nat × Nat × Nat) Loaded :=
  let head := c.norBytes at_ 64
  let depOk : Nat → Bool := fun d => decide (d < (c.tenant 0).jobs.length)
  if head.take 4 ≠ [0x4E, 0x53, 0x52, 0x41] ∨ 16777216 < leAt head 8 4 then .error (4, 0, 0)
  else c.container n depOk (c.norBytes at_ (leAt head 8 4))

/-- The chip with a tenant's load shown: LOADED, JOBS, VER, LMAX, or LOADERR with F0A09 (R240, R244). -/
def Chip.loadTenant (c : Chip) (n : Nat) : Chip :=
  match c.containerCheck n (c.containerAt n) with
  | .ok l =>
    let c : Chip := { c with nos := { c.nos with tens := modAt c.nos.tens n (fun _ => l.ten) } }
    let c := ((((((c.put (NOS_TEN_STAT_LOADED n) true).set (NOS_TEN_STAT_JOBS n) l.ten.jobs.length).set (NOS_TEN_VER_VER n) l.ver).set
      (NOS_TEN_LMAX_LMAX n) l.lmax).set (NOS_TEN_LOADERR_CAUSE n) 0).set (NOS_TEN_LOADERR_SECTION n) 0 |>.set
      (NOS_TEN_LOADERR_INDEX n) 0).putBit NOS_STAT_LOADED n true
    if [0, 1, 2, 3].all (fun k => c.get (NOS_TEN_LOADERR_CAUSE k) == 0) then c.endCondition 0x0A09 else c
  | .error e =>
    let c : Chip := { c with nos := { c.nos with tens := modAt c.nos.tens n (fun _ => {}) } }
    ((((((c.put (NOS_TEN_STAT_LOADED n) false).set (NOS_TEN_STAT_JOBS n) 0).set (NOS_TEN_LOADERR_CAUSE n) e.1).set
      (NOS_TEN_LOADERR_SECTION n) e.2.1).set (NOS_TEN_LOADERR_INDEX n) e.2.2).putBit NOS_STAT_LOADED n false).raiseArg 0x0A09 0 n

/-- The CONST sections of a tenant written to its window (R240, R259, R265). -/
def Chip.loadConsts (c : Chip) (n : Nat) : Chip :=
  (c.tenant n).consts.foldl (fun c s => c.wrBytes (ddrAddr (c.get (NOS_TEN_BASE_OFS n) + s.1)) s.2) c

/-- A tenant starts running: it is loaded and enabled, and NOS runs. -/
def Chip.tenantStart (c : Chip) (n : Nat) : Chip :=
  if c.is NOS_STAT_RUNNING ∧ c.is (NOS_TEN_STAT_LOADED n) ∧ c.bit NOS_CTRL_TEN_EN n ∧ ¬ c.is (NOS_TEN_STAT_RUNNING n) then
    (((c.loadConsts n).put (NOS_TEN_STAT_RUNNING n) true).putBit NOS_STAT_RUNNING_T n true)
  else c

/-! ### Jobs (R225 to R228) -/

/-- The definition of a job instance. -/
def Chip.jobOf (c : Chip) (r : JobRun) : JobDef :=
  ((c.tenant r.ten).jobs[r.idx]?).getD { cam := 0, dep := 0xFF, first := 0, count := 0, span := 0, wcet := 0 }

/-- Whether two job instances are the same one. -/
def JobRun.same (a b : JobRun) : Bool := a.seq == b.seq

/-- The chip with a job instance changed. -/
def Chip.setRun (c : Chip) (r : JobRun) (f : JobRun → JobRun) : Chip :=
  { c with nos := { c.nos with runs := c.nos.runs.map (fun x => if x.same r then f x else x) } }

/-- The chip without a job instance; a pending start of the same job becomes running. -/
def Chip.dropRun (c : Chip) (r : JobRun) : Chip :=
  { c with nos := { c.nos with runs := (c.nos.runs.filter (fun x => !x.same r)).map (fun x =>
      if x.ten = r.ten ∧ x.idx = r.idx ∧ r.pend = false then { x with pend := false } else x) } }

/-- The end of a T0 instance remembered for its dependents (R227). -/
def Chip.noteT0 (c : Chip) (r : JobRun) (done : Bool) : Chip :=
  if r.ten = 0 then { c with nos := { c.nos with t0 := ((r.idx, r.cam, r.fidx, r.l, done, r.bad) :: c.nos.t0).take 64 } } else c

/-- A T1, T2 or T3 job abandoned for its dependency: F0A06, DEP_ABANDON (R227). -/
def Chip.depAbandon (c : Chip) (r : JobRun) : Chip := ((c.dropRun r).incSat (NOS_TEN_DROP_DEP_ABANDON r.ten)).raiseArg 0x0A06 0 r.ten

/-- A job abandoned; the jobs that wait for it are abandoned with it (R227, R228). -/
def Chip.abandon (c : Chip) (r : JobRun) : Chip :=
  let c := (c.dropRun r).noteT0 r false
  if r.ten = 0 then
    (c.nos.runs.filter (fun x => x.ten != 0 && (c.jobOf x).dep == r.idx && x.cam == r.cam && x.fidx == r.fidx && x.l == r.l && !x.began)).foldl
      (fun c x => c.depAbandon x) c
  else c

/-- Camera `k` of NOS. -/
def Chip.camSt (c : Chip) (k : Nat) : CamSt := (c.nos.cams[k]?).getD {}

/-- The chip with camera `k` of NOS changed. -/
def Chip.setCam (c : Chip) (k : Nat) (f : CamSt → CamSt) : Chip := { c with nos := { c.nos with cams := modAt c.nos.cams k f } }

/-- The ring line `n` of the frame FIDX, if the ring still holds it (R224). -/
def Chip.ringLine (c : Chip) (cam fidx : Nat) (n : Int) : Option RingLine :=
  (c.camSt cam).ring.find? (fun x => x.fidx == fidx && (x.n : Int) == n)

/-- STRIPE_ACTION (R225): a start of job `idx` of a tenant at line `l`; false where the tenant does not run or has no such job. -/
def Chip.stripe (c : Chip) (ten idx l : Nat) : Chip × Bool :=
  if ¬ c.is (NOS_TEN_STAT_RUNNING ten) then (c, false)
  else
    match (c.tenant ten).jobs[idx]? with
    | none => (c, false)
    | some j =>
      let fidx := (c.camSt j.cam).fidx
      let mine := c.nos.runs.filter (fun x => x.ten == ten && x.idx == idx)
      let r : JobRun := { ten := ten, idx := idx, cam := j.cam, l := l, fidx := fidx, seq := c.nos.seq, startAt := c.now,
                          lineAt := match c.ringLine j.cam fidx ((l : Int) - 1) with | some x => x.ts | none => c.now,
                          pend := !mine.isEmpty, began := false, cluster := none, done := 0, layerAt := c.now, ended := false, rows := [],
                          bad := false }
      let c := match mine.find? (fun x => x.pend) with
        | some p => ((c.dropRun p).incSat (NOS_TEN_DROP_DROP ten)).raiseArg 0x0A07 ten ten
        | none => c
      ({ c with nos := { c.nos with runs := c.nos.runs ++ [r], seq := c.nos.seq + 1 } }, true)

/-- The state of a job's dependency: none ready, some true wait, some false abandon (R227). -/
def Chip.depState (c : Chip) (r : JobRun) : Option Bool :=
  let d := (c.jobOf r).dep
  if r.ten = 0 ∨ d = 0xFF then none
  else if c.nos.runs.any (fun x => x.ten == 0 && x.idx == d && x.cam == r.cam && x.fidx == r.fidx && x.l == r.l) then some true
  else
    match c.nos.t0.find? (fun x => x.1 == d && x.2.1 == r.cam && x.2.2.1 == r.fidx && x.2.2.2.1 == r.l) with
    | some x => if x.2.2.2.2.1 then none else some false
    | none => some false

/-- Whether the T0 instance a job depends on read a bad or stale line (R228, R241): the rows of the job then draw on that line. -/
def Chip.depBad (c : Chip) (r : JobRun) : Bool :=
  match c.nos.t0.find? (fun x => x.1 == (c.jobOf r).dep && x.2.1 == r.cam && x.2.2.1 == r.fidx && x.2.2.2.1 == r.l) with
  | some x => x.2.2.2.2.2
  | none => false

/-- The job instance a cluster holds. -/
def Chip.runOn (c : Chip) (clu : Nat) : Option JobRun := c.nos.runs.find? (fun x => x.cluster == some clu)

/-- Whether a reset of NOS or of the tenant brings its work to the idle point (R65). -/
def Chip.tenResets (c : Chip) (ten : Nat) : Bool :=
  c.bit SYS_FRST_STAT_BUSY 2 || (ten == 2 && c.bit SYS_FRST_STAT_BUSY 3) || (ten == 3 && c.bit SYS_FRST_STAT_BUSY 4)

/-- Whether a tenant may use a cluster (R230, R244). -/
def Chip.mayUse (c : Chip) (ten clu : Nat) : Bool :=
  !c.tenResets ten &&
  c.is (NOS_TEN_STAT_RUNNING ten) && c.bit (NOS_TEN_CFG_CLU_MASK ten) clu && !bitAt c.nos.badClu clu

/-- JOB_DISPATCH (R227, R230, R246): between layers the cluster takes the ready job of the highest-priority tenant, in order of start. -/
def Chip.dispatch (c : Chip) (clu : Nat) : Chip :=
  let c := (c.nos.runs.filter (fun r => !r.pend && !r.began && c.mayUse r.ten clu && c.depState r == some false)).foldl
    (fun c r => c.depAbandon r) c
  match c.runOn clu with
  | some r0 => if r0.ended then c else pick c
  | none => pick c
where
  /-- The ready job of highest priority put on the cluster; the L1 is cleared where the job changes. -/
  pick (c : Chip) : Chip :=
    let ready := c.nos.runs.filter (fun r => !r.pend && !r.ended && (r.cluster == none || r.cluster == some clu) && c.mayUse r.ten clu &&
      (r.began || c.depState r == none))
    let best := ready.foldl (fun (m : Option JobRun) r => match m with
      | none => some r
      | some x => if r.ten < x.ten ∨ (r.ten = x.ten ∧ r.seq < x.seq) then some r else m) none
    match best with
    | none => c
    | some r =>
      if r.cluster = some clu then c
      else
        let c := match c.runOn clu with | some o => c.setRun o (fun x => { x with cluster := none }) | none => c
        (c.setRun r (fun x => { x with cluster := some clu, began := true, startAt := if x.began then x.startAt else c.now,
                                       bad := x.bad || c.depBad r,
                                       layerAt := c.now })).l1Clear clu

/-! ### Layers (R234 to R237) -/

/-- The stored byte of element (y, x, ch) of an operand: none where a ring line is not there. -/
def Chip.elemB (c : Chip) (r : JobRun) (o : Opd) (y x ch : Nat) : Option Byte :=
  if o.ring then
    match c.ringLine r.cam r.fidx ((r.l : Int) + signedOf 16 o.addr + y) with
    | some l => some (c.viewB (c.get (VMC_RING_BASE_OFS r.cam) + l.row * ((c.get (NOS_CAM_GEOM_WIDTH r.cam) + 31) / 32 * 32) + x))
    | none => none
  else some (c.viewB (c.get (NOS_TEN_BASE_OFS r.ten) + o.addr + y * o.stride + x * o.c + ch))

/-- An element less its zero point; a ring line that is not there reads 0 (R228, R234). -/
def Chip.elem (c : Chip) (r : JobRun) (o : Opd) (y x ch : Nat) : Int :=
  match c.elemB r o y x ch with
  | some b => o.value b - o.zero
  | none => 0 - o.zero

/-- A signed 32-bit word of a table in the tenant's window. -/
def Chip.biasAt (c : Chip) (r : JobRun) (a i : Nat) : Int :=
  if a = 0xFFFFFFFF then 0 else signedOf 32 (leValue (c.viewBytes (c.get (NOS_TEN_BASE_OFS r.ten) + a + 4 * i) 4))

/-- A 32-bit accumulator requantised by M / 2^SH and limited to the output (R234). -/
def requant (d : List Byte) (o : Opd) (acc : Int) : Byte :=
  o.sat (o.zero + divNear (satInt 32 acc * leAt d 4 2) (2 ^ (leAt d 3 1 % 64)))

/-- The input positions of a window along one axis: window index and input index (R236). -/
def winPos (n p0 dil k s out : Nat) : List (Nat × Nat) :=
  (List.range k).filterMap (fun i =>
    let q := out * s + dil * i
    if p0 ≤ q ∧ q - p0 < n then some (i, q - p0) else none)

/-- The window positions that lie inside IN0 for one output element: window row and column, input row and column. -/
def winTaps (d : List Byte) (a : Opd) (oy ox : Nat) : List (Nat × Nat × Nat × Nat) :=
  (winPos a.h (leAt d 48 1) (nib d 47 false) (leAt d 44 1) (nib d 46 false) oy).flatMap (fun ky =>
    (winPos a.w (leAt d 50 1) (nib d 47 true) (leAt d 45 1) (nib d 46 true) ox).map (fun kx => (ky.1, kx.1, ky.2, kx.2)))

/-- The source position of RESIZE mode 1 in 1/65,536, clamped to the edge (R235). -/
def resizePos (dst nIn nOut : Nat) : Nat :=
  let s : Int := ((2 * dst + 1) * nIn * 65536 : Int) / (2 * max 1 nOut) - 32768
  (max 0 (min s (((nIn - 1) * 65536 : Nat) : Int))).toNat

/-- A bilinear value of four taps with weights of `one` steps, rounded half away from zero. -/
def bilinear (one wy wx : Nat) (v00 v01 v10 v11 : Int) : Int :=
  divNear (((one - wy : Nat) : Int) * ((one - wx : Nat) * v00 + wx * v01) + wy * ((one - wx : Nat) * v10 + wx * v11)) (one * one)

/-- The stored value of WARP's source at a row and column, FILL outside IN0 or the ring (R235). -/
def Chip.warpTap (c : Chip) (r : JobRun) (a : Opd) (fill : Int) (v u ch : Nat) : Int :=
  if a.w ≤ u then fill
  else if a.ring then
    match c.ringLine r.cam r.fidx v with
    | some l => a.value (c.viewB (c.get (VMC_RING_BASE_OFS r.cam) + l.row * ((c.get (NOS_CAM_GEOM_WIDTH r.cam) + 31) / 32 * 32) + u))
    | none => fill
  else if a.h ≤ v then fill
  else match c.elemB r a v u ch with | some b => a.value b | none => fill

/-- A map entry of WARP: u and v in 1/16. -/
def Chip.warpMap (c : Chip) (r : JobRun) (b : Opd) (y x : Nat) : Nat × Nat :=
  let e : Nat → Nat := fun k => match c.elemB r b y x k with | some v => v.toNat | none => 0
  (e 0 + 256 * e 1, e 2 + 256 * e 3)

/-- One stored output element of a layer. -/
def Chip.layerElem (c : Chip) (r : JobRun) (d : List Byte) (op : Nat) (a b o : Opd) (y x ch : Nat) : Byte :=
  match op with
  | 0 => requant d o (c.biasAt r (leAt d 52 4) ch + (winTaps d a y x).foldl (fun s t =>
      (List.range a.c).foldl (fun s ci => s + c.elem r a t.2.2.1 t.2.2.2 ci * c.elem r b ch (t.1 * leAt d 45 1 + t.2.1) ci) s) 0)
  | 1 => requant d o (c.biasAt r (leAt d 52 4) ch + (winTaps d a y x).foldl (fun s t =>
      s + c.elem r a t.2.2.1 t.2.2.2 ch * c.elem r b 0 (t.1 * leAt d 45 1 + t.2.1) ch) 0)
  | 2 =>
    let vs := (winTaps d a y x).map (fun t => c.elem r a t.2.2.1 t.2.2.2 ch)
    match vs with
    | [] => BitVec.ofNat 8 (Config.freeWord c.free)
    | v :: rest => requant d o (if leAt d 52 1 = 0 then rest.foldl max v else divNear (rest.foldl (· + ·) v) vs.length)
  | 3 => requant d o (signedOf 16 (leAt d 44 2) * c.elem r a y x ch +
      signedOf 16 (leAt d 46 2) * c.elem r b (if b.h = 1 then 0 else y) (if b.w = 1 then 0 else x) (if b.c = 1 then 0 else ch))
  | 4 => requant d o (c.elem r a y x ch * c.elem r b (if b.h = 1 then 0 else y) (if b.w = 1 then 0 else x) (if b.c = 1 then 0 else ch))
  | 5 =>
    if leAt d 44 1 = 0 then requant d o (max (c.elem r a y x ch) 0)
    else if leAt d 44 1 = 1 then requant d o (min (max (c.elem r a y x ch) (signedOf 8 (leAt d 45 1))) (signedOf 8 (leAt d 46 1)))
    else c.viewB (c.get (NOS_TEN_BASE_OFS r.ten) + leAt d 48 4 + (match c.elemB r a y x ch with | some v => v.toNat | none => 0))
  | 6 =>
    let v : Nat → Nat → Int := fun yy xx => match c.elemB r a yy xx ch with | some k => a.value k | none => 0
    if leAt d 44 1 = 0 then o.sat (v (y * a.h / max 1 o.h) (x * a.w / max 1 o.w))
    else
      let sy := resizePos y a.h o.h
      let sx := resizePos x a.w o.w
      let y0 := sy / 65536
      let x0 := sx / 65536
      let y1 := min (y0 + 1) (a.h - 1)
      let x1 := min (x0 + 1) (a.w - 1)
      o.sat (bilinear 65536 (sy % 65536) (sx % 65536) (v y0 x0) (v y0 x1) (v y1 x0) (v y1 x1))
  | 7 =>
    let q : Option Byte := if leAt d 44 1 = 0 then (if ch < a.c then c.elemB r a y x ch else c.elemB r b y x (ch - a.c))
      else (if y < a.h then c.elemB r a y x ch else c.elemB r b (y - a.h) x ch)
    q.getD 0
  | 8 =>
    let (u, v) := c.warpMap r b y x
    let fill := a.value (BitVec.ofNat 8 (leAt d 44 1))
    let tap := c.warpTap r a fill
    if leAt d 45 1 = 0 then o.sat (tap ((v + 8) / 16) ((u + 8) / 16) ch)
    else
      let t : Nat → Nat → Bool → Int := fun vv uu used => if used then tap vv uu ch else 0
      let wy := v % 16
      let wx := u % 16
      o.sat (bilinear 16 wy wx (t (v / 16) (u / 16) true) (t (v / 16) (u / 16 + 1) (wx != 0)) (t (v / 16 + 1) (u / 16) (wy != 0))
        (t (v / 16 + 1) (u / 16 + 1) (wy != 0 && wx != 0)))
  | 9 =>
    let z := c.elem r a y x ch - c.elem r b y x ch
    requant d o (if leAt d 44 1 = 0 then (if z < 0 then -z else z) else z)
  | 10 =>
    let t := c.viewBytes (c.get (NOS_TEN_BASE_OFS r.ten) + leAt d 48 4 + 8 * x) 8
    let y0 := leAt t 0 2
    let x0 := leAt t 2 2
    let y1 := leAt t 4 2
    let x1 := leAt t 6 2
    if y1 < y0 ∨ x1 < x0 ∨ a.h ≤ y1 ∨ a.w ≤ x1 then BitVec.ofNat 8 (Config.freeWord c.free)
    else requant d o ((List.range (y1 - y0 + 1)).foldl (fun s i =>
      (List.range (x1 - x0 + 1)).foldl (fun s j => s + c.elem r a (y0 + i) (x0 + j) ch) s) 0)
  | _ => if signedOf 16 (leAt d 44 2) ≤ c.elem r a y x ch then BitVec.ofNat 8 (leAt d 46 1) else BitVec.ofNat 8 (leAt d 47 1)

/-- The bytes of one output row. -/
def Chip.layerRow (c : Chip) (r : JobRun) (d : List Byte) (op : Nat) (a b o : Opd) (y : Nat) : List Byte :=
  (List.range o.w).flatMap (fun x => (List.range o.c).map (fun ch => c.layerElem r d op a b o y x ch))

/-- The lines of the frame a layer reads through RING: rows of IN0, or the lines its map names (WARP). -/
def Chip.linesRead (c : Chip) (r : JobRun) (d : List Byte) (op : Nat) (a b : Opd) : List Int :=
  if ¬ a.ring then []
  else if op = 8 then
    ((List.range b.h).flatMap (fun y => (List.range b.w).flatMap (fun x =>
      let (_, v) := c.warpMap r b y x
      if leAt d 45 1 = 0 then [((v + 8) / 16 : Int)] else if v % 16 = 0 then [(v / 16 : Int)] else [(v / 16 : Int), (v / 16 + 1 : Int)]))).eraseDups
  else (List.range a.h).map (fun (y : Nat) => (r.l : Int) + signedOf 16 a.addr + (y : Int))

/-- Bytes written by a cluster through its L1: the sectors it holds are updated, and the write goes to the L2, or to the home slice of a shared
line (R245, R246, R258). -/
def Chip.cluWrite (c : Chip) (clu off : Nat) (bs : List Byte) : Chip :=
  (cut32 (bs.length + 1) off bs).foldl (fun c q =>
    let c := match c.l1Line clu q.1 with
      | some x => if (x.st[q.1 % 128 / 32]?).getD 0 = 1 then
          c.l1Set clu q.1 1 (some (patch ((x.data.drop (q.1 % 128 / 32 * 32)).take 32) (q.1 % 32) q.2)) else c
      | none => c
    if c.sharedAt q.1 4 then c.dirRequest { kind := 1, who := clu, off := q.1, bytes := q.2 } else c.putPiece q.1 q.2) c

/-- The chip with the whey marks of an input acted on (R253). -/
def Chip.wheyOf (c : Chip) (clu ten : Nat) (o : Opd) (used : Bool) : Chip :=
  if used ∧ o.whey then
    let lo := c.get (NOS_TEN_BASE_OFS ten) + o.addr
    c.wheyDrop clu ten lo (lo + o.extent - 1)
  else c

/-- Whether a layer reads or writes its window beyond the declared LPDDR4X density (R255). -/
def Chip.beyondDdr (c : Chip) (ten op : Nat) (d : List Byte) (a b o : Opd) : Bool :=
  let hi : Opd → Nat := fun x => if x.ring then 0 else x.addr + x.extent
  let ends := [hi a, if usesIn1 op then hi b else 0, if bitAt (leAt d 0 1) 5 then 0 else hi o] ++ (tablesOf d op o).map (fun t => t.1 + t.2)
  ends.any (fun e => e != 0 && decide (c.ddrSize < c.get (NOS_TEN_BASE_OFS ten) + e))

/-- One layer of the job on a cluster, if its present descriptor has the operation: the output, the stale lines, the whey drops, and the step
to the next descriptor; an operand outside the window abandons the job with F0A05, and one beyond the declared density, whose access is refused, with F0B07 (R228,
R231, R234 to R237, R253, R255, log 28). -/
def Chip.layer (c : Chip) (clu op : Nat) : Chip :=
  match c.runOn clu with
  | none => c
  | some r =>
    let j := c.jobOf r
    let d := descAt (c.tenant r.ten).descs (j.first + r.done)
    let a := opdOf d 0
    let b := opdOf d 1
    let o := opdOf d 2
    let grid := bitAt (leAt d 0 1) 5
    if r.ended ∨ d.length ≠ 64 ∨ leAt d 0 1 % 16 ≠ op then c
    else
      let size := c.get (NOS_TEN_SIZE_SIZE r.ten)
      if opdIn a size = false ∨ (usesIn1 op ∧ opdIn b size = false) ∨ (grid = false ∧ opdIn o size = false) ∨
          (tablesOf d op o).any (fun t => decide (size < t.1 + t.2)) then (c.abandon r).raiseArg 0x0A05 r.ten r.ten
      else if c.beyondDdr r.ten op d a b o then (c.abandon r).raiseArg 0x0B07 r.ten (c.get (NOS_TEN_BASE_OFS r.ten) + a.addr)
      else
        let lines := c.linesRead r d op a b
        let gone := lines.filter (fun n => (c.ringLine r.cam r.fidx n).isNone && decide (n < r.l))
        let bad := !gone.isEmpty || lines.any (fun n => match c.ringLine r.cam r.fidx n with | some x => x.bad | none => false)
        let rows := (List.range o.h).map (fun y => (y, c.layerRow r d op a b o y))
        let c := if gone.isEmpty then c
          else c.set (NOS_TEN_DROP_STALE r.ten) (satNat 8 (c.get (NOS_TEN_DROP_STALE r.ten) + gone.length))
        let c := if grid then c.setRun r (fun x => { x with rows := x.rows ++ rows.map (fun p => (leAt d 1 1 + p.1, p.2)) })
          else rows.foldl (fun c p => c.cluWrite clu (c.get (NOS_TEN_BASE_OFS r.ten) + o.addr + p.1 * o.stride) p.2) c
        let c := ((c.wheyOf clu r.ten a true).wheyOf clu r.ten b (usesIn1 op)).tickFree
        c.setRun r (fun x => { x with done := x.done + 1, ended := bitAt (leAt d 0 1) 4, layerAt := c.now, bad := x.bad || bad })

/-! ### Publication (R241) -/

/-- A published grid update: tenant, camera, the rows with their cells. -/
structure GridUpdate where
  ten : Nat
  cam : Nat
  fidx : Nat
  first : Nat
  last : Nat
  rows : List (Nat × List Byte)
  bad : Bool
  complete : Bool
  tExp : Nat
deriving DecidableEq, Repr

/-- The address of grid memory `g`. -/
def gridMem (g : Nat) : Nat := 0x50002000 + 0x400 * g

/-- The job on a cluster ended at its LAST descriptor: it is counted, its grid rows replace those of the grid in one step with their stamps, and
the update is answered. -/
def Chip.jobEnd (c : Chip) (clu : Nat) : Chip × Option GridUpdate :=
  match c.runOn clu with
  | none => (c, none)
  | some r =>
    if r.ended = false then (c, none)
    else
      let j := c.jobOf r
      let c := ((c.dropRun r).noteT0 r true).incWrap (NOS_TEN_JOBS_N r.ten)
      if r.rows = [] ∨ r.ten = 0 ∨ r.ten = 3 then (c, none)
      else
        let g := 2 * (r.ten - 1) + r.cam
        let cs := c.camSt r.cam
        let mask := r.rows.foldl (fun m p => setBit m p.1 true) 0
        let lo := r.rows.foldl (fun m p => min m p.1) 17
        let hi := r.rows.foldl (fun m p => max m p.1) 0
        let old := (c.nos.seen[g]?).getD (0, 0)
        let before := if old.1 = r.fidx then old.2 else 0
        let now := Nat.lor before mask
        let full := now == 2 ^ 18 - 1 && before != 2 ^ 18 - 1
        let src := cs.ring.any (fun x => x.fidx == r.fidx && x.bad && decide (r.l ≤ x.n + j.span) && decide (x.n < r.l))
        let bad := r.bad || src || (cs.fidx == r.fidx && cs.short)
        let u : GridUpdate := { ten := r.ten, cam := r.cam, fidx := r.fidx, first := r.l - j.span, last := r.l - 1, rows := r.rows, bad := bad,
                                complete := full, tExp := r.lineAt - 1000 * c.get (NOS_CAM_EXPLAT_EXP_LAT_US r.cam) }
        let c : Chip := { c with nos := { c.nos with seen := modAt c.nos.seen g (fun _ => (r.fidx, now)) } }
        let c := r.rows.foldl (fun c p => c.wrBytes (gridMem g + 32 * p.1) p.2) c
        let c := ((c.set64 (NOS_GRID_FIDX_LO_FIDX g) (NOS_GRID_FIDX_HI_FIDX g) r.fidx).set (NOS_GRID_LINES_LINE_FIRST g) u.first).set
          (NOS_GRID_LINES_LINE_LAST g) u.last
        let c := (((c.set (NOS_GRID_ROWS_ROW0 g) lo).set (NOS_GRID_ROWS_ROWS g) (hi - lo + 1)).put (NOS_GRID_ROWS_BAD g) bad).put
          (NOS_GRID_ROWS_COMPLETE g) full
        ((c.set64 (NOS_GRID_TEXP_LO_T g) (NOS_GRID_TEXP_HI_T g) u.tExp).set64 (NOS_GRID_TPUB_LO_T g) (NOS_GRID_TPUB_HI_T g) c.now, some u)

/-- A job that has run WCET_US, or whose layer has run LMAX_US, is abandoned (R228). -/
def Chip.overrun (c : Chip) (clu : Nat) : Chip :=
  match c.runOn clu with
  | none => c
  | some r =>
    if (c.jobOf r).wcet * 1000 ≤ c.now - r.startAt ∨ c.get (NOS_TEN_LMAX_LMAX r.ten) * 1000 < c.now - r.layerAt then
      ((c.abandon r).incSat (NOS_TEN_DROP_OVERRUN r.ten)).raiseArg 0x0A04 r.ten r.ten
    else c

/-! ### Start, stop, errors -/

/-- NOS starts training; containers are loaded and checked in the order T0 to T3 (R240, R261). -/
def Chip.nosEnable (c : Chip) : Chip :=
  if c.fuses.partN ∨ c.is NOS_CTRL_ENABLE then c
  else
    let c := (((c.put NOS_CTRL_ENABLE true).put VMC_STAT_DDR_READY false).put VMC_DDR_STAT_TRAINED false).put VMC_DDR_STAT_TRAIN_FAIL false
    [0, 1, 2, 3].foldl (fun c n => if c.bit NOS_CTRL_TEN_EN n then c.loadTenant n else c) c

/-- Training ends: NOS runs with its loaded tenants, or does not start, with F0B05 (R261). -/
def Chip.ddrTrained (c : Chip) (ok : Bool) (attempts : Nat) : Chip :=
  if ¬ c.is NOS_CTRL_ENABLE ∨ c.is VMC_STAT_DDR_READY then c
  else
    let c := c.set VMC_DDR_STAT_ATTEMPTS (min attempts 3)
    if ok then
      let c := (((c.put VMC_DDR_STAT_TRAINED true).put VMC_STAT_DDR_READY true).put NOS_STAT_RUNNING true).endCondition 0x0B05
      [0, 1, 2, 3].foldl (fun c n => c.tenantStart n) c
    else (c.put VMC_DDR_STAT_TRAIN_FAIL true).raise 0x0B05

/-- The jobs of a tenant that has stopped are gone: none publishes (10.11). -/
def Chip.tenantStop (c : Chip) (n : Nat) : Chip :=
  let c := (c.nos.runs.filter (fun r => r.ten == n)).foldl (fun c r => c.abandon r) c
  let c : Chip := { c with nos := { c.nos with runs := c.nos.runs.filter (fun r => r.ten != n) } }
  (c.put (NOS_TEN_STAT_RUNNING n) false).putBit NOS_STAT_RUNNING_T n false

/-- NOS off: no tenant runs. -/
def Chip.nosStop (c : Chip) : Chip :=
  ([0, 1, 2, 3].foldl (fun c n => c.tenantStop n) c).put NOS_STAT_RUNNING false

/-- A cluster with an ECC error leaves every mask until the next NOS reset; its job is abandoned (R244). -/
def Chip.clusterBad (c : Chip) (clu : Nat) : Chip :=
  let c := match c.runOn clu with | some r => c.abandon r | none => c
  ({ c with nos := { c.nos with badClu := setBit c.nos.badClu clu true } } : Chip).raiseArg 0x0A08 0 clu

/-- L2_UNCORRECTABLE (R265): the jobs of the partition's tenants are abandoned, the partition is cleared without write-back, the CONST sections
are reloaded; a loss in PS makes every ring line stale. -/
def Chip.partitionLost (c : Chip) (p : Nat) : Chip :=
  let tens := if p < 4 then [p] else [0, 1, 2, 3]
  let c := (c.nos.runs.filter (fun r => tens.contains r.ten)).foldl (fun c r => c.abandon r) c
  let c := c.partDrop p
  let c := tens.foldl (fun c n => if c.is (NOS_TEN_STAT_RUNNING n) then c.loadConsts n else c) c
  if p = 4 then { c with nos := { c.nos with cams := c.nos.cams.map (fun x => { x with ring := [] }) } } else c

/-! ### The commands -/

/-- NOS_ENABLE (R240, R261). -/
def execNosEnable (t : Nat) (s : State) : Host.Outcome State Fault Refusal := run .app t (fun c => c.nosEnable) s

/-- LPDDR4X_TRAINING_END (R261). -/
def execLpddr4xTrainingEnd (t : Nat) (ok : Bool) (attempts : Nat) (s : State) : Host.Outcome State Fault Refusal :=
  run .app t (fun c => c.ddrTrained ok attempts) s

/-- JOB_DISPATCH (R230). -/
def execJobDispatch (t : Nat) (clu : Fin 4) (s : State) : Host.Outcome State Fault Refusal := run .app t (fun c => c.dispatch clu) s

/-- CONV (R235). -/
def execConv (t : Nat) (clu : Fin 4) (s : State) : Host.Outcome State Fault Refusal := run .app t (fun c => c.layer clu 0) s

/-- DWCONV (R235). -/
def execDwconv (t : Nat) (clu : Fin 4) (s : State) : Host.Outcome State Fault Refusal := run .app t (fun c => c.layer clu 1) s

/-- POOL (R235). -/
def execPool (t : Nat) (clu : Fin 4) (s : State) : Host.Outcome State Fault Refusal := run .app t (fun c => c.layer clu 2) s

/-- ADD (R235). -/
def execAdd (t : Nat) (clu : Fin 4) (s : State) : Host.Outcome State Fault Refusal := run .app t (fun c => c.layer clu 3) s

/-- MUL (R235). -/
def execMul (t : Nat) (clu : Fin 4) (s : State) : Host.Outcome State Fault Refusal := run .app t (fun c => c.layer clu 4) s

/-- ACT (R235). -/
def execAct (t : Nat) (clu : Fin 4) (s : State) : Host.Outcome State Fault Refusal := run .app t (fun c => c.layer clu 5) s

/-- RESIZE (R235). -/
def execResize (t : Nat) (clu : Fin 4) (s : State) : Host.Outcome State Fault Refusal := run .app t (fun c => c.layer clu 6) s

/-- CONCAT (R235). -/
def execConcat (t : Nat) (clu : Fin 4) (s : State) : Host.Outcome State Fault Refusal := run .app t (fun c => c.layer clu 7) s

/-- WARP (R235). -/
def execWarp (t : Nat) (clu : Fin 4) (s : State) : Host.Outcome State Fault Refusal := run .app t (fun c => c.layer clu 8) s

/-- DIFF (R235). -/
def execDiff (t : Nat) (clu : Fin 4) (s : State) : Host.Outcome State Fault Refusal := run .app t (fun c => c.layer clu 9) s

/-- REGSUM (R235). -/
def execRegsum (t : Nat) (clu : Fin 4) (s : State) : Host.Outcome State Fault Refusal := run .app t (fun c => c.layer clu 10) s

/-- THRESH (R235). -/
def execThresh (t : Nat) (clu : Fin 4) (s : State) : Host.Outcome State Fault Refusal := run .app t (fun c => c.layer clu 11) s

/-- JOB_OVERRUN (R228). -/
def execJobOverrun (t : Nat) (clu : Fin 4) (s : State) : Host.Outcome State Fault Refusal := run .app t (fun c => c.overrun clu) s

/-- CLUSTER_ECC_ERROR (R244). -/
def execClusterEccError (t : Nat) (clu : Fin 4) (s : State) : Host.Outcome State Fault Refusal := run .app t (fun c => c.clusterBad clu) s

/-- L2_READ (R245, R249, R250, R265). -/
def execL2Read (t : Nat) (agent : Fin 6) (off len : Nat) (ecc : Fin 4) (s : State) : Host.Outcome State Fault Refusal :=
  run .app t (fun c =>
    let (c, lost) := c.l2Ecc agent off ecc
    let c := if lost then c.partitionLost (c.partOf off) else c
    c.agentRead agent off len) s

/-- L2_WRITE (R245, R249, R250, R265). -/
def execL2Write (t : Nat) (agent : Fin 6) (off : Nat) (bytes : List Byte) (ecc : Fin 4) (s : State) : Host.Outcome State Fault Refusal :=
  run .app t (fun c =>
    let (c, lost) := c.l2Ecc agent off ecc
    let c := if lost then c.partitionLost (c.partOf off) else c
    c.l2Access { agent := agent, off := off, len := bytes.length, wr := some bytes }) s

end Sys2Proof.Machine
end

