-- ==== Sys2Proof/Machine/Coil.lean ====
section
/-! DEFINITION. Coil current regulation: chopper states, phase targets, offsets and the force estimate
(spec/07_coil_current.md R143 to R158). Currents are in uA, forces in mN (log 21). -/

namespace Sys2Proof.Machine

/-! ### The two axis records -/

/-- Axis `n` of MOT. -/
def Chip.ax (c : Chip) (n : Nat) : Axis := (c.axes[n]?).getD {}

/-- The chip with axis `n` of MOT changed. -/
def Chip.setAx (c : Chip) (n : Nat) (f : Axis → Axis) : Chip := { c with axes := modAt c.axes n f }

/-- Axis `n` of CUR. -/
def Chip.cu (c : Chip) (n : Nat) : CurAx := (c.cur[n]?).getD {}

/-- The chip with axis `n` of CUR changed. -/
def Chip.setCu (c : Chip) (n : Nat) (f : CurAx → CurAx) : Chip := { c with cur := modAt c.cur n f }

/-- Phase A (0) or B (1) of an axis. -/
def CurAx.ph (x : CurAx) (p : Nat) : Phase := if p = 0 then x.phA else x.phB

/-- The axis with phase A (0) or B (1) changed. -/
def CurAx.setPh (x : CurAx) (p : Nat) (f : Phase → Phase) : CurAx :=
  if p = 0 then { x with phA := f x.phA } else { x with phB := f x.phB }

/-! ### Scales and targets -/

/-- The sense full scale I_FS = 125 mV / R_SENSE, in uA (R146). -/
def Chip.iFs (c : Chip) (n : Nat) : Nat :=
  if c.get (CUR_AX_SCALE_R_SENSE n) = 0 then 0 else 1250000000 / c.get (CUR_AX_SCALE_R_SENSE n)

/-- The set current of a phase, I_A / 32,767 x I_PEAK, in uA (R147). -/
def Chip.iSet (c : Chip) (n p : Nat) : Int :=
  divNear (c.getI (if p = 0 then MOT_AX_PHASE_I_A n else MOT_AX_PHASE_I_B n) * (c.get (CUR_AX_SCALE_I_PEAK n) * 1000)) 32767

/-- The chopper fields as the registers hold them (R154). -/
def Chip.chopCfg (c : Chip) (n : Nat) : ChopCfg :=
  { hyst := c.is (CUR_AX_CFG_CHOP n), fd := c.get (CUR_AX_CFG_FD n), toff := c.get (CUR_AX_CHOP_TOFF n),
    tblank := c.get (CUR_AX_CFG_TBLANK n), hband := c.get (CUR_AX_CHOP_HBAND n), dead := c.get (CUR_AX_CFG_DEAD n) }

/-- The quadrant of a phase's electrical index (R152). -/
def Chip.quadrant (c : Chip) (n p : Nat) : Nat := (c.get (MOT_AX_ELEC_ELEC n) + 256 * p) % 1024 / 256

/-- The offset field of a phase in a quadrant. -/
def ofsFld (n p q : Nat) : Fld := if p = 0 then CUR_AX_OFS_O_A n q else CUR_AX_OFS_O_B n q

/-- The upper (`up`) or lower threshold of a phase, uA (R151, R152). -/
def Chip.threshold (c : Chip) (n p : Nat) (up : Bool) : Int :=
  let s : Int := (c.iSet n p).natAbs
  let k := ((c.cu n).ph p).cfg
  if k.hyst then
    let o := c.getI (ofsFld n p (c.quadrant n p))
    s + divTrunc (o * c.iFs n) 4096 + (if up then 1 else -1) * divTrunc (k.hband * c.iFs n) 8192
  else s

/-- A new phase target reaches CUR: a target of the sign opposite to the measured current, or 0, puts the phase into FAST in the
present current's polarity (R150). -/
def Chip.targetChange (c : Chip) (n p : Nat) : Chip :=
  let i := c.iSet n p
  c.setCu n (fun x => x.setPh p (fun h =>
    if h.bridge = .off then h
    else if i = 0 ∨ i * h.iMeas < 0 then { h with bridge := .fast, neg := decide (h.iMeas < 0), ended := true } else h))

/-! ### The chopper cycle -/

/-- A cycle starts in ON, no sooner than 25 us after the last start, with the target's polarity and the chopper fields then set
(R143, R148, R154); while the current still flows against the target it waits (R150). -/
def Chip.cycleStart (c : Chip) (n p : Nat) : Chip :=
  let i := c.iSet n p
  let h := (c.cu n).ph p
  let free : Bool := match h.start with | none => true | some s => decide (25000 ≤ c.now - s)
  if c.is (CUR_AX_STAT_DRIVING n) ∧ i ≠ 0 ∧ 0 ≤ i * h.iMeas ∧ free ∧ h.bridge ≠ .on ∧ h.ended then
    c.setCu n (fun x => x.setPh p (fun h =>
      { h with bridge := .on, neg := decide (i < 0), start := some c.now, onLim := false, ended := false, cfg := c.chopCfg n }))
  else c

/-- Blanking ends: the comparator and the samples count again, and in ON the sample is I_BE (R149, R151). -/
def Chip.blankEnd (c : Chip) (n p : Nat) (i : Int) : Chip :=
  c.setCu n (fun x => x.setPh p (fun h =>
    match h.start with
    | none => h
    | some s =>
      if h.bridge = .on ∧ h.cfg.tblank * 250 ≤ c.now - s then { h with iBe := i, iMeas := i } else { h with iMeas := i }))

/-- The ON state ends at the upper threshold after blanking, or at the limit, which ON_LIM counts (R148, R151, R152). -/
def Chip.onEnd (c : Chip) (n p : Nat) (i : Int) : Chip :=
  let h := (c.cu n).ph p
  match h.start with
  | none => c
  | some s =>
    let el := c.now - s
    let lim := if h.cfg.hyst then 40000 else 40000 - h.cfg.toff * 250
    let cmp := decide (h.cfg.tblank * 250 ≤ el) && decide (c.threshold n p true ≤ i.natAbs)
    if h.bridge = .on ∧ (cmp = true ∨ lim ≤ el) then
      let set : Int := (c.iSet n p).natAbs
      let isOpen := decide (c.get (CUR_AX_SCALE_I_PEAK n) * 1000 ≤ set * 4) && decide ((i.natAbs : Int) * 20 < set)
      let c := c.setCu n (fun x => x.setPh p (fun h =>
        { h with bridge := if h.cfg.hyst ∨ 0 < h.cfg.fd then .fast else .slow, onEnd := c.now, iPk := i, iMeas := i,
                 onLim := !cmp, tOn := h.tOn + (if h.neg then -(el : Int) else el),
                 openCnt := if isOpen then h.openCnt + 1 else 0 }))
      if cmp then c else c.incSat (CUR_AX_CNT_ON_LIM n)
    else c

/-- The off phase ends by TOFF or at the lower threshold; the cycle's mean is taken, the quadrant's offset adapted, and a cycle
short of 25 us goes on in SLOW, which MIN_EXT counts (R148, R151 to R153). A FAST state that drives a current of the wrong polarity out ends
when the current has reached 0: with a target of 0 in SLOW (R150). -/
def Chip.offEnd (c : Chip) (n p : Nat) (i mean : Int) : Chip :=
  let h := (c.cu n).ph p
  match h.start with
  | none => c
  | some s =>
    let due := if h.cfg.hyst then decide ((i.natAbs : Int) ≤ c.threshold n p false) else decide (h.cfg.toff * 250 ≤ c.now - h.onEnd)
    if h.bridge ≠ .on ∧ h.bridge ≠ .off ∧ h.ended = false ∧ due then
      let avg := if h.cfg.hyst then mean else (h.iBe + h.iPk) / 2
      let fast : Int := if h.cfg.hyst then (c.now - h.onEnd : Nat) else (h.cfg.toff * 250 * h.cfg.fd / 16 : Nat)
      let q := c.quadrant n p
      let o := c.getI (ofsFld n p q)
      let step := if c.iFs n = 0 then 0
        else divTrunc (((c.iSet n p).natAbs - avg.natAbs : Int) * 4096 * c.get (CUR_AX_CHOP_ADAPT n)) (256 * c.iFs n)
      let o' := max (-(h.cfg.hband : Int)) (min (h.cfg.hband : Int) (o + step))
      let c' := c.setCu n (fun x => x.setPh p (fun h =>
        { h with bridge := .slow, iMeas := i, ended := true, sum := h.sum + avg, n := h.n + 1,
                 nLim := h.nLim + (if h.onLim then 1 else 0), tFast := h.tFast + (if h.neg then -fast else fast) }))
      let c' := if h.cfg.hyst then c'.setI (ofsFld n p q) o' else c'
      if c.now - s < 25000 then c'.incSat (CUR_AX_CNT_MIN_EXT n) else c'
    else if h.bridge = .fast ∧ h.ended ∧ (if h.neg then 0 ≤ i else i ≤ 0) then
      c.setCu n (fun x => x.setPh p (fun h => { h with iMeas := i, bridge := if c.iSet n p = 0 then .slow else .fast }))
    else c

/-- The eight offsets of an axis set to 0 (R153). -/
def Chip.clearOffsets (c : Chip) (n : Nat) : Chip :=
  [0, 1, 2, 3].foldl (fun c q => (c.setI (ofsFld n 0 q) 0).setI (ofsFld n 1 q) 0) c

/-! ### Force estimate (R155 to R158) -/

/-- The force of the motor along increasing position, mN, and whether the angle is usable: from the load angle of MOT, or from
current and back-EMF alone (R155, R156). -/
def Chip.motorForce (c : Chip) (n : Nat) : Int × Bool :=
  let x := c.cu n
  let amp : Int := isqrt ((x.phA.avg * x.phA.avg + x.phB.avg * x.phB.avg).natAbs)
  let kf : Int := c.get (CUR_AX_FCAL0_KF n)
  let lead := c.get (MOT_AX_LEAD_LEAD_NM n)
  if (c.ax n).angleOk then
    let s := if lead = 0 then 0 else sin65536 (divNear (c.getI (MOT_AX_DEV_VALUE n) * 1000 * 65536) (4 * lead))
    (divNear (kf * amp * s) (100000 * 32767), true)
  else
    let v := (c.ax n).v
    let r : Int := c.get (CUR_AX_MOTOR_R_PH n)
    let l : Int := c.get (CUR_AX_MOTOR_L_PH n)
    let bus : Int := c.get SUP_STATUS_VSENSE_MV * c.get SUP_HOLDUP_CFG0_DIV * 10
    let e : Phase → Int := fun h => divNear (bus * (h.tOn - h.tFast)) 50000 - divNear (r * h.avg) 1000 - divNear (l * (h.avg - h.avgOld)) 5
    let eA := e x.phA
    let eB := e x.phB
    let mag : Int := isqrt ((eA * eA + eB * eB).natAbs)
    let dir : Int := if c.is (MOT_AX_STAT_DIR n) then -1 else 1
    let ok := decide (c.get (CUR_AX_FLIM_V_EMF_MIN n) * 1000000 ≤ v) && decide (r ≠ 0) && decide (l ≠ 0)
    (if mag = 0 then 0 else dir * divNear (kf * divNear (x.phA.avg * eA + x.phB.avg * eB) mag) 100000, ok)

/-- One sample into the sums of an armed fit: acceleration, sign of the speed, speed in um/s, motor force (R158). -/
def FitSums.add (s : FitSums) (a g v f : Int) : FitSums :=
  { n := s.n + 1, aa := s.aa + a * a, as := s.as + a * g, av := s.av + a * v, ss := s.ss + g * g, sv := s.sv + g * v,
    vv := s.vv + v * v, af := s.af + a * f, sf := s.sf + g * f, vf := s.vf + v * f, ff := s.ff + f * f }

/-- The signed commanded speed of an axis, nm/s. -/
def Chip.motSpeed (c : Chip) (n : Nat) : Int := if c.is (MOT_AX_STAT_DIR n) then -((c.ax n).v : Int) else (c.ax n).v

/-- The means, frequencies and sag count of a phase over one control cycle (R155, R159, CUR_AXn_FREQ). -/
def Phase.endCycle (h : Phase) : Phase :=
  { h with avgOld := h.avg, avg := if h.n = 0 then h.avg else h.sum / h.n, sum := 0, n := 0, nLim := 0, tOn := 0, tFast := 0,
           sagCnt := if 0 < h.n ∧ h.nLim = h.n then h.sagCnt + 1 else 0 }

/-- Every control cycle: currents, frequencies and the force estimate of an axis, the two trip counts, and a sample of an armed
fit (R155 to R158). The trip itself asserts by FORCE_TRIP and ends here (R157). -/
def Chip.forceEstimate (c : Chip) (n : Nat) : Chip :=
  let x := c.cu n
  let nA := x.phA.n
  let nB := x.phB.n
  let pre := c
  let c := c.setCu n (fun x => { x with phA := { x.phA.endCycle with tOn := x.phA.tOn, tFast := x.phA.tFast },
                                        phB := { x.phB.endCycle with tOn := x.phB.tOn, tFast := x.phB.tFast } })
  let (fm, ok) := c.motorForce n
  let drv := c.is (CUR_AX_STAT_DRIVING n)
  let cal0F0 : Int := c.get (CUR_AX_FCAL0_F0 n)
  let b : Int := c.get (CUR_AX_FCAL1_B n)
  let m : Int := c.get (CUR_AX_FCAL1_M n)
  let v := c.motSpeed n
  let sg : Int := if v = 0 then 0 else if 0 < v then 1 else -1
  let a := (c.ax n).acc
  let est := if drv then divNear (m * a) 100 - fm + cal0F0 * 100 * sg + divNear (b * v) 100000000 else 0
  let s : Int := if c.is (MOT_AX_STAT_DIR n) then -1 else 1
  let opp := -(s * est)
  let valid := drv && ok
  let fLim := c.get (CUR_AX_FLIM_F_LIM n)
  let hit := valid && decide (0 < fLim) && decide ((fLim : Int) * 1000 ≤ opp)
  let clear := !(valid && decide ((fLim : Int) * 1000 ≤ opp))
  let c := (((c.put (CUR_AX_STAT_F_VALID n) valid).put (CUR_AX_STAT_F_MODE n) (!(c.ax n).angleOk)).setSatI (CUR_AX_FEST_F_EST n)
    (divTrunc est 100)).setSatI (CUR_AX_FEST_F_OPP n) (divTrunc opp 100)
  let c := (((c.setSatI (CUR_AX_IMEAS_I_A n) (divTrunc (c.cu n).phA.avg 1000)).setSatI (CUR_AX_IMEAS_I_B n)
    (divTrunc (c.cu n).phB.avg 1000)).set (CUR_AX_FREQ_FREQ_A n) (satNat 16 (nA * 2000))).set (CUR_AX_FREQ_FREQ_B n)
    (satNat 16 (nB * 2000))
  let c := c.setCu n (fun x => { x with phA := { x.phA with tOn := 0, tFast := 0 }, phB := { x.phB with tOn := 0, tFast := 0 },
                                        overs := if hit then min 2 (x.overs + 1) else 0, under := if clear then min 2 (x.under + 1) else 0 })
  let c := if c.is (CUR_AX_STAT_FTRIP n) ∧ 2 ≤ (c.cu n).under then c.put (CUR_AX_STAT_FTRIP n) false else c
  if (pre.cu n).fit = 2 then
    c.setCu n (fun x => { x with
      fitOk := x.fitOk && c.is (FBK_CH_STAT_POS_VALID n) && !c.is (CUR_AX_STAT_FTRIP n) && c.get (MOT_AX_STAT_SEG n) != 9,
      fitCruise := x.fitCruise + (if c.get (MOT_AX_STAT_SEG n) = 4 then 1 else 0),
      sums := if v = 0 then x.sums else x.sums.add a sg (divTrunc v 1000) fm })
  else if (pre.cu n).fit = 1 ∧ v ≠ 0 then
    c.setCu n (fun x => { x with fit := 2, fitOk := c.is (FBK_CH_STAT_POS_VALID n), fitCruise := 0, sums := ({} : FitSums).add a sg (divTrunc v 1000) fm })
  else c

/-- The determinant of a symmetric 3 x 3 system with one column replaced (Cramer's rule). -/
def det3 (a b c d e f g h i : Int) : Int := a * (e * i - f * h) - b * (d * i - f * g) + c * (d * h - e * g)

/-- The least-squares solution of `F_M = M a + F0 sign(v) + B v` over the collected move (R158): M in 0.01 kg, F0 in 0.1 N, B in
0.01 N s/m, and the residual sum of squares in mN^2; none where the samples do not determine it. -/
def FitSums.solve (s : FitSums) : Option (Int × Int × Int × Int) :=
  let d := det3 s.aa s.as s.av s.as s.ss s.sv s.av s.sv s.vv
  if d = 0 then none
  else
    let dm := det3 s.af s.as s.av s.sf s.ss s.sv s.vf s.sv s.vv
    let d0 := det3 s.aa s.af s.av s.as s.sf s.sv s.av s.vf s.vv
    let db := det3 s.aa s.as s.af s.as s.ss s.sf s.av s.sv s.vf
    let d := d
    let sgn : Int := if d < 0 then -1 else 1
    let q : Int → Int → Int := fun k x => divNear (k * x * sgn) (d * sgn)
    some (q 100 dm, divNear (d0 * sgn) (100 * (d * sgn)), q 100000 db,
      s.ff - divNear ((dm * s.af + d0 * s.sf + db * s.vf) * sgn) (d * sgn))

/-- A fit ends with its move: on success the three fields are written and FCAL_DONE set; a residual above 2 N RMS, or a move that
does not qualify, sets CAL_FAIL (R158). -/
def Chip.fitEnd (c : Chip) (n : Nat) : Chip :=
  let x := c.cu n
  if x.fit ≠ 2 then c
  else if x.fitOk = false ∨ x.fitCruise < 2000 then
    c.setCu n (fun x => { x with fit := 1, fitOk := true, fitCruise := 0, sums := {} })
  else
    let c := c.setCu n (fun x => { x with fit := 0 })
    match x.sums.solve with
    | some (m, f0, b, res) =>
      if res ≤ 4000000 * x.sums.n ∧ 0 ≤ m ∧ 0 ≤ f0 ∧ 0 ≤ b then
        (((c.set (CUR_AX_FCAL0_F0 n) (satNat 16 f0.natAbs)).set (CUR_AX_FCAL1_B n) (satNat 16 b.natAbs)).set (CUR_AX_FCAL1_M n)
          (satNat 16 m.natAbs)).put (CUR_AX_STAT_FCAL_DONE n) true
      else c.put (CUR_AX_STAT_CAL_FAIL n) true
    | none => c.put (CUR_AX_STAT_CAL_FAIL n) true

end Sys2Proof.Machine
end

