-- ==== Sys2Proof/Machine/Motion.lean ====
section
/-! DEFINITION. Motion: positions, motion sets, the profile tick, stops, re-referencing, phase targets and stall
(spec/06_motion_profiles.md R122 to R142). -/

namespace Sys2Proof.Machine

/-! ### Units (R122 to R124) -/

/-- Micrometres to 1/256 full steps: round(um x 256,000 / LEAD_NM), halves away from zero (R123). -/
def umToXpos (um : Int) (lead : Nat) : Int := if lead = 0 then 0 else divNear (um * 256000) lead

/-- 1/256 full steps to micrometres, truncated toward zero (R123). -/
def xposToUm (x : Int) (lead : Nat) : Int := divTrunc (x * lead) 256000

/-- The XPOS units of one issued microstep, 256 / USTEPS (R124). -/
def Chip.ustep (c : Chip) (n : Nat) : Nat := if c.get (MOT_AX_CFG_USTEPS n) = 0 then 1 else max 1 (256 / c.get (MOT_AX_CFG_USTEPS n))

/-- A target rounded to the nearest issued microstep, halves away from zero (R124). -/
def Chip.roundTarget (c : Chip) (n : Nat) (x : Int) : Int := divNear x (c.ustep n) * c.ustep n

/-- The integrated-position value of one XPOS unit: LEAD_NM x 10^6 (R125). -/
def Chip.unit (c : Chip) (n : Nat) : Int := c.get (MOT_AX_LEAD_LEAD_NM n) * 1000000

/-- The commanded direction: +1 increasing, -1 decreasing. -/
def Chip.dir (c : Chip) (n : Nat) : Int := if c.is (MOT_AX_STAT_DIR n) then -1 else 1

/-- XPOS of an axis. -/
def Chip.xpos (c : Chip) (n : Nat) : Int := c.getI (MOT_AX_XPOS_VALUE n)

/-! ### Phase targets (R140) -/

/-- The quarter-wave magnitude from the table in use: the built-in one, or MOT_TBLk with its end fixed at 32,767 (R140). -/
def Chip.quarter (c : Chip) (i : Nat) : Nat :=
  if c.is MOT_TBL_CFG_USER_TBL then
    (if i = 256 then 32767 else c.get (if i % 2 = 0 then MOT_TBL_Q_EVEN (i / 2) else MOT_TBL_Q_ODD (i / 2)))
  else sineQ i

/-- A phase target at an index with a scale of `sc`/256, rounded to nearest (R140, log 22). -/
def Chip.phaseTarget (c : Chip) (e sc : Nat) : Int :=
  let m := divNear (sc * c.quarter (foldQ (e % 1024))) 256
  if e % 1024 < 512 then m else -m

/-- The chip with both phase targets of an axis recomputed from ELEC and the scale in force, and handed to CUR (R140, R150). -/
def Chip.showPhases (c : Chip) (n : Nat) : Chip :=
  let e := c.get (MOT_AX_ELEC_ELEC n)
  let e := if c.is (MOT_AX_CFG_DIR_INV n) then (1024 - e) % 1024 else e
  let sc := if (c.ax n).holding then c.get (MOT_AX_SCALE_SC_HOLD n) else c.get (MOT_AX_SCALE_SC_RUN n)
  (((c.setI (MOT_AX_PHASE_I_A n) (c.phaseTarget e sc)).setI (MOT_AX_PHASE_I_B n) (c.phaseTarget (e + 256) sc)).targetChange n
    0).targetChange n 1

/-- The chip with one issued microstep: XPOS and ELEC move by 256 / USTEPS (R124, R140). -/
def Chip.microstep (c : Chip) (n : Nat) : Chip :=
  let d := c.dir n * c.ustep n
  let x := c.xpos n + d
  let e := ((c.get (MOT_AX_ELEC_ELEC n) : Int) + d) % 1024
  ((((c.setI (MOT_AX_XPOS_VALUE n) x).set (MOT_AX_ELEC_ELEC n) e.toNat).setI (MOT_AX_POS_UM_VALUE n)
    (xposToUm x (c.get (MOT_AX_LEAD_LEAD_NM n)))).showPhases n)

/-- Microsteps issued until the integrated position lies before the next boundary (R125). -/
def Chip.issue (c : Chip) (n : Nat) (p : Int) : Nat → Chip
  | 0 => c
  | k + 1 =>
    if (c.xpos n + c.dir n * c.ustep n) * c.unit n * c.dir n ≤ p * c.dir n then (c.microstep n).issue n p k else c

/-! ### Stopping distance (R130) -/

/-- Whether a distance of `a` integrated units lies at or below s_stop(v), compared without rounding (R130). -/
def stopReached (p : Profile) (v : Nat) (a : Int) : Bool :=
  let vs : Int := p.vStop * 1000
  let vb : Int := p.vBrk * 1000
  let v : Int := v
  if v ≤ vs then decide (a ≤ 0)
  else if v ≤ vb then decide (a * p.d1 ≤ 128 * (v * v - vs * vs))
  else decide (a * p.d1 * p.d2 ≤ 128 * ((v * v - vb * vb) * p.d1 + (vb * vb - vs * vs) * p.d2))

/-- s_stop(v) in integrated units, rounded down (R130, R133). -/
def stopDistance (p : Profile) (v : Nat) : Int :=
  let vs : Int := p.vStop * 1000
  let vb : Int := p.vBrk * 1000
  let v : Int := v
  if v ≤ vs ∨ p.d1 = 0 ∨ p.d2 = 0 then 0
  else if v ≤ vb then 128 * (v * v - vs * vs) / p.d1
  else 128 * ((v * v - vb * vb) * p.d1 + (vb * vb - vs * vs) * p.d2) / (p.d1 * p.d2)

/-! ### Stops and references (R133 to R137) -/

/-- The chip with the speed of an axis shown: VEL and BUSY (06.9). -/
def Chip.showSpeed (c : Chip) (n : Nat) : Chip :=
  let v := (c.ax n).v
  (c.setI (MOT_AX_VEL_VALUE n) (c.dir n * (v / 1000 : Nat))).put (MOT_AX_STAT_BUSY n)
    (decide (v ≠ 0) || c.get (MOT_AX_STAT_SEG n) == 8)

/-- The chip with an axis at speed 0 in a segment, its integrated position on its microstep. -/
def Chip.standIn (c : Chip) (n seg : Nat) : Chip :=
  let x := c.xpos n
  let u := c.unit n
  ((c.setAx n (fun a => { a with v := 0, acc := 0, pos := x * u, stopAt := some c.now })).set (MOT_AX_STAT_SEG n) seg).showSpeed n

/-- The microstep position taken from the encoder, without a change of the coil currents (R136): XPOS from the interpolated
position, ELEC_OFF from ELEC; STEPLOSS_POSSIBLE and STALL clear, REFD set, HALTED ends. -/
def Chip.reref (c : Chip) (n : Nat) : Chip :=
  let x := umToXpos (c.getI (FBK_CH_POS_POS_UM n)) (c.get (MOT_AX_LEAD_LEAD_NM n))
  let off := ((c.get (MOT_AX_ELEC_ELEC n) : Int) - x) % 1024
  let u := c.unit n
  let c := ((((c.setI (MOT_AX_XPOS_VALUE n) x).set (MOT_AX_ELEC_ELEC_OFF n) off.toNat).setI (MOT_AX_POS_UM_VALUE n)
    (xposToUm x (c.get (MOT_AX_LEAD_LEAD_NM n)))).setAx n (fun a => { a with pos := x * u }))
  let c := ((c.put (MOT_AX_STAT_STEPLOSS_POSSIBLE n) false).put (MOT_AX_STAT_STALL n) false).put (MOT_AX_STAT_REFD n) true
  if c.get (MOT_AX_STAT_SEG n) = 8 then c else (c.set (MOT_AX_STAT_SEG n) 0).setI (MOT_AX_TGT_VALUE n) x

/-- Whether an axis can be re-referenced: POS_VALID and STANDSTILL of its channel (R136). -/
def Chip.canReref (c : Chip) (n : Nat) : Bool := c.is (FBK_CH_STAT_POS_VALID n) && c.is (FBK_CH_STAT_STANDSTILL n)

/-- A refusal of a re-reference: F0703 and FAULT.NOREF (R136, R137). -/
def Chip.noRef (c : Chip) (n : Nat) : Chip := (c.put (MOT_AX_FAULT_NOREF n) true).raiseArg 0x0703 0 n

/-- A REREF command: done, or refused with E316 (R137). -/
def Chip.motReref (c : Chip) (n : Nat) : Chip × Nat :=
  if c.canReref n ∧ (c.ax n).v = 0 then (c.reref n, 0) else (c.noRef n, 316)

/-- A hard stop (R133, R135): the advance stops at once. While moving it sets STEPLOSS_POSSIBLE and enters HALTED, and raises F0701
unless a stall is raised in its place (R142); at standstill XPOS stays valid and no fault is raised. -/
def Chip.hardStop (c : Chip) (n : Nat) (raise : Bool) : Chip :=
  if (c.ax n).v = 0 then
    if c.get (MOT_AX_STAT_SEG n) = 8 then ((c.setI (MOT_AX_TGT_VALUE n) (c.xpos n)).standIn n 0) else c
  else
    let c := (c.standIn n 10).put (MOT_AX_STAT_STEPLOSS_POSSIBLE n) true
    if raise then (c.put (MOT_AX_FAULT_HARD n) true).raiseArg 0x0701 0 n else c

/-! ### Applying a motion set (R126 to R128, R136) -/

/-- Who applies a motion set (R128): DOOR or a register write, a DOM slot, the console, or the return set of an emergency. -/
inductive MotSrc where
  | door | slot | console | ret
deriving DecidableEq, Repr

/-- The profile of an index as the registers hold it. -/
def Chip.profile (c : Chip) (p : Nat) : Profile :=
  { vStart := c.get (MOT_PRF_VSTART_V p), vBrk := c.get (MOT_PRF_VBRK_V p), vMax := c.get (MOT_PRF_VMAX_V p),
    vStop := c.get (MOT_PRF_VSTOP_V p), a1 := c.get (MOT_PRF_ACC_A1 p), a2 := c.get (MOT_PRF_ACC_A2 p),
    d1 := c.get (MOT_PRF_DEC_D1 p), d2 := c.get (MOT_PRF_DEC_D2 p) }

/-- The profile check of Table 06-2. -/
def profOk (p : Profile) : Bool :=
  decide (1 ≤ p.vStart) && decide (p.vStart ≤ p.vBrk) && decide (p.vBrk ≤ p.vMax) && decide (1 ≤ p.vStop) &&
    decide (p.vStop ≤ p.vBrk) && decide (1 ≤ p.a1) && decide (1 ≤ p.a2) && decide (1 ≤ p.d1) && decide (1 ≤ p.d2)

/-- Whether new motions are held: by a deferred MOTU operation or a reset of MOT (R25, R65). -/
def Chip.motHeld (c : Chip) : Bool := c.sys.motuDeferred.isSome || c.bit SYS_FRST_STAT_BUSY 1

/-- Why an application is refused: none, or an error number; 0 stands for the refusal without a number under R25. -/
def Chip.applyRefusal (c : Chip) (n m : Nat) (src : MotSrc) : Option Nat :=
  let lead := c.get (MOT_AX_LEAD_LEAD_NM n)
  let p := c.profile (c.get (MOT_MS_CFG_PROFILE m))
  let seg := c.get (MOT_AX_STAT_SEG n)
  if ¬ c.is (MOT_AX_CFG_ENABLE n) ∨ lead = 0 then some 242
  else if profOk p = false then some 242
  else if 1000000 * lead < p.vMax * c.get (MOT_AX_CFG_USTEPS n) * 1000 then some 242
  else if c.get (DOM_D_RATE_RATE n) < p.vMax then some 242
  else if src = .console ∧ m < 32 then some 402
  else if seg = 9 ∧ src ≠ .ret then some 315
  else if c.motHeld ∧ src ≠ .ret then some 0
  else if (seg = 10 ∨ c.is (MOT_AX_STAT_STEPLOSS_POSSIBLE n)) ∧ c.canReref n = false ∧ ¬ c.is (MOT_AX_TRIP_DEGR n) then some 316
  else none

/-- The chip with a motion set applied: target and profile stand from the next profile tick, after a re-reference where one is due;
or refused with STAT.REFUSED set, and F0703 for want of a reference (R126 to R128, R131, R136). -/
def Chip.applySet (c : Chip) (n m : Nat) (src : MotSrc) : Chip × Option Nat :=
  match c.applyRefusal n m src with
  | some e =>
    let c := c.put (MOT_AX_STAT_REFUSED n) true
    (if e = 316 then c.noRef n else c, some e)
  | none =>
    let c := c.put (MOT_AX_STAT_REFUSED n) false
    let halted := c.get (MOT_AX_STAT_SEG n) = 10
    let c := if (halted ∨ c.is (MOT_AX_STAT_STEPLOSS_POSSIBLE n)) ∧ c.canReref n then c.reref n else c
    let c := if c.get (MOT_AX_STAT_SEG n) = 10 then c.set (MOT_AX_STAT_SEG n) 0 else c
    let um := c.getI (MOT_MS_TGT_TGT m) + (if c.is (MOT_MS_CFG_REL m) then c.getI (MOT_AX_POS_UM_VALUE n) else 0)
    let t := c.roundTarget n (umToXpos um (c.get (MOT_AX_LEAD_LEAD_NM n)))
    let p := c.profile (c.get (MOT_MS_CFG_PROFILE m))
    (((c.setI (MOT_AX_TGT_VALUE n) t).setAx n (fun a => { a with prof := p })), none)

/-- After an emergency stop: the return set where RET_EN is 1, else IDLE on the spot (R134). -/
def Chip.returnSet (c : Chip) (n : Nat) : Chip :=
  let c := (c.setI (MOT_AX_TGT_VALUE n) (c.xpos n)).standIn n 0
  if c.is (MOT_AX_TRIP_RET_EN n) then (c.applySet n (c.get (MOT_AX_TRIP_RET_SET n)) .ret).1 else c

/-- The order of trip sources in one tick: edge, force, vision, then the island signal (R203). -/
def tripRank (s : Nat) : Nat := ([1, 0, 2, 3][s]?).getD 3

/-- The trip that stands as the first of two: the earlier, or in one tick the one of lower rank (R203). -/
def firstTrip (old : Option Nat) (oldAt : Nat) (src : Option Nat) (now : Nat) : Option Nat × Nat :=
  match old, src with
  | none, _ => (src, now)
  | some _, none => (old, oldAt)
  | some o, some s => if oldAt = now ∧ tripRank s < tripRank o then (some s, now) else (some o, oldAt)

/-- Emergency deceleration: an axis in HALTED is untouched; an axis at speed 0 has stopped already (R133, R134). -/
def Chip.emergency (c : Chip) (n : Nat) (src : Option Nat) : Chip :=
  if c.get (MOT_AX_STAT_SEG n) = 10 then c
  else
    let c := c.setAx n (fun a =>
      { a with tripSrc := (firstTrip a.tripSrc a.tripAt src c.now).1, tripAt := (firstTrip a.tripSrc a.tripAt src c.now).2 })
    if (c.ax n).v = 0 then c.returnSet n else (c.set (MOT_AX_STAT_SEG n) 9).showSpeed n

/-- A trip input of a source (0 force, 1 edge, 2 vision, 3 island signal): acts where MOT_AXn_TRIP enables it (R134). -/
def Chip.trip (c : Chip) (n src : Nat) : Chip := if c.bit (MOT_AX_TRIP_EN n) src then c.emergency n (some src) else c

/-- A STOP: the target becomes the stopping point (R133); refused in EMERG with E315. -/
def Chip.softStop (c : Chip) (n : Nat) : Chip × Nat :=
  if c.get (MOT_AX_STAT_SEG n) = 9 then (c.put (MOT_AX_STAT_REFUSED n) true, 315)
  else if c.get (MOT_AX_STAT_SEG n) = 10 then (c, 0)
  else
    let a := c.ax n
    let u := c.unit n
    let p := a.pos + c.dir n * stopDistance a.prof a.v
    let t := if u = 0 ∨ a.v = 0 then c.xpos n else c.roundTarget n (divNear p u)
    let c := c.setI (MOT_AX_TGT_VALUE n) t
    (if c.get (MOT_AX_STAT_SEG n) = 8 then c.standIn n 0 else c, 0)

/-! ### The profile tick (R125, R129 to R131) -/

/-- The acceleration of a profile at a speed in nm/s: A1 below V_BRK, A2 from it on (R129). -/
def profAcc (p : Profile) (v : Nat) : Nat := if v < p.vBrk * 1000 then p.a1 else p.a2

/-- The deceleration of a profile at a speed in nm/s: D2 above V_BRK, D1 otherwise (R129). -/
def profDec (p : Profile) (v : Nat) : Nat := if p.vBrk * 1000 < v then p.d2 else p.d1

/-- The axis leaves standstill toward its target at V_START (R129, R131). -/
def Chip.leave (c : Chip) (n : Nat) : Chip :=
  let d := c.getI (MOT_AX_TGT_VALUE n) - c.xpos n
  let a := c.ax n
  let c := ((c.put (MOT_AX_STAT_DIR n) (decide (d < 0))).set (MOT_AX_STAT_SEG n) 1).setAx n
    (fun x => { x with v := a.prof.vStart * 1000, acc := 0, pos := c.xpos n * c.unit n, holding := false })
  (c.showPhases n).showSpeed n

/-- Whether T_REV has passed since the last stop (R131). -/
def Chip.restOver (c : Chip) (n : Nat) : Bool :=
  match (c.ax n).stopAt with
  | none => true
  | some s => decide (c.get (MOT_AX_CFG_T_REV n) * 1000000 ≤ c.now - s)

/-- Whether the target lies at least one issued microstep away: nearer than that no microstep leads closer to it (R124, R125; log 15). -/
def Chip.offTarget (c : Chip) (n : Nat) : Bool := decide (c.ustep n ≤ (c.getI (MOT_AX_TGT_VALUE n) - c.xpos n).natAbs)

/-- The advance of one tick at the speed now held: 1 us, never past a target that lies ahead where `bound` is set (R125, R131). -/
def Chip.advance (c : Chip) (n : Nat) (bound : Bool) : Chip :=
  let a := c.ax n
  let d := c.dir n
  let p := a.pos + d * (a.v * 256 : Nat)
  let t := c.getI (MOT_AX_TGT_VALUE n) * c.unit n
  let p := if bound ∧ 0 < (t - a.pos) * d ∧ (t - p) * d < 0 then t else p
  (c.setAx n (fun x => { x with pos := p })).issue n p 512

/-- One profile tick of an axis: the rule of R131, the segments of Table 06-3, and the emergency of R134. -/
def Chip.tickAxis (c : Chip) (n : Nat) : Chip :=
  let a := c.ax n
  let seg := c.get (MOT_AX_STAT_SEG n)
  let p := a.prof
  if seg = 10 ∨ ¬ c.is (MOT_AX_CFG_ENABLE n) then c
  else if seg = 9 then
    if a.v ≤ p.vStop * 1000 then c.returnSet n
    else
      let v := max (p.vStop * 1000) (a.v - c.get (MOT_AX_EMERG_EMERG_DEC n))
      ((c.setAx n (fun x => { x with v := v, acc := -(c.dir n) * c.get (MOT_AX_EMERG_EMERG_DEC n) })).advance n false).showSpeed n
  else if a.v = 0 then
    if c.getI (MOT_AX_TGT_VALUE n) ≠ c.xpos n ∧ c.restOver n ∧ (c.offTarget n ∨ seg = 8) then c.leave n else c
  else
    let d := c.dir n
    let ahead := (c.getI (MOT_AX_TGT_VALUE n) * c.unit n - a.pos) * d
    if ahead = 0 ∧ a.v ≤ max (p.vStop * 1000) (p.vStart * 1000) then c.standIn n 0
    else if stopReached p a.v ahead then
      let v := a.v - profDec p a.v
      let c := c.setAx n (fun x => { x with acc := -d * profDec p a.v })
      if v ≤ p.vStop * 1000 then
        if 0 < ahead then
          (((c.setAx n (fun x => { x with v := p.vStop * 1000, acc := 0 })).set (MOT_AX_STAT_SEG n) 7).advance n true).showSpeed n
        else if c.getI (MOT_AX_TGT_VALUE n) = c.xpos n then c.standIn n 0 else c.standIn n 8
      else
        (((c.setAx n (fun x => { x with v := v })).set (MOT_AX_STAT_SEG n) (if p.vBrk * 1000 < v then 5 else 6)).advance n
          true).showSpeed n
    else if p.vMax * 1000 < a.v then
      let v := max (a.v - profDec p a.v) (p.vMax * 1000)
      (((c.setAx n (fun x => { x with v := v, acc := -d * profDec p a.v })).set (MOT_AX_STAT_SEG n)
        (if p.vBrk * 1000 < v then 5 else 6)).advance n true).showSpeed n
    else if a.v < p.vMax * 1000 then
      let v := min (a.v + profAcc p a.v) (p.vMax * 1000)
      (((c.setAx n (fun x => { x with v := v, acc := d * profAcc p a.v })).set (MOT_AX_STAT_SEG n)
        (if v = p.vMax * 1000 then 4 else if v < p.vBrk * 1000 then 2 else 3)).advance n true).showSpeed n
    else
      (((c.setAx n (fun x => { x with acc := 0 })).set (MOT_AX_STAT_SEG n) 4).advance n true).showSpeed n

/-! ### Hold scale, step loss and stall (R140 to R142) -/

/-- After HOLD_DLY at standstill the phase scale falls to SC_HOLD (R140). -/
def Chip.holdScale (c : Chip) (n : Nat) : Chip :=
  let a := c.ax n
  let due : Bool := match a.stopAt with
    | none => true
    | some s => decide (c.get (MOT_AX_SCALE_HOLD_DLY n) * 1000000 ≤ c.now - s)
  if a.v = 0 ∧ c.get (MOT_AX_STAT_SEG n) = 0 ∧ due then (c.setAx n (fun x => { x with holding := true })).showPhases n else c

/-- Every control cycle: DEV and the load angle from the encoder, and the count of stalled cycles (R141, R142). -/
def Chip.stepLossCheck (c : Chip) (n : Nat) : Chip :=
  if c.is (FBK_CH_STAT_POS_VALID n) then
    let dev := c.getI (MOT_AX_POS_UM_VALUE n) - c.getI (FBK_CH_POS_POS_UM n)
    let watched := c.is (CUR_AX_STAT_DRIVING n) && !c.is (MOT_AX_STAT_STEPLOSS_POSSIBLE n)
    let big := decide (c.get (MOT_AX_STALL_STALL_FS n) * c.get (MOT_AX_LEAD_LEAD_NM n) ≤ dev.natAbs * 16000)
    (c.setI (MOT_AX_DEV_VALUE n) dev).setAx n (fun a =>
      { a with angleOk := true, stallCnt := if watched then (if big then min 15 (a.stallCnt + 1) else 0) else a.stallCnt })
  else c.setAx n (fun a => { a with angleOk := false })

/-- A stall: STALL, STEPLOSS_POSSIBLE, a hard stop without F0701, F0702, and the report to DOOR (R142). -/
def Chip.stallAxis (c : Chip) (n : Nat) : Chip :=
  if c.get (MOT_AX_STALL_STALL_CYC n) ≤ (c.ax n).stallCnt ∧ c.is (CUR_AX_STAT_DRIVING n) ∧
      ¬ c.is (MOT_AX_STAT_STEPLOSS_POSSIBLE n) then
    let c := ((c.hardStop n false).put (MOT_AX_STAT_STALL n) true).put (MOT_AX_STAT_STEPLOSS_POSSIBLE n) true
    ((c.setAx n (fun a => { a with stallCnt := 0, stallRep := true })).put (MOT_AX_FAULT_STALL_S n) true).raiseArg 0x0702 0 n
  else c

/-! ### Drive conditions and coil faults (R145, R159) -/

/-- Whether CUR may drive an axis: both ENABLEs, the voted bridge enable, the lease confirmed by the steering, and no latch (R145, R159,
R342). -/
def Chip.mayDrive (c : Chip) (n : Nat) : Bool :=
  c.is (MOT_AX_CFG_ENABLE n) && c.is (CUR_AX_CFG_ENABLE n) && c.is VOTE_STAT_BRIDGE && c.is PAIR_STAT_HELD &&
    c.pair.claimAt.isNone && !c.is (CUR_AX_STAT_LATCHED_OFF n) && (c.cu n).adcOk

/-- All outputs of an axis high at once (R145). -/
def Chip.gatesOff (c : Chip) (n : Nat) : Chip :=
  let c := (c.put (CUR_AX_STAT_DRIVING n) false).setCu n (fun x =>
    { x with phA := { x.phA with bridge := .off, ended := true, start := none },
             phB := { x.phB with bridge := .off, ended := true, start := none } })
  { c with pins := { c.pins with gates := setBit c.pins.gates n false } }

/-- A drive condition has ended: outputs high, and MOT takes a loss of bridge enable (R133, R145). -/
def Chip.bridgeLoss (c : Chip) (n : Nat) : Chip :=
  if c.is (CUR_AX_STAT_DRIVING n) ∧ c.mayDrive n = false then (c.gatesOff n).hardStop n true else c

/-- The drive conditions hold: the outputs are driven from this boundary on (R145). -/
def Chip.driveOn (c : Chip) (n : Nat) : Chip :=
  if c.mayDrive n ∧ ¬ c.is (CUR_AX_STAT_DRIVING n) then
    let c := (c.put (CUR_AX_STAT_DRIVING n) true).setCu n (fun x =>
      { x with phA := { x.phA with bridge := .slow }, phB := { x.phB with bridge := .slow } })
    { c with pins := { c.pins with gates := setBit c.pins.gates n true } }
  else c

/-- An overcurrent or open-phase fault: outputs high and latched off, hard stop, the sticky bit and the raise (R159). -/
def Chip.latchOff (c : Chip) (n : Nat) (sticky : Fld) (code : Nat) : Chip :=
  (((c.gatesOff n).hardStop n true).put (CUR_AX_STAT_LATCHED_OFF n) true |>.setCu n (fun x =>
      { x with unlatchable := false, latch := setBit x.latch (code - 0x0801) true })
    |>.put sticky true).raiseArg code 0 n

end Sys2Proof.Machine
end

