-- ==== Sys2Proof/Machine/Domain.lean ====
section
/-! DEFINITION. Position domains and the event unit: interpolated position, values and validity of the eight domains, crossings and
predictions, the 64 slots, their actions, repeats and late policies (spec/05_position_domains.md R103 to R121, spec/04_feedback.md R85). -/

namespace Sys2Proof.Machine

/-! ### Reported speed and interpolated position of a feedback channel (R85, R89) -/

/-- |V_REP| of a channel as its registers show it, 1/65,536 um/s. -/
def Chip.speed16 (c : Chip) (n : Nat) : Nat := (c.getI (FBK_CH_SPEED_SPEED_UM n)).natAbs * 65536 + c.get (FBK_CH_SPEED_FRAC_FRAC n)

/-- V_REP with its sign, 1/65,536 um/s. -/
def Chip.speedI (c : Chip) (n : Nat) : Int := if c.is (FBK_CH_STAT_DIR n) then -(c.speed16 n : Int) else c.speed16 n

/-- The latched position of a channel, nm. -/
def Chip.latchNm (c : Chip) (n : Nat) : Int := c.getI (FBK_CH_LATCH_CNT_VALUE n) * c.get (FBK_CH_PITCH_PITCH_NM n)

/-- The interpolated position of a channel now, nm (R85). -/
def Chip.interpNm (c : Chip) (n : Nat) : Int :=
  let pitch := c.get (FBK_CH_PITCH_PITCH_NM n)
  let dt := c.now - c.get64 (FBK_CH_LATCH_TS_LO_VALUE n) (FBK_CH_LATCH_TS_HI_VALUE n)
  let k : Nat := min (c.speed16 n * dt / 65536000000) (pitch - 1000)
  if c.is (FBK_CH_STAT_DIR n) then c.latchNm n - k else c.latchNm n + k

/-! ### Values (R103 to R107) -/

/-- LINES of the camera of D5 or D6. -/
def Chip.camLines (c : Chip) (d : Nat) : Nat := if d = 5 then c.get DOM_CAM0_LINES_LINES else c.get DOM_CAM1_LINES_LINES

/-- Whether a domain is valid. -/
def Chip.domValid (c : Chip) (d : Nat) : Bool := c.bit DOM_STAT_VALID d

/-- Whether an axis domain takes its value from MOT (R104). -/
def Chip.domDegraded (c : Chip) (d : Nat) : Bool := decide (d < 4) && c.bit DOM_STAT_DEGRADED d

/-- The last measured value of a domain; of D7 the vehicle time. -/
def Chip.domVal (c : Chip) (d : Nat) : Int := if d = 7 then (c.tbVeh : Int) else (c.dom.val[d]?).getD 0

/-- The value of a domain now: D0 to D3 interpolated between samples (nm). -/
def Chip.domNow (c : Chip) (d : Nat) : Int :=
  if d < 4 ∧ c.domDegraded d = false ∧ c.domValid d then c.interpNm d else c.domVal d

/-- The value of a domain in its register unit: um for D0 to D3. -/
def Chip.domUnits (c : Chip) (d : Nat) : Int := if d < 4 then divTrunc (c.domNow d) 1000 else c.domNow d

/-- The chip with the value registers of a domain shown. -/
def Chip.showDom (c : Chip) (d : Nat) : Chip := c.set64I (DOM_D_VAL_LO_VALUE d) (DOM_D_VAL_HI_VALUE d) (c.domUnits d)

/-- The distance from a value to a target in the value's unit (nm for D0 to D3), positive where the target lies ahead in the increasing
direction; D4 is modular (R105). -/
def domDiff (d : Nat) (target value : Int) : Int :=
  if d < 4 then target * 1000 - value
  else if d = 4 then (let m := (target - value) % 2 ^ 32; if 2 ^ 31 ≤ m then m - 2 ^ 32 else m)
  else target - value

/-! ### Slots -/

/-- The domain of a slot. -/
def Chip.slotDom (c : Chip) (n : Nat) : Nat := c.get (DOM_SLOT_CFG_DOMAIN n)

/-- The approach of a slot: 0 increasing, 1 decreasing, 2 either. -/
def Chip.slotApp (c : Chip) (n : Nat) : Nat := c.get (DOM_SLOT_CFG_APPROACH n)

/-- Whether a slot is armed. -/
def Chip.armed (c : Chip) (n : Nat) : Bool := c.is (DOM_SLOT_STAT_ARMED n)

/-- The programmed target of a slot, in domain units. -/
def Chip.slotProgrammed (c : Chip) (n : Nat) : Int :=
  if c.slotDom n < 4 then c.getI (DOM_SLOT_TGT_LO_TARGET n)
  else if c.slotDom n = 4 then c.get (DOM_SLOT_TGT_LO_TARGET n)
  else c.get64 (DOM_SLOT_TGT_LO_TARGET n) (DOM_SLOT_TGT_HI_TARGET n)

/-- The working target of a slot, after its repeat advances. -/
def Chip.slotTarget (c : Chip) (n : Nat) : Int := lookupD c.dom.target n (c.slotProgrammed n)

/-- The chip with the working target of a slot set. -/
def Chip.setTarget (c : Chip) (n : Nat) (v : Int) : Chip := { c with dom := { c.dom with target := insertD c.dom.target n v } }

/-- The late policy that stands for a slot: 0 FIRE, 1 DROP, 2 NEXT (Table 05-4). -/
def Chip.slotPolicy (c : Chip) (n : Nat) : Nat :=
  let p := c.get (DOM_SLOT_CFG_LATE_POL n)
  let a := c.get (DOM_SLOT_CFG_ACTION n)
  let d := c.slotDom n
  if p < 3 then p
  else if a = 0 ∨ a = 4 then 0
  else if (d = 5 ∨ d = 6) ∧ c.get (DOM_SLOT_REP_REPEAT n) ≠ 0 then 2
  else 1

/-- The armed slots of a domain that wait for nothing, in descending order (R115). -/
def Chip.domSlots (c : Chip) (d : Nat) : List Nat :=
  (List.range 64).reverse.filter (fun n => c.armed n && c.slotDom n == d && !c.dom.waiting.contains n)

/-- Whether a target counts as passed at the value now (R118). -/
def Chip.slotPassed (c : Chip) (n : Nat) (target : Int) : Bool :=
  let k := domDiff (c.slotDom n) target (c.domNow (c.slotDom n))
  if c.slotApp n = 0 then decide (k ≤ 0)
  else if c.slotApp n = 1 then decide (0 ≤ k) || (c.slotDom n == 4 && k == -(2 ^ 31))
  else false

/-- The chip with F0604 raised, or ended, as armed slots wait on an invalid domain (R118). -/
def Chip.checkWaiting (c : Chip) : Chip := if c.dom.waiting = [] then c.endCondition 0x0604 else c

/-- A slot disarmed. -/
def Chip.disarm (c : Chip) (n : Nat) : Chip :=
  let c := c.put (DOM_SLOT_STAT_ARMED n) false
  ({ c with dom := { c.dom with waiting := c.dom.waiting.filter (· != n), target := eraseD c.dom.target n } } : Chip).checkWaiting

/-- The prediction of a slot on D0 to D4: the tick at which the target is reached at the present speed, the distance, and whether the slot may
fire by it (R109). -/
def Chip.predict (c : Chip) (n : Nat) : Option (Nat × Nat × Bool) :=
  let d := c.slotDom n
  let v : Int := if d < 4 then c.speedI d else c.getI FBK_VEH_SPEED_SPEED_MM
  let k := domDiff d (c.slotTarget n) (c.domVal d)
  if 4 < d ∨ c.domDegraded d ∨ v = 0 ∨ k * v ≤ 0 then none
  else
    let dist := k.natAbs
    let num := if d < 4 then 65536000000 else 1000000000
    let fine : Bool := if d < 4 then decide (dist ≤ c.get (FBK_CH_PITCH_PITCH_NM d) - 1000) else decide (dist * 1000000 ≤ v.natAbs * 50)
    let way : Bool := c.slotApp n == 2 || (c.slotApp n == 0 && decide (0 < v)) || (c.slotApp n == 1 && decide (v < 0))
    let ts := if d < 4 then c.get64 (FBK_CH_LATCH_TS_LO_VALUE d) (FBK_CH_LATCH_TS_HI_VALUE d) else (c.dom.ts[d]?).getD 0
    some (ts + 4 * divUp (dist * num) (4 * v.natAbs), dist, fine && way)

/-- The chip with DOM_PRED of every armed slot of a domain recomputed (R109). -/
def Chip.showPred (c : Chip) (d : Nat) : Chip :=
  if 4 < d then c
  else (c.domSlots d).foldl (fun c n =>
    c.set64 (DOM_PRED_LO_TICK n) (DOM_PRED_HI_TICK n) (match c.predict n with | some p => p.1 | none => 0)) c

/-! ### Actions (R113 to R116) -/

/-- An action that cannot be delivered (R113). -/
def Chip.slotErr (c : Chip) (n : Nat) : Chip := (c.put (DOM_SLOT_STAT_ERR n) true).raiseArg 0x0601 0 n

/-- The head entry of the latch FIFO shown. -/
def Chip.showLf (c : Chip) : Chip :=
  let c := c.set DOM_LF_STAT_LEVEL c.dom.lf.length
  match c.dom.lf with
  | e :: _ => (((c.set DOM_LF_SLOT_SLOT e.slot).set DOM_LF_SLOT_DOMAIN e.dom).set64 DOM_LF_TS_LO_TICK DOM_LF_TS_HI_TICK e.ts).set64
      DOM_LF_VAL_LO_VALUE DOM_LF_VAL_HI_VALUE e.val
  | [] => (((c.set DOM_LF_SLOT_SLOT 0).set DOM_LF_SLOT_DOMAIN 0).set64 DOM_LF_TS_LO_TICK DOM_LF_TS_HI_TICK 0).set64
      DOM_LF_VAL_LO_VALUE DOM_LF_VAL_HI_VALUE 0

/-- LATCH_ACTION (R116). -/
def Chip.latchAction (c : Chip) (n d tick : Nat) : Chip :=
  if 32 ≤ c.dom.lf.length then (c.put DOM_LF_STAT_OVF true).raise 0x0605
  else ({ c with dom := { c.dom with lf := c.dom.lf ++ [{ slot := n, dom := d, ts := tick, val := unsignedOf 64 (c.domUnits d) }] } } : Chip).showLf

/-- Whether the event unit owns a GPIO (R41). -/
def Chip.domOwns (c : Chip) (g : Nat) : Bool := c.bit GPIO_OWNER_VALUE g

/-- The chip with a GPIO driven. -/
def Chip.gpioSet (c : Chip) (g : Nat) (b : Bool) : Chip := { c with pins := { c.pins with gpio := setBit c.pins.gpio g b } }

/-- PIN_ACTION (R114). -/
def Chip.pinAction (c : Chip) (n param tick : Nat) : Chip :=
  let g := bitsOf param 0 3
  if c.domOwns g = false then c.slotErr n
  else
    let level := bitAt c.pins.gpio g
    let base := match c.pins.pulses.find? (fun p => p.1 == g) with | some p => p.2.1 | none => level
    let stop : Chip := { c with pins := { c.pins with pulses := c.pins.pulses.filter (fun p => p.1 != g) } }
    match bitsOf param 4 2 with
    | 0 => stop.gpioSet g false
    | 1 => stop.gpioSet g true
    | 2 => stop.gpioSet g (!base)
    | _ =>
      let w := bitsOf param 16 16
      let c := stop.gpioSet g (!base)
      ({ c with pins := { c.pins with pulses := c.pins.pulses ++ [(g, base, tick + 1000 * w)] } } : Chip).emit (.pulse g w)

/-- POST_ACTION: an entry offered to a queue bound to DOM (R113, R363). -/
def Chip.postAction (c : Chip) (n param : Nat) : Chip :=
  let q := bitsOf param 0 7
  let payload := bitsOf param 8 24
  if c.get (WQM_Q_CFG_SOURCE q) = 15 ∧ c.is (WQM_Q_CFG_EN q) then
    let (c, r) := c.offer q 15 (n * 65536 + c.get (DOM_SLOT_STAT_FIRE_CNT n)) (crc32 (leBytes 3 payload)) false
      { op := .post, a := n, b := payload, v := 0 } .nobody
    match r with
    | .refused _ _ => c.slotErr n
    | _ => c
  else c.slotErr n

/-- The action of a slot delivered (Table 05-3). -/
def Chip.slotAction (c : Chip) (n tick : Nat) : Chip :=
  let p := c.get (DOM_SLOT_PARAM_PARAM n)
  match c.get (DOM_SLOT_CFG_ACTION n) with
  | 0 => { c with dom := { c.dom with motions := c.dom.motions ++ [(n, bitsOf p 0 2, bitsOf p 4 6)] } }
  | 1 => c.postAction n p
  | 2 => c.pinAction n p tick
  | 3 => c.latchAction n (bitsOf p 0 3) tick
  | 4 => { c with dom := { c.dom with sigs := setBit c.dom.sigs (bitsOf p 0 3) true } }
  | 5 =>
    let l := if c.slotDom n = 5 ∨ c.slotDom n = 6 then bitsOf (c.domVal (c.slotDom n)).toNat 0 16 else 0
    let (c, ok) := c.stripe (bitsOf p 0 2) (bitsOf p 4 6) l
    if ok then c else c.slotErr n
  | _ => c.slotErr n

/-! ### Firing and repeat (R110, R117) -/

/-- The occurrence of a repeating slot after `k` advances from a target on D0 to D4 and D7. -/
def Chip.slotStep (c : Chip) (n : Nat) (target : Int) (k : Nat) : Int :=
  let r : Int := c.get (DOM_SLOT_REP_REPEAT n) * k
  if c.slotApp n = 1 then target - r else target + r

/-- The occurrences of a camera slot in one frame, and the place of a composite target in that order. -/
def Chip.lineIndex (c : Chip) (n : Nat) (first composite : Nat) : Nat :=
  let rep := max 1 (c.get (DOM_SLOT_REP_REPEAT n))
  let per := divUp (max 1 (c.camLines (c.slotDom n) - first)) rep
  composite / 65536 * per + divUp (composite % 65536 - first) rep

/-- The composite target of a place in the order of a camera slot's occurrences. -/
def Chip.lineOf (c : Chip) (n : Nat) (first i : Nat) : Nat :=
  let rep := max 1 (c.get (DOM_SLOT_REP_REPEAT n))
  let per := divUp (max 1 (c.camLines (c.slotDom n) - first)) rep
  i / per * 65536 + first + rep * (i % per)

/-- The advance of a target until it lies ahead of the value now: the new target and the occurrences passed over, the present target
counted where `self` is set (R117, R119). -/
def Chip.slotAdvance (c : Chip) (n : Nat) (self : Bool) : Int × Nat :=
  let d := c.slotDom n
  let t := c.slotTarget n
  let rep := c.get (DOM_SLOT_REP_REPEAT n)
  if d = 5 ∨ d = 6 then
    let first := bitsOf (c.slotProgrammed n).toNat 0 16
    let per := divUp (max 1 (c.camLines d - first)) (max 1 rep)
    let i := c.lineIndex n first t.toNat
    let v := (c.domVal d).toNat
    let line := v % 65536
    -- the least place whose target lies above the value
    let j := v / 65536 * per + (if line < first then 0 else min per ((line - first) / max 1 rep + 1))
    let next := max (i + 1) j
    (c.lineOf n first next, next - i - 1 + cond self 1 0)
  else
    let t1 := c.slotStep n t 1
    let k := domDiff d t1 (c.domNow d)
    let r : Int := if d < 4 then rep * 1000 else rep
    let behind : Int := if c.slotApp n = 1 then k else -k
    let more : Nat := if behind < 0 ∨ r = 0 then 0 else (behind / r).toNat + 1
    (c.slotStep n t (1 + more), more + cond self 1 0)

/-- MISSED raised by skipped occurrences, saturating. -/
def Chip.addMissed (c : Chip) (n k : Nat) : Chip := c.set (DOM_SLOT_STAT_MISSED n) (satNat 8 (c.get (DOM_SLOT_STAT_MISSED n) + k))

/-- One firing recorded and its action delivered (R110, R113): the tick, whether late, the lateness in domain units. -/
def Chip.fireOnce (c : Chip) (n tick : Nat) (late : Bool) (lateness : Int) : Chip :=
  let c := ((c.put (DOM_SLOT_STAT_FIRED n) true).put (DOM_SLOT_STAT_LATE n) late).incWrap (DOM_SLOT_STAT_FIRE_CNT n)
  let c := c.set64 (DOM_PRED_LO_TICK n) (DOM_PRED_HI_TICK n) tick
  let c := if late then c.setSatI (DOM_LATE_LATENESS n) lateness else c
  c.slotAction n tick

/-- The lateness of a target at the value now: value less target, in domain units, lines for D5 and D6 (Table 05-4). -/
def Chip.lateness (c : Chip) (n : Nat) (target : Int) : Int :=
  let d := c.slotDom n
  let k := -(domDiff d target (c.domNow d))
  if d < 4 then divTrunc k 1000
  else if d = 5 ∨ d = 6 then (if (c.domVal d).toNat / 65536 = target.toNat / 65536 then k else 2 ^ 31 - 1)
  else k

/-- A repeat advances to a target: DOM_PRED holds the firing tick no longer (R110, R117). -/
def Chip.advanceTo (c : Chip) (n : Nat) (t : Int) : Chip :=
  (c.setTarget n t).set64 (DOM_PRED_LO_TICK n) (DOM_PRED_HI_TICK n) 0

/-- A slot fires and its repeat advances (SLOT_FIRE, SLOT_REPEAT: R108, R110, R117). -/
def Chip.fire (c : Chip) (n tick : Nat) : Chip :=
  let c := c.fireOnce n tick false 0
  if c.get (DOM_SLOT_REP_REPEAT n) = 0 then c.disarm n
  else
    let t1 := if c.slotDom n = 5 ∨ c.slotDom n = 6 then
        (c.lineOf n (bitsOf (c.slotProgrammed n).toNat 0 16) (c.lineIndex n (bitsOf (c.slotProgrammed n).toNat 0 16) (c.slotTarget n).toNat + 1) : Int)
      else c.slotStep n (c.slotTarget n) 1
    if c.slotPassed n t1 = false then c.advanceTo n t1
    else
      let (t, k) := c.slotAdvance n false
      let c := (c.advanceTo n t).addMissed n k
      match c.slotPolicy n with
      | 0 => c.fireOnce n tick true (c.lateness n t1)
      | 1 => (c.disarm n).raiseArg 0x0602 0 n
      | _ => c

/-- The late rule for a slot whose target has passed, at an arm (`atArm`) or at a re-check (R118, R119): the error of a refused arm. -/
def Chip.lateRule (c : Chip) (n : Nat) (atArm : Bool) : Chip × Nat :=
  if c.slotPassed n (c.slotTarget n) = false then (c, 0)
  else
    match c.slotPolicy n with
    | 0 =>
      let c := c.fireOnce n c.now true (c.lateness n (c.slotTarget n))
      if c.get (DOM_SLOT_REP_REPEAT n) = 0 then (c.disarm n, 0)
      else
        let (t, k) := c.slotAdvance n false
        ((c.advanceTo n t).addMissed n k, 0)
    | 1 => if atArm then ((c.disarm n).put (DOM_SLOT_STAT_REFUSED n) true, 217) else ((c.disarm n).raiseArg 0x0602 0 n, 0)
    | _ =>
      if c.get (DOM_SLOT_REP_REPEAT n) = 0 then (c, 0)
      else
        let (t, k) := c.slotAdvance n true
        ((c.advanceTo n t).addMissed n k, 0)

/-! ### Samples, writes and validity (R104, R108, R118) -/

/-- The chip with the measured value of a domain set, without any check. -/
def Chip.domSet (c : Chip) (d : Nat) (v : Int) : Chip :=
  ({ c with dom := { c.dom with val := modAt c.dom.val d (fun _ => v), ts := modAt c.dom.ts d (fun _ => c.now) } } : Chip).showDom d

/-- Whether the move of a domain from one value to another crosses a slot's target (R108). -/
def Chip.crosses (c : Chip) (n : Nat) (old new : Int) : Bool :=
  let d := c.slotDom n
  let k0 := domDiff d (c.slotTarget n) old
  let k1 := k0 - (new - old)
  let up := decide (0 < k0) && decide (k1 ≤ 0)
  let down := decide (k0 < 0) && decide (0 ≤ k1) && !(d == 4 && k0 == -(2 ^ 31))
  if c.slotApp n = 0 then up else if c.slotApp n = 1 then down else up || down

/-- A measurement of a domain: every armed slot whose target it crosses fires, in descending order (R108, R115). -/
def Chip.domMeasure (c : Chip) (d : Nat) (new : Int) : Chip :=
  let old := c.domVal d
  let v := if d = 4 then new % 2 ^ 32 else new
  let hit := (c.domSlots d).filter (fun n => c.crosses n old new)
  let c := c.domSet d v
  (hit.foldl (fun c n => c.fire n c.now) c).showPred d

/-- Every armed slot of a domain checked again under the late rule (R108, R354). -/
def Chip.domRecheck (c : Chip) (d : Nat) : Chip :=
  ((c.domSlots d).foldl (fun c n => (c.lateRule n false).1) c).showPred d

/-- A written value of a domain: no crossing, and the late rule (R108). -/
def Chip.domWrite (c : Chip) (d : Nat) (v : Int) : Chip := (c.domSet d v).domRecheck d

/-- A sample of an axis domain from its channel's latched pair (R103). -/
def Chip.domFbk (c : Chip) (n : Nat) : Chip :=
  if n < 4 ∧ c.domValid n ∧ c.domDegraded n = false then c.domMeasure n (c.latchNm n) else c

/-- A sample of an axis domain from MOT's microstep position (R104). -/
def Chip.domMot (c : Chip) (n : Nat) : Chip :=
  if n < 4 ∧ c.domDegraded n ∧ c.domVal n ≠ c.getI (MOT_AX_POS_UM_VALUE n) * 1000 then c.domMeasure n (c.getI (MOT_AX_POS_UM_VALUE n) * 1000)
  else c

/-- A domain becomes valid: the slots that waited are checked (R118). -/
def Chip.domGains (c : Chip) (d : Nat) : Chip :=
  let mine := c.dom.waiting.filter (fun n => c.slotDom n == d)
  let c : Chip := { c with dom := { c.dom with waiting := c.dom.waiting.filter (fun n => !mine.contains n) } }
  let c := ((List.range 64).reverse.filter (fun n => mine.contains n)).foldl (fun c n => (c.lateRule n false).1) c
  (c.checkWaiting).showPred d

/-- A domain becomes invalid: its armed slots wait, and F0604 is raised (R118). -/
def Chip.domLoses (c : Chip) (d : Nat) : Chip :=
  let mine := c.domSlots d
  if mine = [] then c
  else ({ c with dom := { c.dom with waiting := c.dom.waiting ++ mine } } : Chip).raiseArg 0x0604 0 d

/-- What a domain's state should be: 0 invalid, 1 valid, 2 taken from MOT (R103, R104). -/
def Chip.domWant (c : Chip) (d : Nat) : Nat :=
  if d < 4 then
    if ¬ c.is (FBK_CH_CFG_ENABLE d) then 0
    else if c.is (FBK_CH_STAT_POS_VALID d) then 1
    else if c.is (MOT_AX_CFG_ENABLE d) then 2 else 0
  else if d = 4 then (if c.get FBK_WHL_STAT_SRC = 3 then 0 else 1)
  else if d = 7 then 1
  else if c.is (NOS_CAM_STAT_STREAM (d - 5)) ∧ c.camLines d ≠ 0 ∧ c.fuses.partN = false then 1 else 0

/-- The validity and source of a domain brought up to date; a return to the encoder waits for a control-cycle boundary (R103, R104). -/
def Chip.domUpdate (c : Chip) (boundary : Bool) (d : Nat) : Chip :=
  let was := if c.domDegraded d then 2 else if c.domValid d then 1 else 0
  let want := c.domWant d
  if want = was ∨ (was = 2 ∧ want = 1 ∧ boundary = false) then c
  else
    let c := (c.putBit DOM_STAT_VALID d (decide (want ≠ 0)))
    let c := if d < 4 then c.putBit DOM_STAT_DEGRADED d (decide (want = 2)) else c
    let v : Int := if want = 2 then c.getI (MOT_AX_POS_UM_VALUE d) * 1000 else if d < 4 then c.latchNm d else c.domVal d
    if want = 0 then c.domLoses d
    else if was = 0 then (c.domSet d v).domGains d
    else c.domMeasure d v

/-- Every domain brought up to date. -/
def Chip.domRefresh (c : Chip) (boundary : Bool) : Chip := [0, 1, 2, 3, 4, 5, 6].foldl (fun c d => c.domUpdate boundary d) c

/-! ### Arming (R111, R118, R119) -/

/-- The refusal of an arm by Table 05-2; none where the combination is permitted. -/
def Chip.armRefusal (c : Chip) (n : Nat) : Option Nat :=
  let d := c.slotDom n
  let app := c.slotApp n
  let act := c.get (DOM_SLOT_CFG_ACTION n)
  let rep := c.get (DOM_SLOT_REP_REPEAT n)
  let cam := d = 5 ∨ d = 6
  let line := bitsOf (c.slotProgrammed n).toNat 0 16
  let dl := c.get (DOM_SLOT_DL_VALUE n)
  let unit := c.is (DOM_SLOT_DL_UNIT n)
  if act = 6 ∨ act = 7 ∨ app = 3 then some 219
  else if 5 ≤ d ∧ app ≠ 0 then some 219
  else if app = 2 ∧ rep ≠ 0 then some 219
  else if (cam ∨ act = 5) ∧ c.fuses.partN then some 220
  else if cam ∧ (c.camLines d ≤ line ∨ c.camLines d ≤ rep) then some 220
  else if c.get (DOM_SLOT_CFG_LATE_POL n) = 2 ∧ (d ≤ 4 ∨ rep = 0) then some 218
  else if dl = 0 then some 222
  else if unit = false ∧ d ≤ 6 ∧ c.get (DOM_D_RATE_RATE d) = 0 then some 222
  else if unit = false ∧ cam ∧ c.camLines d ≤ line + dl then some 222
  else none

/-- An arm of a slot: the checks, the late rule at this tick, and the error of a refusal (R111, R118, R119). -/
def Chip.arm (c : Chip) (n : Nat) : Chip × Nat :=
  if c.armed n then (c, 0)
  else
    match c.armRefusal n with
    | some e => (c.put (DOM_SLOT_STAT_REFUSED n) true, e)
    | none =>
      let c := ((((c.put (DOM_SLOT_STAT_ARMED n) true).put (DOM_SLOT_STAT_FIRED n) false).put (DOM_SLOT_STAT_LATE n) false).put
        (DOM_SLOT_STAT_REFUSED n) false).set (DOM_SLOT_STAT_MISSED n) 0
      let c := (c.set (DOM_SLOT_STAT_POL n) (c.slotPolicy n)).set64 (DOM_PRED_LO_TICK n) (DOM_PRED_HI_TICK n) 0
      let c := c.setTarget n (c.slotProgrammed n)
      if c.domValid (c.slotDom n) = false then
        (({ c with dom := { c.dom with waiting := c.dom.waiting ++ [n] } } : Chip).raiseArg 0x0604 0 (c.slotDom n), 0)
      else
        let (c, e) := c.lateRule n true
        (c.showPred (c.slotDom n), e)

/-- The deadline of a slot as time, ns (Table 05-5). -/
def Chip.deadlineNs (c : Chip) (n : Nat) : Nat :=
  let v := c.get (DOM_SLOT_DL_VALUE n)
  let d := c.slotDom n
  if c.is (DOM_SLOT_DL_UNIT n) then v * 1000
  else if d = 7 then 4 * (v * 100000 / 400004)
  else if c.get (DOM_D_RATE_RATE d) = 0 then 0 else 4 * (v * 1000000000 / (4 * c.get (DOM_D_RATE_RATE d)))

/-! ### Every control cycle -/

/-- The rate of a domain against its declared rate: D0 to D3 um/s, D4 mm/s, D5 and D6 lines/s (R121). -/
def Chip.domRate (c : Chip) (d : Nat) : Nat :=
  if d < 4 then (if c.domDegraded d then (c.getI (MOT_AX_VEL_VALUE d)).natAbs else c.speed16 d / 65536)
  else if d = 4 then (c.getI FBK_VEH_SPEED_SPEED_MM).natAbs
  else match c.dom.lineDt[d - 5]? with | some k => if k = 0 then 0 else 1000000000 / k | none => 0

/-- RATE_CHECK (R121): ten consecutive cycles above the declared rate raise F0603 for D4 to D6; for D0 to D3 the count is what DOOR sees. -/
def Chip.rateCheck (c : Chip) (d : Nat) : Chip :=
  if c.domValid d = false then c
  else
    let above := decide (c.get (DOM_D_RATE_RATE d) < c.domRate d)
    let o := if above then min 15 ((c.dom.overs[d]?).getD 0 + 1) else 0
    let u := if above then 0 else min 15 ((c.dom.under[d]?).getD 0 + 1)
    let was := (c.dom.rateFlt[d]?).getD false
    let flt := if 10 ≤ o then true else if 10 ≤ u then false else was
    let c : Chip := { c with dom := { c.dom with overs := modAt c.dom.overs d (fun _ => o), under := modAt c.dom.under d (fun _ => u),
                                                 rateFlt := modAt c.dom.rateFlt d (fun _ => flt) } }
    if d < 4 then c
    else if flt ∧ was = false then c.raiseArg 0x0603 0 d
    else if was ∧ flt = false ∧ ¬ (c.dom.rateFlt.drop 4).contains true then c.endCondition 0x0603
    else c

/-- The motions that slots asked for in the last cycle, started at the boundary (R113). -/
def Chip.slotMotions (c : Chip) : Chip :=
  let ms := c.dom.motions
  let c : Chip := { c with dom := { c.dom with motions := [] } }
  ms.foldl (fun c m =>
    let (c, e) := c.applySet m.2.1 m.2.2 .slot
    match e with
    | some _ => (c.put (MOT_AX_STAT_ERR m.2.1) true).slotErr m.1
    | none => c) c

/-! ### The commands -/

/-- EXTRAPOLATED_FIRE (R109): inside the fine window the slot fires at its predicted tick. -/
def Chip.extrapolatedFire (c : Chip) (n : Nat) : Chip :=
  if c.armed n ∧ ¬ c.dom.waiting.contains n ∧ c.slotDom n ≤ 4 ∧ c.domValid (c.slotDom n) then
    match c.predict n with
    | some (tick, _, ok) => if ok ∧ tick ≤ c.now then c.fire n tick else c
    | none => c
  else c

/-- VEHICLE_TIME_FIRE (R107). -/
def Chip.vehicleTimeFire (c : Chip) (n : Nat) : Chip :=
  if c.armed n ∧ c.slotDom n = 7 ∧ c.slotTarget n ≤ (c.tbVeh : Int) then c.fire n c.now else c

/-- PIN_PULSE_END (R114): a pulse whose width has passed returns to its base level. -/
def Chip.pulseEnd (c : Chip) (g : Nat) : Chip :=
  match c.pins.pulses.find? (fun p => p.1 == g) with
  | some p => if p.2.2 ≤ c.now then
      ({ c with pins := { c.pins with pulses := c.pins.pulses.filter (fun q => q.1 != g) } } : Chip).gpioSet g p.2.1 else c
  | none => c

/-- EXTRAPOLATED_FIRE (R109). -/
def execExtrapolatedFire (t : Nat) (n : Fin 64) (s : State) : Host.Outcome State Fault Refusal := run .app t (fun c => c.extrapolatedFire n) s

/-- VEHICLE_TIME_FIRE (R107). -/
def execVehicleTimeFire (t : Nat) (n : Fin 64) (s : State) : Host.Outcome State Fault Refusal := run .app t (fun c => c.vehicleTimeFire n) s

/-- PIN_PULSE_END (R114). -/
def execPinPulseEnd (t : Nat) (g : Fin 8) (s : State) : Host.Outcome State Fault Refusal := run .app t (fun c => c.pulseEnd g) s

/-- SLOT_ARM (R111, R118, R119): a write of CTL.ARM. -/
def execSlotArm (t : Nat) (n : Fin 64) (s : State) : Host.Outcome State Fault Refusal := run .app t (fun c => (c.arm n).1) s

/-- SLOT_DISARM (R118): a write of CTL.DISARM. -/
def execSlotDisarm (t : Nat) (n : Fin 64) (s : State) : Host.Outcome State Fault Refusal := run .app t (fun c => c.disarm n) s

/-- D4_SET (R105, R108): D4 loaded; its armed slots are re-checked. -/
def execD4Set (t : Nat) (v : Word) (s : State) : Host.Outcome State Fault Refusal := run .app t (fun c => c.domWrite 4 v.toNat) s

/-- LATCH_FIFO_POP (R116). -/
def execLatchFifoPop (t : Nat) (s : State) : Host.Outcome State Fault Refusal :=
  run .app t (fun c => ({ c with dom := { c.dom with lf := c.dom.lf.drop 1 } } : Chip).showLf) s

end Sys2Proof.Machine
end

