-- ==== Sys2Proof/Machine/Camera.lean ====
section
/-! DEFINITION. Camera reception: frame index, line samples of D5 and D6, lines into the stripe ring (spec/10_nosora_engine.md R218 to R226,
spec/11_vision_memory.md R260). -/

namespace Sys2Proof.Machine

/-- The 16-bit step of the frame number as R221 takes it: FIDX advance, frames lost, and whether it is a discontinuity. -/
def frameStep (fnMode : Bool) (last fn : Nat) : Nat × Nat × Bool :=
  if fnMode then (1, 0, false)
  else
    let d := if last = 65535 ∧ fn = 1 then 1 else (fn + 65536 - last) % 65536
    if fn = 0 ∨ d = 0 ∨ 32768 ≤ d then (1, 0, true) else (d, d - 1, false)

/-- FIDX of the first Frame Start of a receiver: the peer's where its receiver runs, else fn, or 0 with FN_MODE 1 (R222). -/
def Chip.firstFidx (c : Chip) (k fn : Nat) : Nat :=
  match (c.camSt k).peer with
  | some (pfn, pidx) => ((pidx : Int) + signedOf 16 (fn + 65536 - pfn)).toNat
  | none => if c.is (NOS_CAM_CFG_FN_MODE k) then 0 else fn

/-- A camera receiver starts (R220, R222): its index begins anew and DOM learns its lines. -/
def Chip.camStart (c : Chip) (k : Nat) : Chip :=
  let c := c.setCam k (fun x => { x with fn := none, fsAt := c.now, lines := 0, short := false, ring := [], row := 0 })
  let l := c.get (NOS_CAM_GEOM_LINES k)
  if c.fuses.partN then c else if k = 0 then c.set DOM_CAM0_LINES_LINES l else c.set DOM_CAM1_LINES_LINES l

/-- The camera's domain and CAM_UP follow its stream. -/
def Chip.camShow (c : Chip) (k : Nat) (on : Bool) : Chip :=
  ((c.put (NOS_CAM_STAT_STREAM k) on).putBit NOS_STAT_CAM_UP k on).domUpdate true (5 + k)

/-- A camera receiver stops. -/
def Chip.camStop (c : Chip) (k : Nat) : Chip := c.camShow k false

/-- FRAME_START (R221 to R223). -/
def Chip.frameStart (c : Chip) (k fn : Nat) : Chip :=
  if ¬ c.is (NOS_CAM_CFG_EN k) ∨ c.fuses.partN then c
  else
    let fn := fn % 65536
    let cs := c.camSt k
    let (fidx, lost, jump) := match cs.fn with
      | none => (c.firstFidx k fn, 0, false)
      | some last => (let s := frameStep (c.is (NOS_CAM_CFG_FN_MODE k)) last fn; ((cs.fidx + s.1) % 2 ^ 48, s.2.1, s.2.2))
    let c := c.setCam k (fun x => { x with fn := some fn, fidx := fidx, fsAt := c.now, lines := 0, short := false })
    let c := c.set64 (NOS_CAM_FIDX_LO_FIDX k) (NOS_CAM_FIDX_HI_FIDX k) fidx
    let c := c.set64 (NOS_CAM_FS_TS_LO_TS k) (NOS_CAM_FS_TS_HI_TS k) c.now
    let c := c.set (NOS_CAM_ERR_FRAMES_LOST k) (satNat 8 (c.get (NOS_CAM_ERR_FRAMES_LOST k) + lost))
    let c := if jump then (c.put (NOS_CAM_STAT_FN_JUMP k) true).raiseArg 0x0A02 0 k else c
    let c := if c.is (NOS_CAM_STAT_STREAM k) then c else c.camShow k true
    if c.is (NOS_CAM_STAT_STREAM 0) = c.is (NOS_CAM_CFG_EN 0) ∧ c.is (NOS_CAM_STAT_STREAM 1) = c.is (NOS_CAM_CFG_EN 1) then
      c.endCondition 0x0A03 else c

/-- The frame in reception marked short (R220). -/
def Chip.markShort (c : Chip) (k : Nat) : Chip :=
  if (c.camSt k).short then c else (c.setCam k (fun x => { x with short := true })).raiseArg 0x0A01 0 k

/-- The stored byte of a pixel: the high bits of RAW10 or RAW12 less SHIFT, saturating, or the Y sample (R219). -/
def Chip.pixelByte (c : Chip) (k raw : Nat) : Byte :=
  let bits := if c.get (NOS_CAM_CFG_DT k) = 0 then 10 else if c.get (NOS_CAM_CFG_DT k) = 1 then 12 else 8
  BitVec.ofNat 8 (min 255 (raw / 2 ^ (bits - 8 - c.get (NOS_CAM_CFG_SHIFT k))))

/-- A line stored in the ring, or discarded by a full line buffer (R219, R224, R260). -/
def Chip.storeLine (c : Chip) (k n : Nat) (p : CsiPacket) : Chip :=
  let cs := c.camSt k
  let w := c.get (NOS_CAM_GEOM_WIDTH k)
  let len := max 1 (c.get (NOS_CAM_RING_RING_LINES k))
  let px := (p.pixels.take w).map (fun v => c.pixelByte k v)
  let bad := !p.crcOk || decide (p.pixels.length < w) || p.full
  let c := if p.full ∨ ¬ c.is VMC_STAT_DDR_READY then c
    else c.l2Put (c.get (VMC_RING_BASE_OFS k) + cs.row * ((w + 31) / 32 * 32)) (sliceBytes px 0 w)
  let c := c.setCam k (fun x => { x with
    ring := ({ n := n, fidx := x.fidx, ts := c.now, row := x.row, bad := bad } :: x.ring).take len, row := (x.row + 1) % len })
  let c := if bad then c.incSat (NOS_CAM_ERR_LINE_BAD k) else c
  let c := if p.crcOk then c else c.raiseArg 0x0A01 0 k
  if p.full then c.raiseArg 0x0B06 0 k else c

/-- The line sample of D5 or D6 (R106): slots whose line it reaches fire. -/
def Chip.lineSample (c : Chip) (k n : Nat) : Chip :=
  let d := 5 + k
  let vc := if k = 0 then c.get DOM_CFG_D5_VC else c.get DOM_CFG_D6_VC
  if vc ≠ c.get (NOS_CAM_CFG_VC k) ∨ c.domValid d = false then c
  else
    let dt := c.now - (c.dom.ts[d]?).getD 0
    let c : Chip := { c with dom := { c.dom with lineDt := modAt c.dom.lineDt k (fun _ => dt) } }
    c.domMeasure d ((c.camSt k).fidx * 65536 + n)

/-- LONG_PACKET (R218 to R220, R260). -/
def Chip.longPacket (c : Chip) (k : Nat) (p : CsiPacket) : Chip :=
  if ¬ c.is (NOS_CAM_CFG_EN k) ∨ c.fuses.partN then c
  else if p.ecc = 2 then (c.markShort k).raiseArg 0x0A01 0 k
  else
    let c := if p.ecc = 1 then c.incSat (NOS_CAM_ERR_ECC_CORR k) else c
    let dt := if c.get (NOS_CAM_CFG_DT k) = 0 then 0x2B else if c.get (NOS_CAM_CFG_DT k) = 1 then 0x2C else 0x1E
    if p.dt ≠ 0x2B ∧ p.dt ≠ 0x2C ∧ p.dt ≠ 0x1E then c.incSat (NOS_CAM_ERR_DT_IGN k)
    else if p.vc.val ≠ c.get (NOS_CAM_CFG_VC k) then c
    else if p.dt ≠ dt then c.incSat (NOS_CAM_ERR_DT_IGN k)
    else
      let n := (c.camSt k).lines
      if c.get (NOS_CAM_GEOM_LINES k) ≤ n then c.markShort k
      else
        let c := c.setCam k (fun x => { x with lines := n + 1 })
        (c.lineSample k n).storeLine k n p

/-- FRAME_END (R220, R226): the frame's count and shortness, and the jobs of its last, partial stripe. -/
def Chip.frameEnd (c : Chip) (k : Nat) : Chip :=
  if ¬ c.is (NOS_CAM_CFG_EN k) ∨ c.fuses.partN then c
  else
    let lines := c.get (NOS_CAM_GEOM_LINES k)
    let c := if (c.camSt k).lines < lines then c.markShort k else c
    let c := (c.set (NOS_CAM_STAT_FRAME_LINES k) (c.camSt k).lines).put (NOS_CAM_STAT_SHORT k) (c.camSt k).short
    if c.is (NOS_CAM_CFG_FE_EN k) then
      let c := (c.stripe 0 (c.get (NOS_CAM_CFG_FE_JOB0 k)) lines).1
      (c.stripe 1 (c.get (NOS_CAM_CFG_FE_JOB1 k)) lines).1
    else c

/-- STREAM_LOSS (R223): no Frame Start for 100 ms, since the last one or since the receiver started. -/
def Chip.streamLoss (c : Chip) (k : Nat) : Chip :=
  if (c.is (NOS_CAM_STAT_STREAM k) ∨ (c.is (NOS_CAM_CFG_EN k) ∧ (c.camSt k).fn = none ∧ ¬ c.inForce 0x0A03)) ∧
      100000000 ≤ c.now - (c.camSt k).fsAt then (c.camShow k false).raiseArg 0x0A03 0 k else c

/-- FRAME_START (R221). -/
def execFrameStart (t : Nat) (k : Fin 2) (fn : Nat) (s : State) : Host.Outcome State Fault Refusal := run .app t (fun c => c.frameStart k fn) s

/-- LONG_PACKET (R220). -/
def execLongPacket (t : Nat) (k : Fin 2) (p : CsiPacket) (s : State) : Host.Outcome State Fault Refusal := run .app t (fun c => c.longPacket k p) s

/-- FRAME_END (R226). -/
def execFrameEnd (t : Nat) (k : Fin 2) (s : State) : Host.Outcome State Fault Refusal := run .app t (fun c => c.frameEnd k) s

/-- STREAM_LOSS (R223). -/
def execStreamLoss (t : Nat) (k : Fin 2) (s : State) : Host.Outcome State Fault Refusal := run .app t (fun c => c.streamLoss k) s

end Sys2Proof.Machine
end

