-- ==== Sys2Proof/Machine/Can.lean ====
section
/-! DEFINITION. The CAN FD controllers: message RAM, filters, receive FIFOs, dedicated buffers, transmission, cancellation, error
confinement and time-stamps (spec/12_can_fd.md R268 to R293). -/

namespace Sys2Proof.Machine

/-! ### Controller records and message RAM -/

/-- Controller `k` beside its registers. -/
def Chip.cc (c : Chip) (k : Nat) : CanCtl := (c.can[k]?).getD {}

/-- The chip with controller `k` changed. -/
def Chip.setCc (c : Chip) (k : Nat) (f : CanCtl → CanCtl) : Chip := { c with can := modAt c.can k f }

/-- The first address of a controller's message RAM (12.4). -/
def canRam (k : Nat) : Nat := 0x400A8000 + 0x10000 * k

/-- A word of a controller's message RAM. -/
def Chip.mrd (c : Chip) (k off : Nat) : Nat := c.rdLe (canRam k + off) 4

/-- The chip with a word of a controller's message RAM written. -/
def Chip.mwr (c : Chip) (k off v : Nat) : Chip := c.wrBytes (canRam k + off) (leBytes 4 v)

/-- The data bytes of a size code (Table 12-4). -/
def canSize (code : Nat) : Nat := 8 * 2 ^ (code % 4)

/-- The data length of a DLC (R278). -/
def dlcLen (fdf : Bool) (dlc : Nat) : Nat :=
  if dlc ≤ 8 then dlc else if fdf then ([12, 16, 20, 24, 32, 48, 64][dlc - 9]?).getD 64 else 8

/-- The byte offsets of the seven areas and of the layout's end (R276, Table 12-4). -/
def Chip.canLayout (c : Chip) (k : Nat) : List Nat :=
  let xf := c.get (CAN_MRCFG0_NSF k) * 4
  let f0 := xf + c.get (CAN_MRCFG0_NXF k) * 8
  let f1 := f0 + c.get (CAN_MRCFG0_NF0 k) * (12 + canSize (c.get (CAN_MRCFG2_SZF0 k)))
  let rb := f1 + c.get (CAN_MRCFG0_NF1 k) * (12 + canSize (c.get (CAN_MRCFG2_SZF1 k)))
  let tb := rb + c.get (CAN_MRCFG1_NBUF k) * (2 * (12 + canSize (c.get (CAN_MRCFG2_SZBUF k))))
  let te := tb + c.get (CAN_MRCFG1_NTX k) * (12 + canSize (c.get (CAN_MRCFG2_SZTX k)))
  [0, xf, f0, f1, rb, tb, te, te + c.get (CAN_MRCFG1_NTEV k) * 12]

/-- The offset of area `a` of the layout: 0 standard filters, 1 extended filters, 2 FIFO 0, 3 FIFO 1, 4 dedicated buffers, 5 transmit
buffers, 6 transmit events, 7 end. -/
def Chip.canArea (c : Chip) (k a : Nat) : Nat := ((c.canLayout k)[a]?).getD 0

/-- The chip with the starts of the areas shown (CANn_SA_xx). -/
def Chip.canShowLayout (c : Chip) (k : Nat) : Chip :=
  [0, 1, 2, 3, 4, 5, 6, 7].foldl (fun d a => d.set (CAN_SA_OFS k a) (c.canArea k a)) c

/-- The chip with a bit of CANn_IR set. -/
def Chip.canIr (c : Chip) (k b : Nat) : Chip := c.putBit (CAN_IR_BITS k) b true

/-- The chip with fault F0Cx`j` of controller `k` raised. -/
def Chip.canRaise (c : Chip) (k j : Nat) : Chip := c.raise (0x0C00 + 16 * k + j)

/-- Whether a controller takes part in bus traffic: on, out of INIT, synchronised, not bus-off (R273, R289). -/
def Chip.canOnBus (c : Chip) (k : Nat) : Bool :=
  c.is (CAN_CTRL_EN k) && !c.is (CAN_STAT_INIT_ACK k) && (c.cc k).synced && !c.is (CAN_STAT_BO k)

/-- The chip with a received element written at a message-RAM offset (R277, R278): the data cut to the area's size. -/
def Chip.canStore (c : Chip) (k off size fidx : Nat) (xf : Bool) (f : CanFrame) : Chip :=
  let len := if f.rtr then 0 else dlcLen f.fdf f.dlc
  let b : Bool → Nat := fun x => cond x 1 0
  let w0 := b f.xtd + 2 * b f.rtr + 4 * b f.esi + 8 * (f.id % 2 ^ 29)
  let w1 := f.dlc % 16 + 16 * b f.fdf + 32 * b f.brs + 64 * b (decide (size < len)) + 256 * fidx + 2 ^ 15 * b xf
  (((c.mwr k off w0).mwr k (off + 4) w1).mwr k (off + 8) (f.sof / 1000)).wrBytes (canRam k + off + 12)
    (sliceBytes f.data 0 (min size len))

/-! ### Filters (R279, R280) -/

/-- What filtering decides: reject, FIFO 0, FIFO 1, a dedicated buffer, with the filter index and the list it stands in. -/
inductive Verdict where
  | reject
  | fifo (m fidx : Nat) (xf : Bool)
  | buffer (b fidx : Nat) (xf : Bool)
deriving DecidableEq, Repr

/-- Whether an identifier matches a filter of TYPE `ty` (R279). -/
def filterHit (ty a b id : Nat) : Bool :=
  match ty with
  | 1 => Nat.land id b == Nat.land a b
  | 2 => decide (a ≤ id) && decide (id ≤ b)
  | 3 => id == a || id == b
  | _ => false

/-- The action of a matching element. -/
def filterAct (act buf i : Nat) (xf : Bool) : Verdict :=
  match act with
  | 2 => .fifo 0 i xf
  | 3 => .fifo 1 i xf
  | 4 => .buffer buf i xf
  | _ => .reject

/-- A filter element as (ACT, TYPE, buffer, ID_A, ID_B) (Table 12-6). -/
def Chip.filterAt (c : Chip) (k : Nat) (ext : Bool) (i : Nat) : Nat × Nat × Nat × Nat × Nat :=
  if ext then
    let w0 := c.mrd k (c.canArea k 1 + 8 * i)
    let w1 := c.mrd k (c.canArea k 1 + 8 * i + 4)
    (bitsOf w1 29 3, bitsOf w0 29 2, bitsOf w1 0 5, bitsOf w0 0 29, bitsOf w1 0 29)
  else
    let w := c.mrd k (4 * i)
    (bitsOf w 0 3, bitsOf w 3 2, bitsOf w 5 5, bitsOf w 10 11, bitsOf w 21 11)

/-- The scan of a list from element `i` on, `n` elements: the first element that matches and is not disabled decides (R280). -/
def Chip.filterScan (c : Chip) (k : Nat) (ext : Bool) (id : Nat) : Nat → Nat → Option Verdict
  | 0, _ => none
  | n + 1, i =>
    let (act, ty, buf, a, b) := c.filterAt k ext i
    let bad := (c.cc k).badFilt.contains (if ext then 64 + i else i)
    if act ≠ 0 ∧ bad = false ∧ (if act = 4 then id == a else filterHit ty a b id) = true then some (filterAct act buf i ext)
    else c.filterScan k ext id n (i + 1)

/-- The decision on a valid frame (R280). -/
def Chip.filter (c : Chip) (k : Nat) (f : CanFrame) : Verdict :=
  if f.rtr ∧ (if f.xtd then c.is (CAN_NOMATCH_EXT_RTR_REJ k) else c.is (CAN_NOMATCH_BASE_RTR_REJ k)) = true then .reject
  else
    let id := if f.xtd then f.id % 2 ^ 29 else f.id / 2 ^ 18 % 2 ^ 11
    let n := if f.xtd then c.get (CAN_MRCFG0_NXF k) else c.get (CAN_MRCFG0_NSF k)
    match c.filterScan k f.xtd id n 0 with
    | some v => v
    | none =>
      match if f.xtd then c.get (CAN_NOMATCH_EXT_ACT k) else c.get (CAN_NOMATCH_BASE_ACT k) with
      | 1 => .fifo 0 0x7F false
      | 2 => .fifo 1 0x7F false
      | _ => .reject

/-! ### Receive FIFOs and dedicated buffers (R281, R282) -/

/-- The elements of a receive FIFO. -/
def Chip.fifoDepth (c : Chip) (k m : Nat) : Nat := if m = 0 then c.get (CAN_MRCFG0_NF0 k) else c.get (CAN_MRCFG0_NF1 k)

/-- A frame for a FIFO: stored at the put index, or discarded by a full FIFO or one without elements (R280, R281). -/
def Chip.fifoPut (c : Chip) (k m fidx : Nat) (xf : Bool) (f : CanFrame) : Chip :=
  let n := c.fifoDepth k m
  let size := canSize (if m = 0 then c.get (CAN_MRCFG2_SZF0 k) else c.get (CAN_MRCFG2_SZF1 k))
  let fill := c.get (CAN_RXF_STAT_FILL k m)
  let put := c.get (CAN_RXF_STAT_PUT k m)
  if n = 0 then c.incSat (CAN_CNT_DISC k)
  else if n ≤ fill then ((c.incSat (CAN_RXF_STAT_LOST k m)).canIr k (7 + 3 * m)).canRaise k 3
  else
    let c := (c.canStore k (c.canArea k (2 + m) + put * (12 + size)) size fidx xf f).incWrap (CAN_CNT_RX_N k)
    let c := ((c.set (CAN_RXF_STAT_PUT k m) ((put + 1) % n)).set (CAN_RXF_STAT_FILL k m) (fill + 1)).put (CAN_RXF_STAT_FULL k m)
      (fill + 1 == n)
    let c := c.canIr k (5 + 3 * m)
    if c.get (CAN_RXF_REL_WM k m) ≠ 0 ∧ fill + 1 = c.get (CAN_RXF_REL_WM k m) then c.canIr k (6 + 3 * m) else c

/-- A dedicated buffer overrun (R282). -/
def Chip.bufOverrun (c : Chip) (k b : Nat) : Chip := ((c.putBit (CAN_RXB_OVR_BITS k) b true).canIr k 12).canRaise k 4

/-- A frame for a dedicated buffer goes into the shadow slot; unlocked, the shadow becomes current (R282). -/
def Chip.bufPut (c : Chip) (k b fidx : Nat) (xf : Bool) (f : CanFrame) : Chip :=
  if c.get (CAN_MRCFG1_NBUF k) = 0 then c.incSat (CAN_CNT_DISC k)
  else
    let size := canSize (c.get (CAN_MRCFG2_SZBUF k))
    let cur := c.bit (CAN_RXB_CUR_BITS k) b
    let off := c.canArea k 4 + (2 * b + cond cur 0 1) * (12 + size)
    let c := ((c.canStore k off size fidx xf f).incWrap (CAN_CNT_RX_N k)).canIr k 11
    if c.bit (CAN_RXB_LOCK_BITS k) b then
      let c := if bitAt (c.cc k).shadow b then c.bufOverrun k b else c
      c.setCc k (fun x => { x with shadow := setBit x.shadow b true })
    else
      let c := if c.bit (CAN_RXB_NEW_BITS k) b then c.bufOverrun k b else c
      (c.putBit (CAN_RXB_CUR_BITS k) b (!cur)).putBit (CAN_RXB_NEW_BITS k) b true

/-- The lock of a buffer is released: a held shadow becomes current, or NEW is cleared (R282). -/
def Chip.bufRelease (c : Chip) (k b : Nat) : Chip :=
  if c.bit (CAN_RXB_LOCK_BITS k) b then
    let c := c.putBit (CAN_RXB_LOCK_BITS k) b false
    if bitAt (c.cc k).shadow b then
      (c.putBit (CAN_RXB_CUR_BITS k) b (!c.bit (CAN_RXB_CUR_BITS k) b)).setCc k (fun x => { x with shadow := setBit x.shadow b false })
    else c.putBit (CAN_RXB_NEW_BITS k) b false
  else c

/-- A word of the current slot of a buffer through its window (12.8). -/
def Chip.bufWord (c : Chip) (k b w : Nat) : Word :=
  let size := canSize (c.get (CAN_MRCFG2_SZBUF k))
  if b < c.get (CAN_MRCFG1_NBUF k) ∧ w ≤ 2 + size / 4 then
    BitVec.ofNat 32 (c.mrd k (c.canArea k 4 + (2 * b + cond (c.bit (CAN_RXB_CUR_BITS k) b) 1 0) * (12 + size) + 4 * w))
  else 0

/-- A valid frame filtered and stored (R280). -/
def Chip.canReceive (c : Chip) (k : Nat) (f : CanFrame) : Chip :=
  match c.filter k f with
  | .reject => c
  | .fifo m i xf => c.fifoPut k m i xf f
  | .buffer b i xf => c.bufPut k b i xf f

/-! ### Transmission (R283 to R287) -/

/-- The offset of a transmit element. -/
def Chip.txElem (c : Chip) (k b : Nat) : Nat := c.canArea k 5 + b * (12 + canSize (c.get (CAN_MRCFG2_SZTX k)))

/-- The order of a transmit element in arbitration: the lower value wins (R283). -/
def Chip.txKey (c : Chip) (k b : Nat) : Nat :=
  let w := c.mrd k (c.txElem k b)
  let id := w / 8
  let rtr := bitsOf w 1 1
  if w % 2 = 0 then id / 2 ^ 18 * 2 ^ 21 + rtr * 2 ^ 20
  else id / 2 ^ 18 * 2 ^ 21 + 2 ^ 20 + 2 ^ 19 + id % 2 ^ 18 * 2 + rtr

/-- The pending buffer that would win arbitration among the buffers below `n`, the lower index first among equals. -/
def Chip.txBest (c : Chip) (k : Nat) : Nat → Option Nat
  | 0 => none
  | n + 1 =>
    let best := c.txBest k n
    if c.bit (CAN_TX_PEND_BITS k) n then
      match best with
      | none => some n
      | some b => if c.txKey k n < c.txKey k b then some n else some b
    else best

/-- The selection at an opportunity to start a frame (R283); none in MONITOR or off the bus. -/
def Chip.canSelect (c : Chip) (k : Nat) : Chip :=
  let s := if c.canOnBus k ∧ (c.cc k).mode ≠ 1 ∧ ¬ c.bit SYS_FRST_STAT_BUSY (5 + k) then c.txBest k (c.get (CAN_MRCFG1_NTX k)) else none
  c.setCc k (fun x => { x with sel := s })

/-- A transmit event of buffer `b`: ET 1 transmitted, 2 cancelled, with its time-stamp (R285, R287, Table 12-5). -/
def Chip.txEvent (c : Chip) (k b et ts : Nat) : Chip :=
  let e := c.txElem k b
  let w0 := c.mrd k e
  let w1 := c.mrd k (e + 4)
  if bitsOf w1 6 1 = 0 then c
  else
    let n := c.get (CAN_MRCFG1_NTEV k)
    let fill := c.get (CAN_TEV_STAT_FILL k)
    let put := c.get (CAN_TEV_STAT_PUT k)
    if n ≤ fill then ((c.incSat (CAN_TEV_STAT_LOST k)).canIr k 4).canRaise k 5
    else
      let off := c.canArea k 6 + put * 12
      let esi := if c.is (CAN_STAT_EP k) then setBit w0 2 true else w0
      let brs := if c.is (CAN_CTRL_BRS_EN k) then w1 % 64 else w1 % 32
      let c := ((c.mwr k off esi).mwr k (off + 4) (brs + 256 * et + 2 ^ 24 * bitsOf w1 24 8)).mwr k (off + 8) ts
      let c := ((c.set (CAN_TEV_STAT_PUT k) ((put + 1) % n)).set (CAN_TEV_STAT_FILL k) (fill + 1)).put (CAN_TEV_STAT_FULL k)
        (fill + 1 == n)
      c.canIr k 3

/-- A request ends cancelled: TX_ABTD, IR.TXAB and the event (R285). -/
def Chip.txCancelled (c : Chip) (k b : Nat) : Chip :=
  let c := ((c.putBit (CAN_TX_PEND_BITS k) b false).putBit (CAN_TX_ABTD_BITS k) b true).canIr k 1
  (c.txEvent k b 2 (c.now / 1000)).setCc k (fun x => { x with cancel := setBit x.cancel b false })

/-- Every pending request of the buffers below `n` ends cancelled (R273, R286). -/
def Chip.txCancelAll (c : Chip) (k : Nat) : Nat → Chip
  | 0 => c
  | n + 1 =>
    let c := c.txCancelAll k n
    if c.bit (CAN_TX_PEND_BITS k) n then c.txCancelled k n else c

/-- A write to CANn_TX_GO for buffer `b`: pending, or refused by R278; in INIT it ends cancelled at once (R273, R283). -/
def Chip.txRequest (c : Chip) (k b : Nat) : Chip :=
  let w1 := c.mrd k (c.txElem k b + 4)
  let fdf := bitAt w1 4
  if canSize (c.get (CAN_MRCFG2_SZTX k)) < dlcLen fdf (w1 % 16) ∨ (fdf = true ∧ ¬ c.is (CAN_CTRL_FD_EN k)) then c.canIr k 2
  else
    let c := ((c.putBit (CAN_TX_PEND_BITS k) b true).putBit (CAN_TX_SENT_BITS k) b false).putBit (CAN_TX_ABTD_BITS k) b false
    if c.is (CAN_STAT_INIT_ACK k) then c.txCancelled k b else c

/-- The bits of a written mask, for the buffers below `n`, applied in ascending order. -/
def Chip.forBits (c : Chip) (v : Nat) (f : Chip → Nat → Chip) : Nat → Chip
  | 0 => c
  | n + 1 => let c := c.forBits v f n; if bitAt v n then f c n else c

/-- CANn_TX_GO: the requests of a written mask; an idle controller selects at once (R283). -/
def Chip.txGoWrite (c : Chip) (k v : Nat) : Chip :=
  let c := c.forBits v (fun c b => c.txRequest k b) (c.get (CAN_MRCFG1_NTX k))
  if (c.cc k).sel = none ∧ ¬ c.is (CAN_STAT_BUSY k) then c.canSelect k else c

/-- CANn_TX_ABORT for one buffer: a frame already on the bus goes on to its end, every other request ends cancelled (Table 12-8). -/
def Chip.txAbortOne (c : Chip) (k b : Nat) (started : Bool) : Chip :=
  if c.bit (CAN_TX_PEND_BITS k) b then
    if started ∧ (c.cc k).sel = some b ∧ c.canOnBus k then c.setCc k (fun x => { x with cancel := setBit x.cancel b true })
    else
      let c' := c.txCancelled k b
      if (c.cc k).sel = some b then c'.canSelect k else c'
  else c

/-! ### Error confinement (R288, R289) -/

/-- The counters, the states that follow from them, and their interrupt bits and faults (R288). -/
def Chip.canShow (c : Chip) (k : Nat) : Chip :=
  let x := c.cc k
  let passive := decide (127 < x.tec) || decide (127 < x.rec_)
  let warn := decide (96 ≤ x.tec) || decide (96 ≤ x.rec_)
  let wasP := c.is (CAN_STAT_EP k)
  let c := ((c.set (CAN_ECNT_TEC k) (min 255 x.tec)).set (CAN_ECNT_REC k) (min 127 x.rec_)).put (CAN_ECNT_REC_PASSIVE k)
    (decide (127 < x.rec_))
  let c := (c.put (CAN_STAT_EW k) warn).put (CAN_STAT_EP k) passive
  let c := if warn then c.canIr k 13 else c
  let c := if passive ∧ wasP = false then (c.canIr k 14).canRaise k 2 else c
  if 255 < x.tec ∧ ¬ c.is (CAN_STAT_BO k) then
    (((c.put (CAN_STAT_BO k) true).set (CAN_STAT_BO_SEQ k) 0).canIr k 15).canRaise k 1 |>.setCc k (fun x => { x with sel := none })
  else c

/-- The counters after an error, by the fault confinement rules of ISO 11898-1:2015 (R288). -/
def canErrCount (x : CanCtl) (e : CanErr) : CanCtl :=
  if e.tx then
    let free := (e.ackPassive && e.code == 3 && decide (127 < x.tec)) || e.stuffArb
    { x with tec := x.tec + (if free ∧ e.inFlag = false then 0 else 8) + 8 * e.extra }
  else
    { x with rec_ := min 255 (x.rec_ + (if e.inFlag then 8 else 1) + (if e.domAfterFlag then 8 else 0) + 8 * e.extra) }

/-- A bus error: codes and counters, a pending cancellation of the frame in progress, and the next selection (R284, R285, R288). -/
def Chip.canError (c : Chip) (k : Nat) (e : CanErr) : Chip :=
  if c.canOnBus k then
    let c := ((c.incSat (CAN_ECNT_ERR_CNT k)).set (if e.data then CAN_STAT_ERRC_D k else CAN_STAT_ERRC k) e.code).put (CAN_STAT_BUSY k) false
    let c := if (c.cc k).mode = 1 then c else (c.setCc k (fun x => canErrCount x e)).canShow k
    let c := match (c.cc k).sel with
      | some b => if e.tx ∧ bitAt (c.cc k).cancel b then c.txCancelled k b else c
      | none => c
    let left := (c.cc k).cancel
    let c := if c.is (CAN_STAT_BO k) then c.forBits left (fun c b => c.txCancelled k b) 32 else c
    c.canSelect k
  else c

/-- A frame received: the receive counter falls, and the frame is filtered and stored (R280, R288). A frame in FD format reaches a
classical-only controller as a form error (R270). -/
def Chip.canFrameIn (c : Chip) (k : Nat) (f : CanFrame) (eccC : Nat) (eccU : Option Nat) : Chip :=
  if c.canOnBus k then
    if f.fdf ∧ ¬ c.is (CAN_CTRL_FD_EN k) then
      c.canError k { code := 2, data := false, tx := false, domAfterFlag := false, ackPassive := false, stuffArb := false,
                     inFlag := false, extra := 0 }
    else
      let c := if eccC = 0 then c else (c.set (CAN_ECC_CORR k) (satNat 16 (c.get (CAN_ECC_CORR k) + eccC))).canIr k 17
      let c := match eccU with
        | none => c
        | some i => (((c.incSat (CAN_ECC_UNCORR k)).canIr k 18).canRaise k 6).setCc k (fun x =>
            { x with badFilt := if x.badFilt.contains i then x.badFilt else x.badFilt ++ [i] })
      let r := (c.cc k).rec_
      let c := if (c.cc k).mode = 1 ∨ r = 0 then c
        else if r ≤ 127 then (c.setCc k (fun x => { x with rec_ := r - 1 })).canShow k
        else ((c.setCc k (fun x => { x with rec_ := 119 + Config.freeWord c.free % 9 })).tickFree).canShow k
      ((c.canReceive k f).put (CAN_STAT_BUSY k) false).canSelect k
  else c

/-- The frame that a transmit element sends (R270, R278). -/
def Chip.txFrame (c : Chip) (k b sof : Nat) : CanFrame :=
  let e := c.txElem k b
  let w0 := c.mrd k e
  let w1 := c.mrd k (e + 4)
  { xtd := bitAt w0 0, rtr := bitAt w0 1, esi := bitAt w0 2 || c.is (CAN_STAT_EP k), fdf := bitAt w1 4,
    brs := bitAt w1 5 && c.is (CAN_CTRL_BRS_EN k), id := w0 / 8, dlc := w1 % 16,
    data := c.rdBytes (canRam k + e + 12) (dlcLen (bitAt w1 4) (w1 % 16)), sof := sof }

/-- The selected frame was sent: TX_SENT, the event, the loop delay, and in LOOP_INT its own reception (R272, R274, R284). An element
with an uncorrectable error is cancelled instead (R292). -/
def Chip.canSent (c : Chip) (k sof : Nat) (loop : Option Nat) (eccU : Bool) : Chip :=
  match (c.cc k).sel with
  | none => c
  | some b =>
    if c.canOnBus k ∧ c.bit (CAN_TX_PEND_BITS k) b then
      if eccU then
        ((((c.incSat (CAN_ECC_UNCORR k)).canIr k 18).canRaise k 6).txCancelled k b).canSelect k
      else
        let f := c.txFrame k b sof
        let c := (((c.putBit (CAN_TX_PEND_BITS k) b false).putBit (CAN_TX_SENT_BITS k) b true).canIr k 0).incWrap (CAN_CNT_TX_N k)
        let c := (c.txEvent k b 1 (sof / 1000)).setCc k (fun x => { x with cancel := setBit x.cancel b false, tec := x.tec - 1 })
        let c := (c.put (CAN_STAT_BUSY k) false).canShow k
        let c := match loop with
          | some l => if c.is (CAN_CTRL_SSPE k) ∧ f.fdf ∧ f.brs then
              let c := c.set (CAN_SSP_LOOP k) (satNat 7 l)
              if 127 < l + c.get (CAN_SSP_SSP_OFS k) then c.put (CAN_STAT_SSP_SAT k) true else c
            else c
          | none => c
        let c := if (c.cc k).mode = 2 then c.canReceive k f
          else c.emit (.canSent k b [c.mrd k (c.txElem k b), c.mrd k (c.txElem k b + 4)] f.data)
        c.canSelect k
    else c

/-! ### INIT and modes (R271, R273, R274, R276, R279) -/

/-- Whether the bit timing is admitted (R271, Table 12-3). -/
def Chip.canTimingOk (c : Chip) (k : Nat) : Bool :=
  let n1 := c.get (CAN_BTN_NTSEG1 k) + 1
  let n2 := c.get (CAN_BTN_NTSEG2 k) + 1
  let nj := c.get (CAN_BTN_NSJW k) + 1
  let nb := c.get (CAN_BTN_NBRP k) + 1
  let d1 := c.get (CAN_BTD_DTSEG1 k) + 1
  let d2 := c.get (CAN_BTD_DTSEG2 k) + 1
  let dj := c.get (CAN_BTD_DSJW k) + 1
  let db := c.get (CAN_BTD_DBRP k) + 1
  decide (2 ≤ n1) && decide (2 ≤ n2) && decide (nj ≤ n1) && decide (nj ≤ n2) && decide (dj ≤ d1) && decide (dj ≤ d2) &&
    decide (8 ≤ 1 + n1 + n2) && decide (5 ≤ 1 + d1 + d2) && decide (80 ≤ nb * (1 + n1 + n2)) && decide (10 ≤ db * (1 + d1 + d2)) &&
    decide (db * (1 + d1 + d2) ≤ nb * (1 + n1 + n2))

/-- Whether the filters of a list below `n` are admitted (R279). -/
def Chip.canFiltersOk (c : Chip) (k : Nat) (ext : Bool) : Nat → Bool
  | 0 => true
  | n + 1 =>
    let (act, ty, buf, a, b) := c.filterAt k ext n
    decide (act ≤ 4) && !(act != 0 && act != 4 && ty == 2 && decide (b < a)) &&
      !(act == 4 && decide (c.get (CAN_MRCFG1_NBUF k) ≤ buf)) && c.canFiltersOk k ext n

/-- Whether clearing INIT is admitted (R271, R276, R279): refused with E251 otherwise. -/
def Chip.canInitOk (c : Chip) (k : Nat) : Bool :=
  c.canTimingOk k && decide (c.canArea k 7 ≤ 8192) && c.canFiltersOk k false (c.get (CAN_MRCFG0_NSF k)) &&
    c.canFiltersOk k true (c.get (CAN_MRCFG0_NXF k))

/-- The controller enters INIT (R273). -/
def Chip.canEnterInit (c : Chip) (k : Nat) : Chip :=
  let c := ((c.put (CAN_STAT_INIT_ACK k) true).put (CAN_STAT_BUSY k) false).setCc k (fun x => { x with synced := false, sel := none })
  c.txCancelAll k 32

/-- INIT requested (R273). -/
def Chip.canSetInit (c : Chip) (k : Nat) (busy : Bool) : Chip :=
  let c := (c.put (CAN_CTRL_INIT k) true).put (CAN_STAT_BUSY k) busy
  if busy then c else c.canEnterInit k

/-- INIT cleared: the checks, and INIT is left (R271, R273). -/
def Chip.canClearInit (c : Chip) (k : Nat) : Chip × Bool :=
  if c.is (CAN_STAT_INIT_ACK k) then
    if c.canInitOk k then
      (((c.put (CAN_CTRL_INIT k) false).put (CAN_STAT_INIT_ACK k) false).canShowLayout k |>.setCc k (fun x => { x with synced := false }), true)
    else (c, false)
  else (c.put (CAN_CTRL_INIT k) false, true)

/-- The mode written to CTRL.MODE takes effect (R274). -/
def Chip.canTakeMode (c : Chip) (k : Nat) : Chip :=
  (c.setCc k (fun x => { x with mode := c.get (CAN_CTRL_MODE k) })).canSelect k

/-- The 128th sequence of 11 recessive bits ends bus-off (R289). -/
def Chip.canRecovered (c : Chip) (k : Nat) : Chip :=
  if c.is (CAN_STAT_BO k) then
    let c := ((c.put (CAN_STAT_BO k) false).set (CAN_STAT_BO_SEQ k) 128).setCc k (fun x => { x with tec := 0, rec_ := 0 })
    (((c.canShow k).canIr k 16).endCondition (0x0C01 + 16 * k)).canSelect k
  else c

/-- A receive FIFO or the event FIFO frees elements from the get index (R281, R287). -/
def Chip.fifoFree (c : Chip) (k : Nat) (fill get full : Fld) (n count : Nat) : Chip :=
  if count = 0 ∨ c.get fill < count then c.put (CAN_STAT_WR_ERR k) true
  else ((c.set fill (c.get fill - count)).set get ((c.get get + count) % (max n 1))).put full false

/-- Message RAM without the bytes of controller `k`: all 0 (R293). -/
def Chip.canClearRam (c : Chip) (k : Nat) : Chip :=
  { c with mem := c.mem.filter (fun p => !(decide (canRam k ≤ p.1) && decide (p.1 < canRam k + 0x2000))) }

/-! ### The commands -/

/-- CAN_FRAME_RECEIVED (R280). -/
def execCanFrameReceived (t : Nat) (k : Fin 3) (f : CanFrame) (eccC : Nat) (eccU : Option (Fin 128)) (s : State) :
    Host.Outcome State Fault Refusal :=
  run .app t (fun c => c.canFrameIn k f eccC (eccU.map (fun i => i.val))) s

/-- CAN_FRAME_TRANSMITTED (R284). -/
def execCanFrameTransmitted (t : Nat) (k : Fin 3) (sof : Nat) (loop : Option Nat) (eccU : Bool) (s : State) :
    Host.Outcome State Fault Refusal :=
  run .app t (fun c => c.canSent k sof loop eccU) s

/-- ARBITRATION_LOST (R284, R285): another frame is on the bus; the request stays pending or is withdrawn. -/
def execArbitrationLost (t : Nat) (k : Fin 3) (s : State) : Host.Outcome State Fault Refusal :=
  run .app t (fun c =>
    match (c.cc k).sel with
    | none => c
    | some b =>
      if c.canOnBus k then
        let c := if bitAt (c.cc k).cancel b then c.txCancelled k b else c
        (c.setCc k (fun x => { x with sel := none })).put (CAN_STAT_BUSY k) true
      else c) s

/-- BUS_OFF_RECOVERY (R289). -/
def execBusOffRecovery (t : Nat) (k : Fin 3) (s : State) : Host.Outcome State Fault Refusal :=
  run .app t (fun c => c.canRecovered k) s

/-- TX_GO (R283). -/
def execTxGo (t : Nat) (k : Fin 3) (v : Word) (s : State) : Host.Outcome State Fault Refusal :=
  run .app t (fun c => c.txGoWrite k v.toNat) s

/-- TX_ABORT (R285, Table 12-8). -/
def execTxAbort (t : Nat) (k : Fin 3) (v : Word) (started : Bool) (s : State) : Host.Outcome State Fault Refusal :=
  run .app t (fun c => c.forBits v.toNat (fun c b => c.txAbortOne k b started) (c.get (CAN_MRCFG1_NTX k))) s

/-- INIT_REQUEST (R273). -/
def execInitRequest (t : Nat) (k : Fin 3) (busy : Bool) (s : State) : Host.Outcome State Fault Refusal :=
  run .app t (fun c => c.canSetInit k busy) s

/-- INIT_ENTERED (R273). -/
def execInitEntered (t : Nat) (k : Fin 3) (s : State) : Host.Outcome State Fault Refusal :=
  run .app t (fun c => if c.is (CAN_CTRL_INIT k) then c.canEnterInit k else c) s

/-- INIT_CLEAR (R271, R273). -/
def execInitClear (t : Nat) (k : Fin 3) (s : State) : Host.Outcome State Fault Refusal :=
  run .app t (fun c => (c.canClearInit k).1) s

/-- MODE_CHANGE (R274). -/
def execModeChange (t : Nat) (k : Fin 3) (s : State) : Host.Outcome State Fault Refusal :=
  run .app t (fun c => c.canTakeMode k) s

/-- FIFO_RELEASE (R281): a write to CANn_RXFm_REL, whose watermark field is written with it. -/
def execFifoRelease (t : Nat) (k : Fin 3) (m : Fin 2) (v : Word) (s : State) : Host.Outcome State Fault Refusal :=
  run .app t (fun c => (c.set (CAN_RXF_REL_WM k m) (bitsOf v.toNat 8 6)).fifoFree k (CAN_RXF_STAT_FILL k m) (CAN_RXF_STAT_GET k m)
    (CAN_RXF_STAT_FULL k m) (c.fifoDepth k m) (bitsOf v.toNat 0 6)) s

/-- TEV_RELEASE (R287). -/
def execTevRelease (t : Nat) (k : Fin 3) (v : Word) (s : State) : Host.Outcome State Fault Refusal :=
  run .app t (fun c => (c.set (CAN_TEV_REL_WM k) (bitsOf v.toNat 8 6)).fifoFree k (CAN_TEV_STAT_FILL k) (CAN_TEV_STAT_GET k)
    (CAN_TEV_STAT_FULL k) (c.get (CAN_MRCFG1_NTEV k)) (bitsOf v.toNat 0 6)) s

/-- BUFFER_LOCK (R282): a read of word 0 of a buffer window. -/
def execBufferLock (t : Nat) (k : Fin 3) (b : Fin 32) (s : State) : Host.Outcome State Fault Refusal :=
  run .app t (fun c => { c.putBit (CAN_RXB_LOCK_BITS k) b (c.bit (CAN_RXB_LOCK_BITS k) b || decide (b.val < c.get (CAN_MRCFG1_NBUF k))) with
    resp := some (some (c.bufWord k b 0)) }) s

/-- BUFFER_RELEASE (R282): a read of the last word of a buffer window. -/
def execBufferRelease (t : Nat) (k : Fin 3) (b : Fin 32) (s : State) : Host.Outcome State Fault Refusal :=
  run .app t (fun c => { c.bufRelease k b with resp := some (some (c.bufWord k b (2 + canSize (c.get (CAN_MRCFG2_SZBUF k)) / 4))) }) s

/-- BUFFER_UNLOCK (R282): a write to CANn_RXB_UNLOCK. -/
def execBufferUnlock (t : Nat) (k : Fin 3) (v : Word) (s : State) : Host.Outcome State Fault Refusal :=
  run .app t (fun c => c.forBits v.toNat (fun c b => c.bufRelease k b) 32) s

/-- TIMESTAMP_WRAP (R290). -/
def execTimestampWrap (t : Nat) (k : Fin 3) (s : State) : Host.Outcome State Fault Refusal :=
  run .app t (fun c =>
    let n := c.now / 1000 / 2 ^ 32
    if (c.cc k).wraps < n then (c.canIr k 19).setCc k (fun x => { x with wraps := n }) else c) s

/-- BUS_SYNCHRONISATION (R273). -/
def execBusSynchronisation (t : Nat) (k : Fin 3) (s : State) : Host.Outcome State Fault Refusal :=
  run .app t (fun c =>
    if c.is (CAN_CTRL_EN k) ∧ ¬ c.is (CAN_STAT_INIT_ACK k) then (c.setCc k (fun x => { x with synced := true })).canSelect k else c) s

end Sys2Proof.Machine
end

