-- ==== Sys2Proof/Machine/Voting.lean ====
section
/-! DEFINITION. The safety inputs, the three safety channels and their voter, the outputs it permits, the obstacle sources that reach
it, and the vision-absent policy (spec/09_obstacles_and_interlock.md R183 to R214). -/

namespace Sys2Proof.Machine

/-! ### Inputs (R183 to R189) -/

/-- Whether input `n` is enabled with a function. -/
def Chip.sinOn (c : Chip) (n : Nat) : Bool := c.is (VOTE_SIN_CFG_EN n) && c.get (VOTE_SIN_CFG_FUNC n) != 0

/-- The lowest enabled input of a function (Table 09-1). -/
def Chip.sinOf (c : Chip) (func : Nat) : Option Nat :=
  (List.range 24).find? (fun n => c.is (VOTE_SIN_CFG_EN n) && c.get (VOTE_SIN_CFG_FUNC n) == func)

/-- Whether the channel reads the input of a function closed; `dflt` where no input has the function. -/
def SinCh.reads (c : Chip) (x : SinCh) (func : Nat) (dflt : Bool) : Bool :=
  match c.sinOf func with
  | some n => bitAt x.closed n
  | none => dflt

/-- Whether some channel reads the input of a function open; never where no input has the function. -/
def Chip.anyOpen (c : Chip) (func : Nat) : Bool :=
  match c.sinOf func with
  | some n => c.vote.ch.any (fun x => !bitAt x.closed n)
  | none => false

/-- The number whose bit `k` is the `k`-th truth value. -/
def ofBits : List Bool → Nat
  | [] => 0
  | b :: bs => cond b 1 0 + 2 * ofBits bs

/-- Bits that at least two of three words have. -/
def maj3 (a b c : Nat) : Nat := Nat.lor (Nat.land a b) (Nat.lor (Nat.land a c) (Nat.land b c))

/-- Channel `i`. -/
def Chip.sc (c : Chip) (i : Nat) : SinCh := (c.vote.ch[i]?).getD {}

/-- The reading of every input by majority of the channels (VOTE_SIN_STATE). -/
def Chip.sinMajority (c : Chip) : Nat := maj3 (c.sc 0).closed (c.sc 1).closed (c.sc 2).closed

/-- The functions of the dual inputs: EGRESS (0) and ISOL (1). -/
def dualFuncs (p : Nat) : Nat × Nat := if p = 0 then (5, 6) else (7, 8)

/-- What a channel keeps of one dual input after its readings have changed (R187). -/
def SinCh.dual (c : Chip) (x : SinCh) (p : Nat) : SinCh :=
  match c.sinOf (dualFuncs p).1, c.sinOf (dualFuncs p).2 with
  | some a, some b =>
    let ca := bitAt x.closed a
    let cb := bitAt x.closed b
    let d : Option Nat := if ca = cb then none else some (((x.dis[p]?).getD none).getD c.now)
    let t : Option Nat := if ca && cb then some (((x.both[p]?).getD none).getD c.now) else none
    { x with dis := modAt x.dis p (fun _ => d), both := modAt x.both p (fun _ => t) }
  | _, _ => { x with dis := modAt x.dis p (fun _ => none), both := modAt x.both p (fun _ => none) }

/-- Whether a restrictive reading of a dual input ends: both inputs closed together for 1 s (R187). -/
def SinCh.dualEnds (x : SinCh) (p now : Nat) : Bool :=
  bitAt x.lat p && (match (x.both[p]?).getD none with | some s => decide (1000000000 ≤ now - s) | none => false)

/-- The restrictive readings that have ended, and F0405 with the last of them (R187, Table 21-5). -/
def Chip.dualRelease (c : Chip) : Chip :=
  let had := c.vote.ch.any (fun x => x.lat != 0)
  let keep := fun (x : SinCh) => setBit (setBit x.lat 0 (bitAt x.lat 0 && !x.dualEnds 0 c.now)) 1 (bitAt x.lat 1 && !x.dualEnds 1 c.now)
  let ch := c.vote.ch.map (fun x => { x with lat := keep x })
  let c : Chip := { c with vote := { c.vote with ch := ch } }
  if had ∧ ch.all (fun x => x.lat == 0) then c.endCondition 0x0405 else c

/-- One input whose voted reading has changed: when, for R188 and R189; a pushbutton that has read open for 50 ms may post again. -/
def Chip.sinMark (c : Chip) (old new n : Nat) : Chip :=
  if bitAt old n = bitAt new n then c
  else
    let openLong := bitAt new n && decide (50000000 ≤ c.now - lookupD c.vote.sinAt n 0)
    { c with vote := { c.vote with
      mark := insertD c.vote.mark n c.vote.outIso
      pbReady := if openLong then setBit c.vote.pbReady n true else c.vote.pbReady
      sinAt := insertD c.vote.sinAt n c.now } }

/-! ### What each channel evaluates (R186) -/

/-- The leaf axes that the island's copy enables. -/
def Chip.islLeaves (c : Chip) : List Nat := if c.vote.copy.leaf1 then [0, 1] else [0]

/-- Whether an axis lies at its closed end as the island reads it: the closed-end Hall, and with POS_VALID the position within `um`. -/
def Chip.islEnd (c : Chip) (n um : Nat) : Bool :=
  c.bit (FBK_CH_HALL_LEVEL n) 1 && (!c.is (FBK_CH_STAT_POS_VALID n) || decide (c.interpNm n ≤ (um : Int) * 1000))

/-- Whether every enabled leaf has POS_VALID and lies within LOCK_WIN_UM. -/
def Chip.islLockWin (c : Chip) : Bool :=
  c.islLeaves.all (fun n => c.is (FBK_CH_STAT_POS_VALID n) && decide (c.interpNm n ≤ (c.vote.copy.lockWin : Int) * 1000))

/-- The quantities of Table 09-2 in the sense in which 1 is permissive: bit 0 leaves closed, 1 lock engaged, 2 step retracted, 3 no egress,
4 not isolated, 5 no edge active, 6 bypass closed. -/
def SinCh.quant (c : Chip) (x : SinCh) : Nat :=
  let sw := cond (x.reads c 1 false) 1 0 + cond (x.reads c 2 false) 1 0 + cond c.islLockWin 1 0
  let bits : List Bool :=
    [c.islLeaves.all (fun n => c.islEnd n c.vote.copy.closedTol), decide (2 ≤ sw),
     !c.vote.copy.step || c.islEnd 2 c.vote.copy.closedTol,
     x.reads c 5 false && x.reads c 6 false && !bitAt x.lat 0,
     x.reads c 7 true && x.reads c 8 true && !bitAt x.lat 1,
     x.reads c 3 true && x.reads c 4 true && x.reads c 12 true, x.reads c 9 false]
  ofBits bits

/-- The quantities as voted: the majority in 2OO3, otherwise the restrictive reading of the channels that are not suspect. -/
def Chip.votedQuant (c : Chip) : Nat :=
  let q := fun i => (c.sc i).quant c
  if c.get VOTE_STAT_MODE = 0 then maj3 (q 0) (q 1) (q 2)
  else ([0, 1, 2].filter (fun i => !bitAt (c.get VOTE_STAT_SUSPECT) i)).foldl (fun a i => Nat.land a (q i)) 127

/-- Whether egress is voted. -/
def Chip.egressVoted (c : Chip) : Bool := !bitAt c.votedQuant 3

/-! ### A change of readings (R187, R201) -/

/-- The hardware trips of the inputs that some channel has newly read open: leaf edges, the step edge, and the island signal at egress
(R201, Table 09-4). `was` tells which functions were open before, `eg` whether egress was voted; the edges trip at the first channel that
reads them open, the island signal at voted egress. -/
def Chip.sinTrips (c : Chip) (was : Nat → Bool) (eg : Bool) : Chip :=
  let opened := fun f => c.anyOpen f && !was f
  let c := if opened 3 then c.trip 0 1 else c
  let c := if opened 4 then c.trip 1 1 else c
  let c := if opened 12 then c.trip 2 1 else c
  if eg = false ∧ c.egressVoted then (c.trip 0 3).trip 1 3 else c

/-- The chip with the channels' readings replaced: the dual inputs, the trips, the voted readings. -/
def Chip.setReadings (c : Chip) (f : Nat → SinCh → SinCh) : Chip :=
  let was := fun k => c.anyOpen k
  let eg := c.egressVoted
  let old := c.sinMajority
  let ch := [f 0 (c.sc 0), f 1 (c.sc 1), f 2 (c.sc 2)]
  let c : Chip := { c with vote := { c.vote with ch := ch.map (fun x => (x.dual c 0).dual c 1) } }
  let new := c.sinMajority
  let c := (List.range 24).foldl (fun c n => c.sinMark old new n) c
  ((c.set VOTE_SIN_STATE_CLOSED new).sinTrips was eg).dualRelease

/-! ### The checks of the inputs (R184 to R189) -/

/-- One pulsed input at a check of TPO `k`: own check low passes, another's high passes; a failed check reads open at once (R184). -/
def SinCh.pulse (c : Chip) (k : Nat) (levels : Nat) (x : SinCh) (n : Nat) : SinCh :=
  if c.sinOn n ∧ c.is (VOTE_SIN_CFG_MODE n) then
    let own := c.get (VOTE_SIN_CFG_TPO n) == k
    let high := bitAt levels n
    if own != high then x
    else
      { x with bad := setBit x.bad n true, closed := setBit x.closed n false,
               low := setBit x.low n (bitAt x.low n || !own), flt := setBit x.flt n (bitAt x.flt n || !own) }
  else x

/-- The end of a 200 us frame for one pulsed input: closed again after two frames that passed, unless the pulse hold of a new active keeps
it (R184, R354). -/
def SinCh.frameEnd (c : Chip) (hold : Bool) (x : SinCh) (n : Nat) : SinCh :=
  if c.sinOn n ∧ c.is (VOTE_SIN_CFG_MODE n) then
    let pass := !bitAt x.bad n
    { x with closed := setBit x.closed n (bitAt x.closed n || (pass && bitAt x.good n && !hold)),
             good := setBit x.good n pass, flt := setBit x.flt n (bitAt x.low n), low := setBit x.low n false,
             bad := setBit x.bad n false }
  else x

/-- One channel at a check. -/
def SinCh.check (c : Chip) (k levels : Nat) (hold : Bool) (x : SinCh) : SinCh :=
  let x := (List.range 24).foldl (fun x n => SinCh.pulse c k levels x n) x
  if k = 3 then (List.range 24).foldl (fun x n => SinCh.frameEnd c hold x n) x else x

/-- The pulsed inputs of any channel in fault. -/
def Chip.sinFaults (c : Chip) : Nat := c.vote.ch.foldl (fun m x => Nat.lor m x.flt) 0

/-- The middle of a pulse of TPO `k`: each channel checks the pulsed inputs, and the TPO is read back (R184, R200, R354). -/
def Chip.pulsedCheck (c : Chip) (k : Nat) (la lb lc : Nat) (tpoOk : Bool) : Chip :=
  if c.sys.fromNor = false then c
  else
    let hold := c.pair.pulseHold != 0
    let was := c.sinFaults
    let c := c.setReadings (fun i x => x.check c k (if i = 0 then la else if i = 1 then lb else lc) hold)
    let now := c.sinFaults
    let c := if Nat.land now (Nat.xor (2 ^ 24 - 1) was) ≠ 0 then
        (c.set VOTE_SIN_FLT_SEEN (Nat.lor (c.get VOTE_SIN_FLT_SEEN) now)).raise 0x0406
      else if was ≠ 0 ∧ now = 0 then c.endCondition 0x0406 else c
    let c := ({ c with vote := { c.vote with tpoBad := setBit c.vote.tpoBad k (!tpoOk) } } : Chip).putBit VOTE_RB_TPO k tpoOk
    let c := if tpoOk then c else c.raise 0x0407
    if k = 3 then { c with pair := { c.pair with pulseHold := c.pair.pulseHold - 1 } } else c

/-- A static input that has kept a new level for 1 ms, as each channel reads it (R185). -/
def Chip.staticChange (c : Chip) (n : Nat) (closed : Nat) : Chip :=
  if c.sys.fromNor ∧ c.sinOn n ∧ ¬ c.is (VOTE_SIN_CFG_MODE n) then
    c.setReadings (fun i x => { x with closed := setBit x.closed n (bitAt closed i) })
  else c

/-- The channels in which the two inputs of a dual input have differed for EGR_DISC_MS (R187). -/
def Chip.dualDue (c : Chip) (p : Nat) (x : SinCh) : Bool :=
  !bitAt x.lat p && (match (x.dis[p]?).getD none with
    | some s => decide (c.get VOTE_TIME_EGR_DISC_MS * 1000000 ≤ c.now - s)
    | none => false)

/-- DUAL_INPUT_DISCREPANCY (R187). -/
def Chip.dualFault (c : Chip) (p : Nat) : Chip :=
  if c.vote.ch.any (fun x => c.dualDue p x) then
    let ch := c.vote.ch.map (fun x => if c.dualDue p x then { x with lat := setBit x.lat p true } else x)
    let seen := fun (m f : Nat) => match c.sinOf f with | some n => setBit m n true | none => m
    (({ c with vote := { c.vote with ch := ch } } : Chip).set VOTE_SIN_FLT_SEEN
      (seen (seen (c.get VOTE_SIN_FLT_SEEN) (dualFuncs p).1) (dualFuncs p).2)).raise 0x0405
  else c

/-- INPUT_UNCHANGED (R188): a LOCK_SW, EDGE or EGRESS input unchanged during 24 h of DOOR outside ISOLATED. -/
def Chip.inputUnchanged (c : Chip) (n : Nat) : Chip :=
  let f := c.get (VOTE_SIN_CFG_FUNC n)
  if c.sinOn n ∧ (f ≤ 6 ∨ f = 12) ∧ 86400000000000 ≤ c.vote.outIso - lookupD c.vote.mark n 0 then
    ({ c with vote := { c.vote with mark := insertD c.vote.mark n c.vote.outIso } } : Chip).raiseArg 0x040B 0 n
  else c

/-- PUSHBUTTON_POST (R189): a button that has read closed for 50 ms posts one request of role view to the pushbutton queue. -/
def Chip.pushbutton (c : Chip) (n : Nat) : Chip :=
  let f := c.get (VOTE_SIN_CFG_FUNC n)
  if c.sinOn n ∧ (f = 10 ∨ f = 11) ∧ bitAt (c.get VOTE_SIN_STATE_CLOSED) n ∧ bitAt c.vote.pbReady n ∧
      50000000 ≤ c.now - lookupD c.vote.sinAt n 0 then
    let c : Chip := { c with vote := { c.vote with pbReady := setBit c.vote.pbReady n false } }
    let op := if f = 10 then QOp.doorOpen else .doorClose
    match c.queueOf 16 128 with
    | none => c
    | some q => (c.offer q 16 0 0 (c.opMotion op) { op := op, a := 0, b := 0, v := 0 } .nobody).1
  else c

/-! ### What the result bits look at (R190, R194 to R198) -/

/-- R74 with neither its lease nor its SUPPLY_HOLD condition. -/
def Chip.r74Core (c : Chip) : Bool :=
  c.get SYS_STRAP_CLKMODE != 3 && c.is SYS_CLK_STAT_SAFE_CLK_OK && c.sys.fromNor && c.sys.selfTest && c.vote.admitted

/-- R74, the lease excepted. -/
def Chip.r74 (c : Chip) : Bool := c.r74Core && !c.is SUP_STATUS_HOLD

/-- The grids that act: T1's, and T2's where T2_ACT is set (R204). -/
def Chip.actGrids (c : Chip) : List GridSt := if c.is VOTE_CFG_T2_ACT then c.vote.grids else c.vote.grids.take 2

/-- The vision withhold of the doorway (R204, R210). -/
def Chip.visionWithhold (c : Chip) : Bool := !c.is VOTE_STAT_VA && c.actGrids.any (fun g => g.wh || g.tr)

/-- The NOS traction withhold (R204, R210). -/
def Chip.nosTract (c : Chip) : Bool := !c.inL2 && !c.is VOTE_STAT_VA && c.is VOTE_CFG_NOS_TR_WH && c.actGrids.any (fun g => g.tr)

/-- The NOS release hold (R204, R210). -/
def Chip.nosRelease (c : Chip) : Bool := !c.inL2 && c.is VOTE_CFG_NOS_REL_WH && c.visionWithhold

/-- The CAN speed veto (R199). -/
def Chip.veto (c : Chip) : Bool :=
  match c.vote.speedIn with
  | some (v, at_) => decide (c.get VOTE_VETO_VETO_MMS < v.natAbs) && decide (c.now - at_ ≤ c.get VOTE_VETO_VETO_AGE_MS * 1000000)
  | none => false

/-- Whether DOOR's state is traction-eligible (Table 08-7); the condition is dropped in an L2 reset. -/
def Chip.tractEligible (c : Chip) (bypass : Bool) : Bool :=
  c.inL2 || c.get DOOR_STATUS_STATE == 0 || (c.get DOOR_STATUS_STATE == 10 && bypass)

/-- Whether DOOR requests LOCK_DRV low (Table 08-7); in an L2 reset the level as it stands (R196). -/
def Chip.lockLowAsked (c : Chip) : Bool :=
  if c.inL2 then !c.pins.lockDrv else c.get DOOR_STATUS_STATE ∈ [1, 2, 3, 4, 5, 6, 7, 9]

/-- The lease as the vote takes it: the active's own, the one held at the assertion of an L2 reset, and in a standby's shadow vote the
lease of its active (R63, R195, R196, R347). -/
def Chip.leaseFor (c : Chip) : Bool := if c.inL2 then c.vote.l2Lease else c.is PAIR_STAT_HELD || c.isStandby

/-- Whether EGR_UNLOCK lets the lock open at egress (R196). -/
def Chip.egressUnlock (c : Chip) : Bool :=
  match c.get VOTE_CFG_EGR_UNLOCK with
  | 1 => c.is FBK_WHL_STAT_VSTILL
  | 2 => true
  | _ => false

/-- Whether the bridge permission has outlived STOP_MAX_MS (R197). -/
def Chip.stopOver (c : Chip) : Bool :=
  match c.vote.stopSince with
  | some s => decide (c.get VOTE_TIME_STOP_MAX_MS * 1000000 ≤ c.now - s)
  | none => false

/-- The conditions of RELEASE that fail, as VOTE_WHY shows them (R198). -/
def Chip.releaseWhy (c : Chip) (q : Nat) : Nat :=
  ofBits [!c.is FBK_WHL_STAT_VSTILL, c.veto, !bitAt q 4, c.nosRelease, c.is VOTE_HOLD_REL_HOLD,
    c.safeFault || c.is SUP_STATUS_HOLD, !c.r74]

/-- The conditions of TRACT that fail, as VOTE_WHY shows them (Table 09-3). -/
def Chip.tractWhy (c : Chip) (q : Nat) (rel : Bool) : Nat :=
  ofBits [!bitAt q 0, !bitAt q 1, !bitAt q 2, !bitAt q 3, !(bitAt q 4 || bitAt q 6), c.nosTract, !bitAt q 5, c.safeFault,
    c.is SUP_STATUS_HOLD, !c.r74, rel, !c.tractEligible (bitAt q 6)]

/-- The four result bits of a channel with quantities `q`: TRACT, LOCK_LOW, BRIDGE, RELEASE (R190). -/
def Chip.resultBits (c : Chip) (q : Nat) : Nat :=
  let relOk := c.releaseWhy q == 0
  let rel := relOk && !c.inL2
  let lockBase := c.r74 && c.leaseFor && !c.safeFault && !c.is SUP_STATUS_HOLD
  let lock := lockBase && ((relOk && c.lockLowAsked) || (!bitAt q 3 && c.egressUnlock && (!c.inL2 || c.lockLowAsked)))
  let bridge := c.r74Core && c.is PAIR_STAT_HELD && !c.inL2 && c.door.bridges && !c.stopOver &&
    (!c.is SUP_STATUS_HOLD || c.vote.stopSince.isSome)
  ofBits [c.tractWhy q rel == 0, lock, bridge, rel]

/-! ### The voter (R190 to R193) -/

/-- One channel counted as disagreeing. -/
def Chip.countDis (c : Chip) (dis : Nat) : Chip :=
  let c := if bitAt dis 0 then c.incSat VOTE_CHDIS_A else c
  let c := if bitAt dis 1 then c.incSat VOTE_CHDIS_B else c
  if bitAt dis 2 then c.incSat VOTE_CHDIS_C else c

/-- VOTER_OPEN (R192). -/
def Chip.voterOpen (c : Chip) : Chip := (c.set VOTE_STAT_MODE 2).raise 0x0402

/-- The votes of three channels whose results are `r` and of which `late` came late or failed their check: the voted bits and what
becomes of the mode (R191, R192). -/
def Chip.vote3 (c : Chip) (r : Nat → Nat) (late : Nat) : Chip × Nat :=
  let v := fun i => if bitAt late i then 0 else r i
  match c.get VOTE_STAT_MODE with
  | 0 =>
    let m := maj3 (v 0) (v 1) (v 2)
    let dis := ofBits [bitAt late 0 || v 0 != m, bitAt late 1 || v 1 != m, bitAt late 2 || v 2 != m]
    let twice := Nat.land dis c.vote.lastDis
    let c := ({ c with vote := { c.vote with lastDis := dis } } : Chip).countDis dis
    if twice = 0 then (c, m)
    else
      let c := c.set VOTE_STAT_SUSPECT twice
      if twice = 1 ∨ twice = 2 ∨ twice = 4 then
        ((({ c with vote := { c.vote with dis2 := 0 } } : Chip).set VOTE_STAT_MODE 1).raise 0x0401, m)
      else (c.voterOpen, 0)
  | 1 =>
    let s := c.get VOTE_STAT_SUSPECT
    let two := [0, 1, 2].filter (fun i => !bitAt s i)
    let m := two.foldl (fun a i => Nat.land a (v i)) 15
    let dis := two.any (fun i => bitAt late i || v i != m)
    if dis then
      let c := ({ c with vote := { c.vote with dis2 := c.vote.dis2 + 1 } } : Chip).incSat VOTE_CHDIS_D2OO2
      if 2 ≤ c.vote.dis2 then (c.voterOpen, 0) else (c, m)
    else (c, m)
  | _ => (c, 0)

/-- The pins after a vote (R33, R195 to R197): the standby drives all three high (Table 01-1). -/
def Chip.votedPins (c : Chip) : Chip :=
  let mine := c.mayOutput
  { c with pins := { c.pins with
    tractRel := c.is VOTE_STAT_TRACT && mine
    lockDrv := !(c.is VOTE_STAT_LOCK_LOW && mine)
    brgEnN := !(c.is VOTE_STAT_BRIDGE && mine && !c.inL2) } }

/-- After a change of the bridge permission: axes that may no longer be driven lose their outputs, others are driven (R145). -/
def Chip.bridgesFollow (c : Chip) : Chip :=
  let c := [0, 1, 2, 3].foldl (fun c n => c.bridgeLoss n) c
  [0, 1, 2, 3].foldl (fun c n => c.driveOn n) c

/-- The time since which a stop of the axes is under way toward bridges off (R197). -/
def Chip.stopClock (c : Chip) (q : Nat) : Chip :=
  let stop := !bitAt q 3 || !bitAt q 4 || c.safeFault || c.is SUP_STATUS_HOLD
  { c with vote := { c.vote with stopSince := if stop then some (c.vote.stopSince.getD c.now) else none } }

/-- VOTER_CYCLE (R190 to R199): the channels evaluate, the voter forms the outputs, and the status shows them. -/
def Chip.voterCycle (c : Chip) (late : Nat) : Chip :=
  if c.sys.fromNor = false then c
  else
    let c := c.dualRelease
    let q := c.votedQuant
    let c := c.stopClock q
    let (c, m) := c.vote3 (fun i => c.resultBits ((c.sc i).quant c)) late
    let q := c.votedQuant
    let c := (((c.put VOTE_STAT_TRACT (bitAt m 0)).put VOTE_STAT_LOCK_LOW (bitAt m 1)).put VOTE_STAT_BRIDGE (bitAt m 2)).put
      VOTE_STAT_RELEASE (bitAt m 3)
    let c := (((c.put VOTE_STAT_EGRESS (!bitAt q 3)).put VOTE_STAT_ISOL (!bitAt q 4)).put VOTE_STAT_LOCKED (bitAt q 1)).put
      VOTE_STAT_EDGE_ACT (!bitAt q 5)
    let c := ((c.put VOTE_STAT_VSTILL (c.is FBK_WHL_STAT_VSTILL)).put VOTE_STAT_VETO c.veto).set VOTE_WHY_TRACT (c.tractWhy q (bitAt m 3))
    let c := c.set VOTE_WHY_RELEASE (c.releaseWhy q)
    let c : Chip := { c with vote := { c.vote with closed := bitAt q 0, stepRet := bitAt q 2 } }
    c.votedPins

/-- The veto against voted standstill, and the time DOOR has been outside ISOLATED (R188, R199). -/
def Chip.voteClocks (c : Chip) : Chip :=
  let against := c.veto && c.is FBK_WHL_STAT_VSTILL
  let dt := if c.get DOOR_STATUS_STATE = 10 then 0 else c.now - c.vote.cycAt
  { c with vote := { c.vote with
    vetoSince := if against then some (c.vote.vetoSince.getD c.now) else none
    vetoTold := against && c.vote.vetoTold
    outIso := c.vote.outIso + dt
    cycAt := c.now } }

/-- SELF_TEST_STEP (R193). -/
def Chip.selfTestStep (c : Chip) (fail : Bool) : Chip := if fail ∧ c.sys.fromNor then c.raise 0x0403 else c

/-- OUTPUT_READ_BACK (R200): a mismatch of TRACT_REL, LOCK_DRV or BRG_EN_N in two consecutive cycles raises F0404. -/
def Chip.readBack (c : Chip) (mismatch : Nat) : Chip :=
  if c.sys.fromNor = false then c
  else
    let twice := Nat.land mismatch c.vote.rbBad
    let c := ((c.put VOTE_RB_TRACT_SEEN (c.pins.tractRel != bitAt mismatch 0)).put VOTE_RB_LOCK_DRV
      (c.pins.lockDrv != bitAt mismatch 1)).put VOTE_RB_BRG_EN_N (c.pins.brgEnN != bitAt mismatch 2)
    let c : Chip := { c with vote := { c.vote with rbBad := mismatch } }
    if twice = 0 then c else c.raise 0x0404

/-- SAFE_ACTION (R213): the island signals raised since the last voter cycle run their checks. -/
def Chip.signals (c : Chip) : Chip :=
  let s := c.dom.sigs
  let c : Chip := { c with dom := { c.dom with sigs := 0 } }
  if c.sys.fromNor = false then c
  else
    (List.range 8).foldl (fun c k =>
      if bitAt s k then
        match bitsOf (c.get VOTE_SIGCFG_CODES) (3 * k) 3 with
        | 1 => if bitAt c.votedQuant 2 then c else c.raiseArg 0x0408 0 k
        | 2 =>
          let open_ := fun f => match c.sinOf f with | some n => !bitAt c.sinMajority n | none => true
          if open_ 1 && open_ 2 then c else c.raiseArg 0x0408 0 k
        | _ => c
      else c) c

/-! ### Vision (R204, R209, R210) -/

/-- Whether a camera has a mask with any cell (R209). -/
def Chip.masked (c : Chip) (cam : Nat) : Bool :=
  [0, 1, 2].any (fun m => (List.range 18).any (fun w => c.get (VOTE_MASK_ROW cam m w) != 0))

/-- Whether an updated cell marked in mask `m` has confidence at or above CONF_TH. -/
def Chip.maskHit (c : Chip) (u : GridUpdate) (m : Nat) : Bool :=
  let th := c.get VOTE_VIS_CONF_TH
  u.rows.any (fun r =>
    let word := c.get (VOTE_MASK_ROW u.cam m r.1)
    (r.2.zipIdx).any (fun p => bitAt word p.2 && decide (th ≤ p.1.toNat)))

/-- What a grid keeps of one flag after an update: set by a hit, cleared after CLEAR_FRAMES complete frames without one. -/
def clearing (flag hit frameHit complete : Bool) (clean need : Nat) : Bool × Nat :=
  if hit then (true, 0)
  else if complete then (if frameHit then (flag, 0) else (flag && decide (clean + 1 < need), min 15 (clean + 1)))
  else (flag, clean)

/-- GRID_COMPARE (R204): a grid update against the masks; REVERSE trips the leaves for this update. -/
def Chip.gridCompare (c : Chip) (u : GridUpdate) : Chip :=
  let g := 2 * (u.ten - 1) + u.cam
  let wh := c.maskHit u 0
  let tr := c.maskHit u 2
  let old := (c.vote.grids[g]?).getD {}
  let same := old.frame == u.fidx
  let whF := wh || (same && old.whHit)
  let trF := tr || (same && old.trHit)
  let need := c.get VOTE_VIS_CLEAR_FRAMES
  let w := clearing old.wh wh whF u.complete old.whClean need
  let t := clearing old.tr tr trF u.complete old.trClean need
  let new : GridSt := { wh := w.1, tr := t.1, whClean := w.2, trClean := t.2, frame := u.fidx, whHit := whF, trHit := trF }
  let c : Chip := { c with vote := { c.vote with grids := modAt c.vote.grids g (fun _ => new) } }
  let c : Chip := if u.ten = 1 then
      { c with vote := { c.vote with
        gridAt := modAt c.vote.gridAt u.cam (fun _ => some c.now)
        vaFresh := if u.complete ∧ c.vote.vaClear.isSome then setBit c.vote.vaFresh u.cam true else c.vote.vaFresh } }
    else c
  let acts := u.ten == 1 || c.is VOTE_CFG_T2_ACT
  if acts ∧ c.maskHit u 1 ∧ ¬ c.is VOTE_STAT_VA then (c.trip 0 2).trip 1 2 else c

/-- Whether a masked camera has had no T1 grid update for VA_AGE_MS (R209). -/
def Chip.gridOld (c : Chip) (cam : Nat) : Bool :=
  c.masked cam && (match (c.vote.gridAt[cam]?).getD none with
    | some s => decide (c.get VOTE_VIS_VA_AGE_MS * 1000000 ≤ c.now - s)
    | none => true)

/-- Whether a condition of the vision-absent policy holds (R209). -/
def Chip.visionLacks (c : Chip) : Bool :=
  c.fuses.partN || !c.is VOTE_CFG_VISION_USE || c.bit SYS_FRST_STAT_BUSY 2 || c.vote.nosfBusy || !c.is (NOS_TEN_STAT_RUNNING 1) ||
    c.gridOld 0 || c.gridOld 1 || c.flt.inForce.any (fun e => e.code / 256 == 0x0A && decide (2 ≤ e.sev))

/-- The vision-absent policy brought up to date: entry with F040A, the second without a condition, and the end with complete grids
(R209). -/
def Chip.visionCheck (c : Chip) : Chip :=
  if c.visionLacks then
    let c : Chip := { c with vote := { c.vote with vaClear := none, vaFresh := 0 } }
    if c.is VOTE_STAT_VA then c else (c.put VOTE_STAT_VA true).raise 0x040A
  else
    let c : Chip := { c with vote := { c.vote with vaClear := some (c.vote.vaClear.getD c.now) } }
    let long := match c.vote.vaClear with | some s => decide (1000000000 ≤ c.now - s) | none => false
    let fresh := [0, 1].all (fun k => !c.masked k || bitAt c.vote.vaFresh k)
    if c.is VOTE_STAT_VA && long && fresh then c.put VOTE_STAT_VA false else c

/-! ### The commands -/

/-- PULSED_INPUT_CHECK (R184, R200): the levels that each channel reads in the middle of a pulse of TPO `k`, and whether the TPO reads back
as driven. -/
def execPulsedInputCheck (t : Nat) (k : Fin 4) (la lb lc : BitVec 24) (tpoOk : Bool) (s : State) : Host.Outcome State Fault Refusal :=
  run .island t (fun c => c.pulsedCheck k la.toNat lb.toNat lc.toNat tpoOk) s

/-- STATIC_INPUT_CHANGE (R185). -/
def execStaticInputChange (t : Nat) (n : Fin 24) (closed : BitVec 3) (s : State) : Host.Outcome State Fault Refusal :=
  run .island t (fun c => c.staticChange n closed.toNat) s

/-- DUAL_INPUT_DISCREPANCY (R187). -/
def execDualInputDiscrepancy (t : Nat) (p : Fin 2) (s : State) : Host.Outcome State Fault Refusal := run .island t (fun c => c.dualFault p) s

/-- INPUT_UNCHANGED (R188). -/
def execInputUnchanged (t : Nat) (n : Fin 24) (s : State) : Host.Outcome State Fault Refusal := run .island t (fun c => c.inputUnchanged n) s

/-- PUSHBUTTON_POST (R189). -/
def execPushbuttonPost (t : Nat) (n : Fin 24) (s : State) : Host.Outcome State Fault Refusal := run .app t (fun c => c.pushbutton n) s

/-- BRIDGE_STOP_TIMEOUT (R197): the bridge permission ends STOP_MAX_MS after the stop began. -/
def Chip.bridgeTimeout (c : Chip) : Chip :=
  if c.stopOver ∧ c.is VOTE_STAT_BRIDGE then ((c.put VOTE_STAT_BRIDGE false).votedPins).bridgesFollow else c

/-- BRIDGE_STOP_TIMEOUT (R197). -/
def execBridgeStopTimeout (t : Nat) (s : State) : Host.Outcome State Fault Refusal := run .app t (fun c => c.bridgeTimeout) s

/-- SPEED_VETO_FAULT (R199): the veto has lasted 2 s against voted standstill. -/
def Chip.vetoFault (c : Chip) : Chip :=
  match c.vote.vetoSince with
  | some s =>
    if c.vote.vetoTold = false ∧ c.veto ∧ c.is FBK_WHL_STAT_VSTILL ∧ 2000000000 ≤ c.now - s then
      ({ c with vote := { c.vote with vetoTold := true } } : Chip).raise 0x0409
    else c
  | none => c

/-- SPEED_VETO_FAULT (R199). -/
def execSpeedVetoFault (t : Nat) (s : State) : Host.Outcome State Fault Refusal := run .island t (fun c => c.vetoFault) s

/-- GRID_AGE_TIMEOUT (R209). -/
def execGridAgeTimeout (t : Nat) (cam : Fin 2) (s : State) : Host.Outcome State Fault Refusal :=
  run .island t (fun c => if c.gridOld cam then c.visionCheck else c) s

/-- VISION_ABSENT_END (R209). -/
def execVisionAbsentEnd (t : Nat) (s : State) : Host.Outcome State Fault Refusal := run .island t (fun c => c.visionCheck) s

end Sys2Proof.Machine
end

