-- ==== Sys2Proof/Machine/Door.lean ====
section
/-! DEFINITION. The door sequencer: states, requests, the order of the axes, timers, outputs by state, and the per-cycle record
(spec/08_door_cycle.md R160 to R182, spec/09_obstacles_and_interlock.md R205 to R212). -/

namespace Sys2Proof.Machine

/-! ### What DOOR reads -/

/-- DOOR's state (Table 08-1). -/
def Chip.doorState (c : Chip) : Nat := c.get DOOR_STATUS_STATE

/-- TB_LOCAL at which the state was entered. -/
def Chip.doorSince (c : Chip) : Nat := c.get64 DOOR_STATE_TS_LO_TS DOOR_STATE_TS_HI_TS

/-- The enabled leaf axes. -/
def Chip.leaves (c : Chip) : List Nat := if c.is DOOR_CFG_LEAF1_EN then [0, 1] else [0]

/-- The axes of the doorway. -/
def Chip.doorAxes (c : Chip) : List Nat :=
  c.leaves ++ (if c.is DOOR_CFG_STEP_EN then [2] else []) ++ (if c.is DOOR_CFG_RAMP_EN then [3] else [])

/-- The reference leaf (08.5). -/
def Chip.refLeaf (c : Chip) : Nat := if c.is DOOR_CFG_STEP_REF then 1 else 0

/-- Whether an axis is closed, retracted or stowed: its Hall input, and with POS_VALID the position (R161, Table 08-2). -/
def Chip.atEnd (c : Chip) (n : Nat) : Bool :=
  c.bit (FBK_CH_HALL_LEVEL n) 1 &&
    (!c.is (FBK_CH_STAT_POS_VALID n) || decide (c.interpNm n ≤ (c.get DOOR_RIND_CLOSED_TOL_UM : Int) * 1000))

/-- Whether the doorway is closed (R161). -/
def Chip.doorwayClosed (c : Chip) : Bool := c.leaves.all (fun n => c.atEnd n)

/-- Whether the doorway is voted closed and locked. -/
def Chip.closedLocked (c : Chip) : Bool := c.vote.closed && c.is VOTE_STAT_LOCKED

/-- A leaf position in um: the value of its domain now (R172). -/
def Chip.leafUm (c : Chip) (n : Nat) : Int := c.domUnits n

/-- Whether a leaf is in the rind zone (R172). -/
def Chip.inRind (c : Chip) (n : Nat) : Bool := decide (c.domNow n ≤ (c.get DOOR_RIND_RIND_MM : Int) * 1000000)

/-- Whether an axis moves or has a move before it. -/
def Chip.axMoving (c : Chip) (n : Nat) : Bool :=
  c.get (MOT_AX_STAT_SEG n) != 10 && c.is (MOT_AX_CFG_ENABLE n) &&
    (c.is (MOT_AX_STAT_BUSY n) || c.getI (MOT_AX_TGT_VALUE n) != c.xpos n)

/-- Whether the ramp is deployed, or at least not at its stowed end. -/
def Chip.rampOut (c : Chip) : Bool := c.is DOOR_CFG_RAMP_EN && !c.atEnd 3

/-- Whether a commissioning parameter of R164 is unset. -/
def Chip.uncommissioned (c : Chip) : Bool :=
  c.get DOOR_STROKE_STROKE_UM == 0 || c.get DOOR_LOCK_LOCK_WIN_UM == 0 ||
    c.doorAxes.any (fun n => c.get (FBK_CH_PITCH_PITCH_NM n) == 0 || c.get (MOT_AX_LEAD_LEAD_NM n) == 0 || c.get (DOM_D_RATE_RATE n) == 0)

/-- The time in the state has reached `ns`. -/
def Chip.doorFor (c : Chip) (ns : Nat) : Bool := decide (ns ≤ c.now - c.doorSince)

/-- The door release permission as voted (R198). -/
def Chip.relPerm (c : Chip) : Bool := c.is VOTE_STAT_RELEASE

/-- P_PRE in um, rounded up (R171). -/
def Chip.prePoint (c : Chip) : Nat :=
  let vc := c.get (MOT_PRF_VMAX_V (c.get DOOR_PROF_P_CLOSE))
  let vr := c.get (MOT_PRF_VMAX_V (c.get DOOR_PROF_P_RIND))
  let d := 2000 * c.get (MOT_PRF_DEC_D2 (c.get DOOR_PROF_P_RIND))
  c.get DOOR_RIND_RIND_MM * 1000 + (if d = 0 then 0 else divUp ((vc * vc - vr * vr) * 1000000 + vc * 50 * d) (d * 1000000))

/-! ### Motion sets and slots (Table 08-5) -/

/-- A motion set programmed by DOOR. -/
def Chip.putSet (c : Chip) (m : Nat) (um : Int) (prof : Nat) : Chip :=
  ((c.setI (MOT_MS_TGT_TGT m) um).set (MOT_MS_CFG_PROFILE m) prof).put (MOT_MS_CFG_REL m) false

/-- A set whose target the configuration holds (deployed ends), with its profile. -/
def Chip.putProf (c : Chip) (m prof : Nat) : Chip := (c.set (MOT_MS_CFG_PROFILE m) prof).put (MOT_MS_CFG_REL m) false

/-- Profile 15: P_RIND with V_START and V_STOP raised to V_EMF_MIN of the leaf (R211). -/
def Chip.putProfile15 (c : Chip) (n : Nat) : Chip :=
  let p := c.profile (c.get DOOR_PROF_P_RIND)
  let v := c.get (CUR_AX_FLIM_V_EMF_MIN n) * 1000
  let c := ((c.set (MOT_PRF_VSTART_V 15) (max p.vStart v)).set (MOT_PRF_VSTOP_V 15) (max p.vStop v)).set (MOT_PRF_VBRK_V 15) p.vBrk
  let c := ((c.set (MOT_PRF_VMAX_V 15) p.vMax).set (MOT_PRF_ACC_A1 15) p.a1).set (MOT_PRF_ACC_A2 15) p.a2
  (c.set (MOT_PRF_DEC_D1 15) p.d1).set (MOT_PRF_DEC_D2 15) p.d2

/-- A move of an axis under set `m` and profile `prof`; without POS_VALID a leaf runs on profile 15, and every axis with DEGR set
(R211, R212). -/
def Chip.doorMove (c : Chip) (n m prof : Nat) : Chip :=
  let blind := !c.is (FBK_CH_STAT_POS_VALID n)
  let c := c.put (MOT_AX_TRIP_DEGR n) blind
  let c := if blind ∧ n < 2 then (c.putProfile15 n).putProf m 15 else c.putProf m prof
  (c.applySet n m .door).1

/-- A slot of DOOR programmed and armed: domain, approach, action with its parameter, target, late policy, deadline. -/
def Chip.putSlot (c : Chip) (n dom app act param : Nat) (target : Int) (pol dl : Nat) (timed : Bool) : Chip :=
  let c := if c.armed n then c.disarm n else c
  let c := (((c.set (DOM_SLOT_CFG_DOMAIN n) dom).set (DOM_SLOT_CFG_APPROACH n) app).set (DOM_SLOT_CFG_ACTION n) act).set
    (DOM_SLOT_CFG_LATE_POL n) pol
  let c := ((c.set64I (DOM_SLOT_TGT_LO_TARGET n) (DOM_SLOT_TGT_HI_TARGET n) target).set (DOM_SLOT_REP_REPEAT n) 0).set
    (DOM_SLOT_PARAM_PARAM n) param
  ((c.set (DOM_SLOT_DL_VALUE n) dl).put (DOM_SLOT_DL_UNIT n) timed).arm n |>.1

/-- A slot that applies a motion set to an axis, under the DEFAULT late policy, with its delivery bound as a time deadline (R444). -/
def Chip.motionSlot (c : Chip) (n dom app ax m : Nat) (target : Int) : Chip := c.putSlot n dom app 0 (ax + 16 * m) target 3 50 true

/-- Slot 4 (R173, R444): the step retract, with its distance as a domain deadline. -/
def Chip.retractSlot (c : Chip) : Chip :=
  let ret := c.get DOOR_STEP_RET_POS_UM
  c.putSlot 4 c.refLeaf 1 0 (2 + 16 * 3) ret 3 (ret - c.get DOOR_STEP_CLR_STEP_CLR_UM) false

/-- Slot 8 (Table 08-5): the warning indicator at TB_VEH + 100 us. -/
def Chip.indicator (c : Chip) (on : Bool) : Chip :=
  c.putSlot 8 7 0 2 (c.get DOOR_CFG_WARN_GPIO + 16 * cond on 1 0) (c.tbVeh + 100000 : Nat) 0 1 true

/-! ### Outputs by state (Table 08-7, R174, R206) -/

/-- The trip sources enabled on an axis in a state (Table 08-7); the island signal stays enabled (R201). -/
def Chip.tripsOf (c : Chip) (s n : Nat) : Nat :=
  if c.door.conMove = some n then 11
  else match s with
    | 2 => 11
    | 4 => if n = 3 then 11 else 8
    | 5 => 15
    | 6 => 11
    | 8 => 10
    | _ => 8

/-- The force limit of an axis before F_MODE is looked at (Table 09-5). -/
def Chip.fLimState (c : Chip) (s n : Nat) : Nat :=
  if s = 2 ∨ s = 6 ∨ (s = 4 ∧ n = 3) ∨ c.door.conMove = some n then c.get VOTE_FLIM1_F_LIM_OPEN
  else if s = 5 ∧ n < 2 then (if c.inRind n then c.get VOTE_FLIM0_F_LIM_RIND else c.get VOTE_FLIM0_F_LIM_OUT)
  else 0

/-- The force limit of an axis: F_LIM_DEGR on a leaf with F_MODE wherever it has a limit (Table 09-5, R211, log 45). -/
def Chip.fLimOf (c : Chip) (s n : Nat) : Nat :=
  let lim := c.fLimState s n
  if lim ≠ 0 ∧ n < 2 ∧ (c.is (CUR_AX_STAT_F_MODE n) ∨ bitAt c.door.deg n) then c.get VOTE_FLIM1_F_LIM_DEGR else lim

/-- The trips, return enables and force limits of every axis of the doorway. -/
def Chip.doorOutputs (c : Chip) : Chip :=
  let s := c.doorState
  c.doorAxes.foldl (fun c n =>
    let c := (c.set (MOT_AX_TRIP_EN n) (c.tripsOf s n)).set (CUR_AX_FLIM_F_LIM n) (c.fLimOf s n)
    if s = 5 ∧ n < 2 then (c.put (MOT_AX_TRIP_RET_EN n) true).set (MOT_AX_TRIP_RET_SET n) (10 + n)
    else if s = 6 ∧ c.get (MOT_AX_STAT_SEG n) = 9 then c
    else c.put (MOT_AX_TRIP_RET_EN n) false) c

/-- The bridges that DOOR requests: off after the stop in EMERGENCY_OPEN, ISOLATED and FAULT_HELD (R178, R180). -/
def Chip.doorBridges (c : Chip) : Chip :=
  let s := c.doorState
  let on := if 9 ≤ s then c.door.bridges && [0, 1, 2, 3].any (fun n => c.is (MOT_AX_STAT_BUSY n)) else true
  { c with door := { c.door with bridges := on } }

/-- Names of the states as the console gives them. -/
def doorName (s : Nat) : String :=
  (["CLOSED_LOCKED", "RELEASED", "OPENING", "OPEN", "CLOSE_WARNING", "CLOSING", "REVERSING", "RECLOSE_WAIT", "LOCKING",
    "EMERGENCY_OPEN", "ISOLATED", "FAULT_HELD"][s]?).getD ""

/-- Names of the causes (Table 08-6). -/
def causeName (k : Nat) : String := (["NONE", "SUPPLY", "LOCK", "LOCK_LOST", "OVERSPEED", "START", "FAULT"][k]?).getD ""

/-- The index in the times of Table 08-8 of a state's time, if it has one. -/
def timeIndex (s : Nat) : Option Nat :=
  match s with
  | 2 => some 0
  | 3 => some 1
  | 4 => some 2
  | 5 => some 4
  | 8 => some 5
  | _ => none

/-- The time in the state that is left, added to its measurement; the withheld part of CLOSE_WARNING counts apart (R170, Table 08-8). -/
def Chip.addTime (c : Chip) : Chip :=
  match timeIndex c.doorState with
  | none => c
  | some i =>
    let all := c.now - c.doorSince
    let held := if i = 2 ∧ c.door.withheld then c.now - c.door.withSince else 0
    let ts := modAt (modAt c.door.times i (fun x => x + (all - held))) 3 (fun x => x + held)
    { c with door := { c.door with times := ts } }

/-- DOOR enters a state (R160): its time-stamp, the times, the flags that end with the old state, the indicator, the outputs and the
notification. -/
def Chip.doorEnter (c : Chip) (s cause : Nat) : Chip :=
  let c := c.addTime
  let c := ((c.set DOOR_STATUS_STATE s).set DOOR_STATUS_CAUSE cause).set64 DOOR_STATE_TS_LO_TS DOOR_STATE_TS_HI_TS c.now
  let c := if s = 4 ∨ s = 9 ∨ s = 10 ∨ s = 11 then c.put DOOR_STATUS_UNREL false else c
  let c := c.put DOOR_STATUS_WITHHOLD false
  let c : Chip := { c with door := { c.door with withheld := false, rewarn := none, deg := 0, degStop := 0,
                                                 stallRet := if s = 6 then c.door.stallRet else 0 } }
  let c := c.indicator (s ∈ [4, 5, 6, 8, 9])
  let c := c.doorOutputs.doorBridges
  c.notify .state ("state state=" ++ doorName s ++ " cause=" ++ causeName cause ++ " t=" ++ toString c.now)

/-- Every moving axis of the doorway under EMERG with no return travel. -/
def Chip.stopAxes (c : Chip) : Chip :=
  c.doorAxes.foldl (fun c n =>
    let c := c.put (MOT_AX_TRIP_RET_EN n) false
    if c.axMoving n then c.emergency n none else c) c

/-- DOOR stops the axes and enters FAULT_HELD, ISOLATED or EMERGENCY_OPEN. -/
def Chip.doorStop (c : Chip) (s cause : Nat) : Chip := c.stopAxes.doorEnter s cause

/-! ### The cycle record (R181) -/

/-- Milliseconds of a time, saturating at 16 bits. -/
def msOf (ns : Nat) : Nat := satNat 16 (ns / 1000000)

/-- The flags of Table 08-8: DEGRADED, vision-absent, LATE, STALL, OBSTRUCTED. -/
def Chip.cycleFlags (c : Chip) : Nat :=
  ofBits [c.is DOOR_STATUS_DEGRADED, c.door.fVa, c.door.fLate, c.door.fStall, c.door.fObs]

/-- One CYCLE_DETAIL record (Table 16-10). -/
def Chip.cycleDetail (c : Chip) (n : Nat) : Chip :=
  let x := (c.door.ax[n]?).getD {}
  let at_ : Nat := if n = 2 then unsignedOf 32 (c.door.stepAt.getD 0) else 0
  c.record 2 [(20, leBytes 4 (c.get DOOR_CYCLE_COUNT)), (24, leBytes 1 n),
    (25, leBytes 1 (ofBits [x.blind, x.stall, c.is (MOT_AX_STAT_STEPLOSS_POSSIBLE n)])),
    (26, leBytes 2 (satNat 16 x.peakOut)), (28, leBytes 2 (satNat 16 x.peakIn)), (30, leBytes 2 (satNat 16 x.revs)),
    (32, leBytes 4 x.peakV), (36, leBytes 4 (c.get (MOT_AX_POS_UM_VALUE n))), (40, leBytes 4 at_), (44, leBytes 4 x.peakDev)]

/-- CYCLE_RECORD: DOOR_CYCLE, the measurements, the summary and a detail of each axis that moved, and F0908 (R181). -/
def Chip.cycleRecord (c : Chip) : Chip :=
  let c := c.incWrap DOOR_CYCLE_COUNT
  let d := c.door
  let ms := fun i => msOf ((d.times[i]?).getD 0)
  let ax : Nat → DoorAx := fun i => (d.ax[i]?).getD {}
  let rev := fun i => (d.revs[i]?).getD 0
  let pair := fun (c : Chip) (k lo hi : Nat) => (c.set (DOOR_MEAS_LO k) lo).set (DOOR_MEAS_HI k) hi
  let c := pair (pair (pair c 0 (ms 0) (ms 4)) 1 (ms 2) (ms 5)) 2 (ms 1) (ms 3)
  let c := pair (pair c 3 (satNat 16 (ax 0).peakOut) (satNat 16 (ax 0).peakIn)) 4 (satNat 16 (ax 1).peakOut) (satNat 16 (ax 1).peakIn)
  let c := (c.set (DOOR_MEAS_VALUE 5) (ax 0).peakV).set (DOOR_MEAS_VALUE 6) (ax 1).peakV
  let revs4 := [0, 1, 2, 3, 4].foldl (fun m i => m + 16 ^ i * satNat 4 (rev i)) 0
  let c := c.set (DOOR_MEAS_VALUE 7) (revs4 + 2 ^ 20 * c.cycleFlags)
  let revs3 := [0, 1, 2, 3, 4].foldl (fun m i => m + 8 ^ i * satNat 3 (rev i)) 0
  let moved := if c.is LEDG_CFG_DETAIL_EN then [0, 1, 2, 3].filter (fun n => (ax n).moved) else []
  let c := c.record 1 [(20, leBytes 4 (c.get DOOR_CYCLE_COUNT)), (24, leBytes 8 d.start), (32, leBytes 8 c.tbVeh),
    (40, leBytes 2 (ms 0)), (42, leBytes 2 (ms 1)), (44, leBytes 2 (ms 2)), (46, leBytes 2 (ms 3)), (48, leBytes 2 (ms 4)),
    (50, leBytes 2 (ms 5)), (52, leBytes 2 revs3), (54, leBytes 1 c.cycleFlags), (55, leBytes 1 moved.length)]
  let c := moved.foldl (fun c n => c.cycleDetail n) c
  let c := if c.is DOOR_STATUS_DEGRADED then c.raise 0x0908 else c
  ({ c with door := { c.door with inCycle := false } } : Chip).put DOOR_STATUS_DEGRADED false

/-- A door cycle begins (R165): its measurements start anew. -/
def Chip.cycleStartDoor (c : Chip) : Chip :=
  ({ c with door := { c.door with inCycle := true, start := c.now, times := [0, 0, 0, 0, 0, 0], revs := [0, 0, 0, 0, 0],
                                  ax := [{}, {}, {}, {}], stepAt := none, fVa := false, fObs := false, fLate := false,
                                  fStall := false } } : Chip).put DOOR_STATUS_DEGRADED false

/-- What one control cycle adds to the record of an axis. -/
def Chip.measureAx (c : Chip) (n : Nat) (x : DoorAx) : DoorAx :=
  let f := (c.getI (CUR_AX_FEST_F_OPP n)).toNat
  let rind := decide (n < 2) && c.inRind n
  let busy := c.is (MOT_AX_STAT_BUSY n)
  { x with moved := x.moved || busy, blind := x.blind || (busy && !c.is (FBK_CH_STAT_POS_VALID n)),
           stall := x.stall || (c.ax n).stallRep,
           peakOut := if rind then x.peakOut else max x.peakOut f, peakIn := if rind then max x.peakIn f else x.peakIn,
           peakV := max x.peakV (c.getI (FBK_CH_SPEED_SPEED_UM n)).natAbs, peakDev := max x.peakDev (c.getI (MOT_AX_DEV_VALUE n)).natAbs }

/-- What one control cycle adds to the record of the door cycle (Table 08-8). -/
def Chip.measureCycle (c : Chip) : Chip :=
  if c.door.inCycle = false then c
  else
    let d := c.door
    let late := [0, 1, 2, 3, 4, 5].any (fun n => c.is (DOM_SLOT_STAT_FIRED n) && c.is (DOM_SLOT_STAT_LATE n) &&
      decide (d.start ≤ c.get64 (DOM_PRED_LO_TICK n) (DOM_PRED_HI_TICK n)))
    let step := if d.stepAt = none ∧ c.is DOOR_CFG_STEP_EN ∧ c.doorState ∈ [5, 8] ∧ c.atEnd 2 then some (c.leafUm c.refLeaf) else d.stepAt
    { c with door := { d with
      ax := (d.ax.zipIdx).map (fun p => if c.doorAxes.contains p.2 then c.measureAx p.2 p.1 else p.1)
      stepAt := step
      fVa := d.fVa || c.is VOTE_STAT_VA
      fLate := d.fLate || late
      fObs := d.fObs || c.is DOOR_STATUS_OBSTRUCTED
      fStall := d.fStall || c.doorAxes.any (fun n => (c.ax n).stallRep) } }

/-! ### Opening and closing (R168 to R174) -/

/-- The open sets on the leaves that are not at STROKE_UM yet. -/
def Chip.openLeaves (c : Chip) (slots : Bool) : Chip :=
  let stroke := c.get DOOR_STROKE_STROKE_UM
  c.leaves.foldl (fun c n =>
    let c := c.putSet n stroke (c.get DOOR_PROF_P_OPEN)
    if (stroke : Int) ≤ c.leafUm n then c
    else if slots then
      let blind := !c.is (FBK_CH_STAT_POS_VALID n)
      let c := c.put (MOT_AX_TRIP_DEGR n) blind
      let c := if blind then (c.putProfile15 n).putProf n 15 else c
      c.motionSlot n 2 0 n n (c.get DOOR_STEP_LEAD_LEAD_UM)
    else c.doorMove n n (c.get DOOR_PROF_P_OPEN)) c

/-- The open order (R168): step, leaves, ramp; with `lead` the leaves may wait for the step. -/
def Chip.openOrder (c : Chip) (lead ramp : Bool) : Chip :=
  let step := c.is DOOR_CFG_STEP_EN
  let c := if step then c.doorMove 2 2 (c.get DOOR_PROF_P_STEP) else c
  let c := c.openLeaves (lead && step && c.get DOOR_STEP_LEAD_LEAD_UM != 0)
  if ramp then
    (c.putProf 6 (c.get DOOR_PROF_P_RAMP)).motionSlot 5 c.refLeaf 0 3 6 (c.get DOOR_RAMP_AT_POS_UM)
  else c

/-- The ramp deployed at once. -/
def Chip.rampDeploy (c : Chip) : Chip := c.doorMove 3 6 (c.get DOOR_PROF_P_RAMP)

/-- The ramp stowed where it is deployed (Table 08-3). -/
def Chip.rampStow (c : Chip) : Chip :=
  if c.rampOut then (c.putSet 7 0 (c.get DOOR_PROF_P_RAMP)).doorMove 3 7 (c.get DOOR_PROF_P_RAMP) else c

/-- The pre-point and step-retract slots armed (R171, R173). -/
def Chip.closeSlots (c : Chip) : Chip :=
  let c := c.set DOOR_PRE_P_PRE c.prePoint
  let c := c.leaves.foldl (fun c n =>
    (c.putSet (4 + n) 0 (c.get DOOR_PROF_P_RIND)).motionSlot (2 + n) n 1 n (4 + n) (c.get DOOR_PRE_P_PRE)) c
  if c.is DOOR_CFG_STEP_EN then (c.putSet 3 0 (c.get DOOR_PROF_P_STEP)).retractSlot else c

/-- CLOSING_START (R171). -/
def Chip.closingStart (c : Chip) : Chip :=
  let c := c.doorEnter 5 0
  let c := c.leaves.foldl (fun c n => (c.putSet (8 + n) 0 (c.get DOOR_PROF_P_CLOSE)).doorMove n (8 + n) (c.get DOOR_PROF_P_CLOSE)) c
  c.closeSlots

/-- DOOR enters CLOSE_WARNING (Table 08-3). -/
def Chip.warnStart (c : Chip) : Chip := (c.doorEnter 4 0).rampStow

/-- DOOR enters OPENING (Table 08-3): the open order, or the open sets as a target change. -/
def Chip.openingStart (c : Chip) (lead ramp : Bool) : Chip :=
  let c := ([2, 3, 4].foldl (fun c n => if c.armed n then c.disarm n else c) c).doorEnter 2 0
  c.openOrder lead ramp

/-- DOOR enters LOCKING. -/
def Chip.lockingStart (c : Chip) : Chip := c.doorEnter 8 0

/-- Whether a force trip, an edge trip or an active edge is present on a leaf (R169). -/
def Chip.leafBlocked (c : Chip) : Bool :=
  c.leaves.any (fun n => c.is (CUR_AX_STAT_FTRIP n) || (c.ax n).tripSrc == some 0 || (c.ax n).tripSrc == some 1 || c.anyOpen (3 + n))

/-- The conditions of R169 other than the time. -/
def Chip.closeReady (c : Chip) : Bool :=
  (!c.visionWithhold || c.is VOTE_STAT_VA) && !c.leafBlocked && !c.rampOut && c.is DOOR_STATUS_ADM_CLOSE

/-- The warning time in force (R169, R210). -/
def Chip.warnNs (c : Chip) : Nat :=
  10000000 * (if c.is VOTE_STAT_VA then c.get DOOR_TWARN_T_WARN_VA else c.get DOOR_TWARN_T_WARN)

/-- CLOSE_WARNING at a boundary: closing starts, is withheld, or starts after T_REWARN without a break (R169, R170). -/
def Chip.warnCheck (c : Chip) : Chip :=
  if c.door.withheld then
    if c.closeReady then
      match c.door.rewarn with
      | none => { c with door := { c.door with rewarn := some c.now } }
      | some s => if c.get DOOR_TWAIT_T_REWARN * 10000000 ≤ c.now - s ∧ c.doorFor c.warnNs then c.closingStart else c
    else { c with door := { c.door with rewarn := none } }
  else if c.doorFor c.warnNs then
    if c.closeReady then c.closingStart
    else ({ c with door := { c.door with withheld := true, withSince := c.now, rewarn := none } } : Chip).put DOOR_STATUS_WITHHOLD true
  else c

/-! ### Reversal (R174, R205, R207) -/

/-- The return target of a leaf, um; `trapped` where a leaf tripped or stalled in the rind zone (R174, R207). -/
def Chip.returnTarget (c : Chip) (n : Nat) (trapped : Bool) : Int :=
  let stroke : Int := c.get DOOR_STROKE_STROKE_UM
  let d := c.get DOOR_REV_REV_DIST_MM
  let base : Int := if d = 0 then stroke else min stroke (c.leafUm n + (d : Int) * 1000)
  if trapped then min stroke (max base ((c.get VOTE_RIND_TRAP_OPEN_MM : Int) * 1000)) else base

/-- The return sets of both leaves kept at their targets while they close. -/
def Chip.returnSets (c : Chip) (trapped : Bool) : Chip :=
  c.leaves.foldl (fun c n => c.putSet (10 + n) (c.returnTarget n trapped) (c.get DOOR_PROF_P_OPEN)) c

/-- The return set of a leaf applied by DOOR itself. -/
def Chip.applyReturn (c : Chip) (n : Nat) : Chip := c.doorMove n (10 + n) (c.get DOOR_PROF_P_OPEN)

/-- REVERSING_ENTRY: both leaves under EMERG with their return sets, counted once by its cause (R174, R203, R205). `who` lists the leaves
that tripped or stalled. -/
def Chip.reversingStart (c : Chip) (cause : Nat) (who stalled : List Nat) : Chip :=
  let trapped := who.any (fun n => decide (n < 2) && c.inRind n)
  let c := ([2, 3, 4].foldl (fun c n => if c.armed n then c.disarm n else c) c).returnSets trapped
  let c := c.leaves.foldl (fun c n =>
    let blind := !c.is (FBK_CH_STAT_POS_VALID n)
    let c := c.put (MOT_AX_TRIP_DEGR n) blind
    let c := if blind then (c.putProfile15 n).putProf (10 + n) 15 else c
    let seg := c.get (MOT_AX_STAT_SEG n)
    if stalled.contains n ∨ seg = 9 ∨ seg = 10 then c
    else if (c.ax n).tripSrc.isSome ∨ ¬ c.is (MOT_AX_STAT_BUSY n) then (c.applySet n (10 + n) .door).1
    else c.emergency n none) c
  let mask := stalled.foldl (fun m n => if n < 2 then setBit m n true else m) 0
  let c : Chip := { c with door := { c.door with
    revs := modAt c.door.revs cause (· + 1)
    ax := (c.door.ax.zipIdx).map (fun p => if c.leaves.contains p.2 then { p.1 with revs := p.1.revs + 1 } else p.1)
    stallRet := mask } }
  (c.set DOOR_STATUS_REV_COUNT (satNat 4 (c.get DOOR_STATUS_REV_COUNT + 1))).doorEnter 6 0

/-- The return set of a stalled leaf, once its channel reports STANDSTILL (R205). -/
def Chip.stalledReturn (c : Chip) : Chip :=
  c.leaves.foldl (fun c n =>
    if bitAt c.door.stallRet n ∧ c.is (FBK_CH_STAT_STANDSTILL n) then
      (({ c with door := { c.door with stallRet := setBit c.door.stallRet n false } } : Chip)).applyReturn n
    else c) c

/-- The end of the return travel (R174, Table 08-3). -/
def Chip.reversingCheck (c : Chip) : Chip :=
  let c := c.stalledReturn
  if c.door.stallRet = 0 ∧ c.leaves.all (fun n => !c.axMoving n) then
    if c.get DOOR_CFG_N_RECLOSE ≤ c.get DOOR_STATUS_REV_COUNT then ((c.put DOOR_STATUS_OBSTRUCTED true).raise 0x0903).doorEnter 3 0
    else c.doorEnter 7 0
  else c

/-- DEGRADED_CLOSING (R211): a leaf without POS_VALID finishes on step counts, and stops at its Hall input; its pre-point slot, which would
replace the overtravel target, is disarmed (log 44). -/
def Chip.degradedClosing (c : Chip) (n : Nat) : Chip :=
  if c.is (FBK_CH_STAT_POS_VALID n) then c
  else
    let c := if bitAt c.door.deg n then c
      else
        let c : Chip := { c with door := { c.door with deg := setBit c.door.deg n true } }
        let c := if c.armed (2 + n) then c.disarm (2 + n) else c
        let c := (c.putProfile15 n).putSet (12 + n) (-((c.get VOTE_RIND_DEGR_OVT_MM : Int) * 1000)) 15
        let c := (c.put (MOT_AX_TRIP_DEGR n) true).set (CUR_AX_FLIM_F_LIM n) (c.get VOTE_FLIM1_F_LIM_DEGR)
        ((c.applySet n (12 + n) .door).1).put DOOR_STATUS_DEGRADED true
    if c.bit (FBK_CH_HALL_LEVEL n) 1 ∧ bitAt c.door.degStop n = false then
      (({ c with door := { c.door with degStop := setBit c.door.degStop n true } } : Chip).softStop n).1
    else c

/-! ### Faults (R176, R179, R484) -/

/-- The cause of FAULT_HELD for a fault code (R484). -/
def faultCause (code : Nat) : Nat :=
  if code = 0x0902 then 4 else if code = 0x0904 then 2 else if code = 0x0907 then 3 else if code = 0x0102 then 1 else 6

/-- DOOR held by a cause: FAULT_HELD entered with the axes stopped, or the cause replaced there; SUPPLY replaces none (Table 08-6). -/
def Chip.holdCause (c : Chip) (cause : Nat) : Chip :=
  if c.doorState = 9 ∨ c.doorState = 10 then c
  else if c.doorState = 11 then
    if cause = 1 ∧ c.get DOOR_STATUS_CAUSE ≠ 0 then c else c.set DOOR_STATUS_CAUSE cause
  else c.doorStop 11 cause

/-- The leaf speeds against their declared rates with the margin, one control cycle (R179). -/
def Chip.countOverspeed (c : Chip) : Chip :=
  let fast := fun n => c.leaves.contains n && decide (c.get (DOM_D_RATE_RATE n) * (100 + c.get DOOR_CFG_OVS_PCT) <
    (c.getI (FBK_CH_SPEED_SPEED_UM n)).natAbs * 100)
  { c with door := { c.door with ovs := (c.door.ovs.zipIdx).map (fun p => if fast p.2 then min 11 (p.1 + 1) else 0) } }

/-- Leaf overspeed: ten consecutive cycles raise F0902 once and hold the doorway (R179). -/
def Chip.overspeed (c : Chip) (n : Nat) : Chip :=
  if (c.door.ovs[n]?).getD 0 = 10 ∧ c.doorState ≠ 9 ∧ c.doorState ≠ 10 then
    (({ c with door := { c.door with ovs := modAt c.door.ovs n (fun _ => 11) } } : Chip).raiseArg 0x0902 0 n).holdCause 4
  else c

/-- The S4 and S5 faults newly in force, each with its cause (R484, Table 08-3 group C). -/
def Chip.faultCauses (c : Chip) : Chip :=
  let now := (c.flt.inForce.filter (fun e => decide (4 ≤ e.sev))).map (fun e => e.code)
  let new := now.filter (fun k => !c.door.seenSafe.contains k)
  let c : Chip := { c with door := { c.door with seenSafe := now } }
  let c := new.foldl (fun c k => c.holdCause (faultCause k)) c
  let c := if now ≠ [] ∧ c.doorState < 9 then c.holdCause (faultCause (now.headD 0)) else c
  if c.is SUP_STATUS_HOLD ∧ c.doorState < 9 then c.holdCause 1 else c

/-- LOCK_LOST (R176): in CLOSED_LOCKED the voted lock opens or a leaf leaves its closed condition. -/
def Chip.lockLost (c : Chip) : Chip :=
  if c.doorState = 0 ∧ (¬ c.is VOTE_STAT_LOCKED ∨ c.doorwayClosed = false) then (c.raise 0x0907).holdCause 3 else c

/-- The resume state (R177). -/
def Chip.doorResume (c : Chip) : Chip :=
  if c.closedLocked then (c.set DOOR_STATUS_REV_COUNT 0).doorEnter 0 0
  else if c.doorwayClosed then c.lockingStart else c.doorEnter 3 0

/-! ### Requests (R166, Table 08-4) -/

/-- Whether an operation is one of DOOR's. -/
def QOp.isDoor : QOp → Bool
  | .doorOpen | .doorClose | .doorRelease | .doorUnrelease | .doorReset | .doorIsolate | .doorUnisolate => true
  | _ => false

/-- Whether an entry that would start a motion is held: by the supply warning (R57) or a deferred MOTU operation (R25). -/
def Chip.entryHeld (c : Chip) (e : Entry) : Bool := e.motion && (c.is SUP_STATUS_WARN || c.motHeld)

/-- Whether the chip's role lets it serve an entry: the active from its first output cycle on; a chip that is neither active nor standby
serves what was accepted since its start, not what it found in its journal (R373, R410, R414; log 66). -/
def Chip.mayServe (c : Chip) (e : Entry) : Bool :=
  (c.isActive && c.pair.claimAt.isNone) ||
    (!c.isActive && !c.isStandby && decide (e.boot = c.get SYS_BOOT_COUNT_COUNT % 65536))

/-- The entries DOOR takes at a boundary: the head of every door queue that is not held (R166). -/
def Chip.doorHeads (c : Chip) : List Entry :=
  (List.range 128).filterMap (fun q =>
    if c.is (WQM_Q_CFG_DOOR q) then
      match c.queueHead q with
      | some e => if e.cmd.op.isDoor && c.mayServe e && !c.entryHeld e then some e else none
      | none => none
    else none)

/-- The refusal of a request in the present state (Table 08-4): 0 where it is accepted. -/
def Chip.doorRefusal (c : Chip) (op : QOp) (ramp : Bool) : Nat :=
  let s := c.doorState
  match op with
  | .doorRelease => if s ≠ 0 then 302 else if c.relPerm then 0 else 301
  | .doorUnrelease => if s = 1 ∨ s = 2 ∨ s = 3 then 0 else 302
  | .doorOpen =>
    if ¬ (s = 1 ∨ s = 4 ∨ s = 5 ∨ s = 7 ∨ s = 8 ∨ (s = 3 ∧ ramp)) then 302
    else if c.relPerm = false then 301
    else if ramp ∧ ¬ c.is DOOR_CFG_RAMP_EN then 307 else 0
  | .doorClose => if s = 3 ∨ s = 7 then 0 else if s = 2 then 303 else 302
  | .doorReset =>
    if s = 9 then (if c.is VOTE_STAT_EGRESS then 305 else 0)
    else if s = 11 then
      if c.safeFault ∨ c.is SUP_STATUS_HOLD then 305
      else if c.get DOOR_STATUS_CAUSE = 3 ∧ ¬ c.is VOTE_STAT_LOCKED ∧ c.doorwayClosed then 305
      else if c.get DOOR_STATUS_CAUSE = 4 ∧ [0, 1].any (fun n => !c.is (FBK_CH_STAT_STANDSTILL n) && c.leaves.contains n) then 305
      else 0
    else 302
  | .doorIsolate => 0
  | .doorUnisolate => if s ≠ 10 then 302 else if c.is VOTE_STAT_ISOL then 304 else if c.uncommissioned then 306 else 0
  | _ => 302

/-- The requests of one cycle that DOOR has accepted. -/
structure Asked where
  open_ : Bool
  ramp : Bool
  close : Bool
  release : Bool
  unrelease : Bool
  reset : Bool
  isolate : Bool
  unisolate : Bool
deriving DecidableEq, Repr

/-- The accepted requests among the entries taken. -/
def Chip.asked (c : Chip) (es : List Entry) : Asked :=
  let ok := es.filter (fun e => c.doorRefusal e.cmd.op (e.cmd.a != 0) == 0)
  let has := fun op => ok.any (fun e => e.cmd.op == op)
  { open_ := has .doorOpen, ramp := ok.any (fun e => e.cmd.op == .doorOpen && e.cmd.a != 0), close := has .doorClose,
    release := has .doorRelease, unrelease := has .doorUnrelease, reset := has .doorReset, isolate := has .doorIsolate,
    unisolate := has .doorUnisolate }

/-- The first trip of a source below `k` on the axes of the doorway: source and axis, by time and then by edge, force, vision (R203). -/
def Chip.firstOf (c : Chip) (k : Nat) : Option (Nat × Nat) :=
  (c.doorAxes.foldl (fun best n =>
    match (c.ax n).tripSrc with
    | some s =>
      if k ≤ s then best
      else match best with
        | none => some (s, n)
        | some b =>
          if (c.ax n).tripAt < (c.ax b.2).tripAt ∨ ((c.ax n).tripAt = (c.ax b.2).tripAt ∧ tripRank s < tripRank b.1) then some (s, n) else best
    | none => best) none)

/-- The axes of the doorway that reported a stall. -/
def Chip.stalledAxes (c : Chip) : List Nat := c.doorAxes.filter (fun n => (c.ax n).stallRep)

/-- The axes that tripped since the last cycle. -/
def Chip.trippedAxes (c : Chip) : List Nat := c.doorAxes.filter (fun n => (c.ax n).tripSrc.isSome)

/-- Soft stop of every moving axis. -/
def Chip.softStopAll (c : Chip) : Chip := c.doorAxes.foldl (fun c n => if c.axMoving n then (c.softStop n).1 else c) c

/-! ### The transitions of group D (Table 08-3) -/

/-- OPENING. -/
def Chip.inOpening (c : Chip) (a : Asked) : Chip :=
  let c := if a.unrelease then c.put DOOR_STATUS_UNREL true else c
  if (c.firstOf 2).isSome ∨ c.stalledAxes ≠ [] then (c.stopAxes.put DOOR_STATUS_OBSTRUCTED true).doorEnter 3 0
  else if c.doorFor (c.get DOOR_TMOVE_T_OPEN_MAX * 10000000) then (c.softStopAll.raise 0x0905).doorEnter 3 0
  else if c.doorAxes.all (fun n => !c.axMoving n) then c.doorEnter 3 0
  else c

/-- OPEN. -/
def Chip.inOpen (c : Chip) (a : Asked) : Chip :=
  if a.open_ then c.rampDeploy
  else if a.close ∨ a.unrelease ∨ c.is DOOR_STATUS_UNREL ∨ c.relPerm = false then
    let c := c.set DOOR_STATUS_REV_COUNT 0
    (if a.close then c.put DOOR_STATUS_OBSTRUCTED false else c).warnStart
  else c

/-- CLOSING. -/
def Chip.inClosing (c : Chip) (a : Asked) : Chip :=
  let c := c.leaves.foldl (fun c n => c.degradedClosing n) c
  let stalled := c.stalledAxes
  let c := c.returnSets false
  match c.firstOf 3 with
  | some (src, _) => c.reversingStart src c.trippedAxes stalled
  | none =>
    if stalled ≠ [] then c.reversingStart 0 stalled stalled
    else if c.doorFor (c.get DOOR_TMOVE_T_CLOSE_MAX * 10000000) then (c.raise 0x0906).reversingStart 3 [] []
    else if c.doorwayClosed then c.lockingStart
    else if a.open_ then
      ({ c with door := { c.door with revs := modAt c.door.revs 4 (· + 1) } } : Chip).openingStart false a.ramp
    else c

/-- RECLOSE_WAIT. -/
def Chip.inRecloseWait (c : Chip) (a : Asked) : Chip :=
  if a.open_ then
    let c := c.set DOOR_STATUS_REV_COUNT 0
    if c.leaves.all (fun n => decide ((c.get DOOR_STROKE_STROKE_UM : Int) ≤ c.leafUm n)) then
      (if a.ramp then (c.doorEnter 3 0).rampDeploy else c.doorEnter 3 0)
    else c.openingStart false a.ramp
  else if a.close then (c.put DOOR_STATUS_OBSTRUCTED false).warnStart
  else if c.doorFor (c.get DOOR_TWAIT_T_RECLOSE * 10000000) then c.warnStart
  else c

/-- LOCKING (R173, R175): the step is awaited too. -/
def Chip.inLocking (c : Chip) (a : Asked) : Chip :=
  if c.closedLocked ∧ (¬ c.is DOOR_CFG_STEP_EN ∨ c.atEnd 2) then
    let c := (c.set DOOR_STATUS_REV_COUNT 0).doorEnter 0 0
    if c.door.inCycle then c.cycleRecord else c
  else if c.doorFor (c.get DOOR_LOCK_T_LOCK * 1000000) then (c.raise 0x0904).holdCause 2
  else if a.open_ then c.openingStart true a.ramp
  else c

/-- The transitions of group D. -/
def Chip.groupD (c : Chip) (a : Asked) : Chip :=
  match c.doorState with
  | 0 => if a.release then c.doorEnter 1 0 else c
  | 1 =>
    if a.open_ then c.cycleStartDoor.openingStart true a.ramp
    else if a.unrelease ∨ c.relPerm = false then c.lockingStart else c
  | 2 => c.inOpening a
  | 3 => c.inOpen a
  | 4 => if a.open_ then (if a.ramp then (c.doorEnter 3 0).rampDeploy else c.doorEnter 3 0) else c.warnCheck
  | 5 => c.inClosing a
  | 6 => c.reversingCheck
  | 7 => c.inRecloseWait a
  | 8 => c.inLocking a
  | 9 => if a.reset then c.doorResume else c
  | 10 => if a.unisolate then c.doorResume else c
  | _ =>
    if a.reset then c.doorResume
    else if c.get DOOR_STATUS_CAUSE = 1 ∧ ¬ c.is SUP_STATUS_HOLD ∧ c.safeFault = false then c.doorResume else c

/-- Whether a request taken in state `s` was acted on: the others are superseded (R166). -/
def Chip.actedOn (c : Chip) (s : Nat) (a : Asked) (higher : Bool) (op : QOp) : Bool :=
  match op with
  | .doorIsolate => true
  | _ =>
    if higher then false
    else
      let t := c.doorState
      match op with
      | .doorOpen => t == 2 || t == 3
      | .doorClose => !a.open_ && t == 4
      | .doorUnrelease => !a.open_ && (t == 8 || t == 4 || s == 2)
      | .doorRelease => t == 1
      | _ => t != s

/-- The completion of the entries DOOR took, with their refusals, or as superseded (R166). -/
def Chip.answerAll (c : Chip) (s : Nat) (a : Asked) (higher : Bool) (es : List (Entry × Nat)) : Chip :=
  es.foldl (fun c p =>
    let e := p.1
    let code := if p.2 ≠ 0 then p.2 else if c.actedOn s a higher e.cmd.op then 0 else Config.supersededCode.toNat
    c.complete e.slot code "") c

/-- What DOOR shows of its inputs every cycle. -/
def Chip.doorShow (c : Chip) : Chip :=
  let rind := ofBits [c.inRind 0, c.is DOOR_CFG_LEAF1_EN && c.inRind 1]
  let held := (List.range 128).any (fun q => c.is (WQM_Q_CFG_DOOR q) && (match c.queueHead q with | some e => c.entryHeld e | none => false))
  let c := ((c.set DOOR_STATUS_RIND rind).put DOOR_STATUS_VA (c.is VOTE_STAT_VA)).put DOOR_STATUS_RAMP_OUT c.rampOut
  ((c.put DOOR_STATUS_RELEASE_PERM c.relPerm).put DOOR_STATUS_HELD held).set DOOR_PRE_P_PRE c.prePoint

/-- The trips and stalls reported since the last cycle are taken; a console move that has ended is over (R424). -/
def Chip.doorTaken (c : Chip) : Chip :=
  let c := [0, 1, 2, 3].foldl (fun c n => c.setAx n (fun x => { x with tripSrc := none, stallRep := false })) c
  match c.door.conMove with
  | some n => if c.axMoving n then c else { c with door := { c.door with conMove := none } }
  | none => c

/-- DOOR_SEQUENCER_CYCLE (R160, R165, R166): groups A, B, C and D in their order, and the completion of the requests taken. -/
def Chip.doorCycle (c : Chip) : Chip :=
  if c.isStandby ∨ c.sys.started = false then c
  else
    let c := c.doorShow.measureCycle
    let es := c.doorHeads
    let a := c.asked es
    let answers := es.map (fun e => (e, c.doorRefusal e.cmd.op (e.cmd.a != 0)))
    let s := c.doorState
    let c := c.countOverspeed
    let groupA := c.is VOTE_STAT_ISOL || a.isolate
    let c := if groupA ∧ s ≠ 10 then c.doorStop 10 0 else c
    let c := if c.doorState ≠ 10 ∧ c.is VOTE_STAT_EGRESS ∧ s ≠ 9 then c.doorStop 9 0 else c
    let c := (((c.overspeed 0).overspeed 1).lockLost).faultCauses
    let higher := c.doorState != s || (groupA && s == 10) || (s == 9 && c.is VOTE_STAT_EGRESS)
    let c := if higher then c else c.groupD a
    let c := if answers.any (fun p => p.2 == 306) then c.raise 0x0901 else c
    let c := (c.answerAll s a higher answers).doorTaken
    let c := c.doorOutputs.doorBridges
    { c with door := { c.door with ran := true, va := c.is VOTE_STAT_VA } }

/-! ### The commands of the timers -/

/-- A timer of DOOR that ends while DOOR is in state `s`: the cycle in which DOOR acts on it. -/
def Chip.doorTimer (c : Chip) (s ns : Nat) : Chip := if c.doorState = s ∧ c.doorFor ns then c.doorCycle else c

/-- WARNING_TIME_ELAPSED (R169, R170): closing starts or is withheld. -/
def execWarningTimeElapsed (t : Nat) (s : State) : Host.Outcome State Fault Refusal :=
  run .app t (fun c => if c.doorState = 4 then c.warnCheck else c) s

/-- REWARN_ELAPSED (R170). -/
def execRewarnElapsed (t : Nat) (s : State) : Host.Outcome State Fault Refusal :=
  run .app t (fun c => if c.doorState = 4 ∧ c.door.withheld then c.warnCheck else c) s

/-- OPEN_TIMEOUT (R165). -/
def execOpenTimeout (t : Nat) (s : State) : Host.Outcome State Fault Refusal :=
  run .app t (fun c => c.doorTimer 2 (c.get DOOR_TMOVE_T_OPEN_MAX * 10000000)) s

/-- CLOSE_TIMEOUT (R165). -/
def execCloseTimeout (t : Nat) (s : State) : Host.Outcome State Fault Refusal :=
  run .app t (fun c => c.doorTimer 5 (c.get DOOR_TMOVE_T_CLOSE_MAX * 10000000)) s

/-- RECLOSE_ELAPSED (R165). -/
def execRecloseElapsed (t : Nat) (s : State) : Host.Outcome State Fault Refusal :=
  run .app t (fun c => c.doorTimer 7 (c.get DOOR_TWAIT_T_RECLOSE * 10000000)) s

/-- LOCK_TIMEOUT (R175). -/
def execLockTimeout (t : Nat) (s : State) : Host.Outcome State Fault Refusal :=
  run .app t (fun c => c.doorTimer 8 (c.get DOOR_LOCK_T_LOCK * 1000000)) s

/-- LEAF_OVERSPEED (R179). -/
def execLeafOverspeed (t : Nat) (n : Fin 2) (s : State) : Host.Outcome State Fault Refusal := run .app t (fun c => c.overspeed n) s

end Sys2Proof.Machine
end

