-- ==== Sys2Proof/Machine/Feedback.lean ====
section
/-! DEFINITION. Position and speed feedback: edges, cable faults, index and Hall inputs, the observer and period measurement, wheel channels and
vehicle speed, pass-through pulses and SSI frames (spec/04_feedback.md R75 to R102). -/

namespace Sys2Proof.Machine

/-- Feedback channel `n` beside its registers. -/
def Chip.fb (c : Chip) (n : Nat) : FbkCh := (c.fbk[n]?).getD {}

/-- The chip with feedback channel `n` changed. -/
def Chip.setFb (c : Chip) (n : Nat) (f : FbkCh → FbkCh) : Chip := { c with fbk := modAt c.fbk n f }

/-- PITCH_NM of a channel. -/
def Chip.pitch (c : Chip) (n : Nat) : Nat := c.get (FBK_CH_PITCH_PITCH_NM n)

/-- PITCH x COUNT, 1/65,536 um (R86). -/
def Chip.count16 (c : Chip) (n : Nat) : Int := c.getI (FBK_CH_COUNT_COUNT n) * c.pitch n * 65536 / 1000

/-- Whether an input (0 A, 1 B, 2 Z) is in use (R77). -/
def Chip.inputUsed (c : Chip) (n i : Nat) : Bool :=
  match c.get (FBK_CH_CFG_MODE n) with
  | 0 => i != 2 || !(c.is (FBK_CH_CFG_Z_DIS n) || c.is (FBK_CH_CFG_REF_SRC n))
  | _ => i == 0

/-- Whether a cable fault of A or B freezes the count (R77). -/
def Chip.frozen (c : Chip) (n : Nat) : Bool := c.get (FBK_CH_STAT_CABLE n) % 4 != 0

/-! ### Speed (R86 to R92) -/

/-- OBSERVER_GAIN_COMPUTE (R86): G1 = 4 pi BW T and G2 = (2 pi BW T)^2 as fractions of 2^32, rounded to nearest (log 23). -/
def Chip.fbkGains (c : Chip) (n : Nat) : Chip :=
  let bw : Int := c.get (FBK_CH_SPD_BW_HZ n)
  let pi : Int := 31415926535897932
  (c.set (FBK_CH_OBS_G1_G n) (divNear (4 * pi * bw * 2 ^ 32) (10 ^ 21)).toNat).set (FBK_CH_OBS_G2_G n)
    (divNear (4 * pi * pi * bw * bw * 2 ^ 32) (10 ^ 42)).toNat

/-- Whether the observer is held: from STANDSTILL, or a FIRST or REVERSAL edge, to the first period measurement (R91, R92). -/
def Chip.fbkHeld (c : Chip) (n : Nat) : Bool :=
  c.is (FBK_CH_STAT_STANDSTILL n) || c.is (FBK_CH_STAT_FIRST n) || c.is (FBK_CH_STAT_REVERSAL n)

/-- The reported speed recomputed (R89): the selected estimator's magnitude, at most one pitch over the time since the last edge. -/
def Chip.fbkSpeed (c : Chip) (n : Nat) : Chip :=
  let x := c.fb n
  let src := if c.is (FBK_CH_STAT_SRC n) then x.vPer else x.vHat.natAbs
  let pitch := if c.get (FBK_CH_CFG_MODE n) = 2 then x.ssiPitch else c.pitch n
  let v : Nat := if c.fbkHeld n then 0
    else match x.lastEdge with
      | none => 0
      | some e => if c.now ≤ e then src else min src (pitch * 65536000000 / (c.now - e))
  let um : Int := v / 65536
  (c.setI (FBK_CH_SPEED_SPEED_UM n) (if c.is (FBK_CH_STAT_DIR n) then -um else um)).set (FBK_CH_SPEED_FRAC_FRAC n) (v % 65536)

/-- The interpolated position shown, in whole micrometres toward zero (R85, log 24). -/
def Chip.fbkPos (c : Chip) (n : Nat) : Chip := c.setI (FBK_CH_POS_POS_UM n) (divTrunc (c.interpNm n) 1000)

/-- The latched pair taken (R84). -/
def Chip.fbkLatch (c : Chip) (n ts : Nat) : Chip :=
  (c.setI (FBK_CH_LATCH_CNT_VALUE n) (c.getI (FBK_CH_COUNT_COUNT n))).set64 (FBK_CH_LATCH_TS_LO_VALUE n) (FBK_CH_LATCH_TS_HI_VALUE n) ts

/-- The observer put to rest on the count (R90 to R92). -/
def Chip.fbkRest (c : Chip) (n : Nat) : Chip := c.setFb n (fun x => { x with vHat := 0, pHat := c.count16 n })

/-! ### The wheel function (R94 to R98) -/

/-- Whether the wheel-speed function is enabled. -/
def Chip.wheelOn (c : Chip) : Bool := c.get FBK_WHL_CFG0_SPD_SEL != 3

/-- Whether voted standstill may be held, apart from the hold time (R96). -/
def Chip.vstillOk (c : Chip) : Bool :=
  c.wheelOn && c.get FBK_WHL_STAT_QUAL == 3 && c.is (FBK_CH_STAT_STANDSTILL 4) && c.is (FBK_CH_STAT_STANDSTILL 5) && !c.is FBK_WHL_STAT_DISAGREE

/-- VSTILL ends as soon as one of its conditions does (R96). -/
def Chip.vstillCheck (c : Chip) : Chip := if c.vstillOk then c else c.put FBK_WHL_STAT_VSTILL false

/-- Whether the speeds of the wheel channels differ beyond the slide limit (R95). -/
def Chip.sliding (c : Chip) : Bool :=
  let a := c.speedI 4
  let b := c.speedI 5
  let lim : Int := max ((c.get FBK_WHL_CFG0_SLIDE_ABS * 65536000 * 100 : Nat) : Int)
    ((c.get FBK_WHL_CFG0_SLIDE_REL * max a.natAbs b.natAbs : Nat) : Int)
  decide (lim < 100 * ((a - b).natAbs : Int))

/-- The disagreement condition followed; DISAGREE, and F0510 with it, end with the condition (R95). -/
def Chip.slideCheck (c : Chip) : Chip :=
  if c.wheelOn then
    if c.sliding then
      match c.wheel.slideSince with
      | some _ => c
      | none => { c with wheel := { c.wheel with slideSince := some c.now } }
    else
      let c : Chip := { c with wheel := { c.wheel with slideSince := none } }
      if c.is FBK_WHL_STAT_DISAGREE then
        (({ c with wheel := { c.wheel with clearSince := c.now } } : Chip).put FBK_WHL_STAT_DISAGREE false).endCondition 0x0510
      else c
  else c

/-- A fault of a wheel channel: it is unqualified at once, and its second begins again when the fault has ended (R94). -/
def Chip.wheelFault (c : Chip) (n : Nat) (lasting : Bool) : Chip :=
  if n = 4 ∨ n = 5 then
    ((c.setFb n (fun x => { x with okSince := if lasting then none else some c.now })).putBit FBK_WHL_STAT_QUAL (n - 4) false).vstillCheck
  else c

/-- What follows a new reported speed or flag of a channel. -/
def Chip.fbkAfter (c : Chip) (n : Nat) : Chip :=
  let c := if n = 4 ∨ n = 5 then (c.slideCheck).vstillCheck else c
  if n < 4 then c.showPred n else c

/-- POS_VALID lost (R77, R79): the axis domain turns to MOT's position where it can (R104). -/
def Chip.posLost (c : Chip) (n : Nat) : Chip :=
  let c := c.put (FBK_CH_STAT_POS_VALID n) false
  if n < 4 then c.domUpdate false n else c

/-- POS_VALID set by a reference, unless an input in use is in cable fault (R77, 04.10). -/
def Chip.posGained (c : Chip) (n : Nat) : Chip :=
  if c.get (FBK_CH_STAT_CABLE n) ≠ 0 then c
  else
    let c := c.put (FBK_CH_STAT_POS_VALID n) true
    if n < 4 ∧ c.domDegraded n = false then c.domUpdate false n else c

/-! ### Edges (R78, R79, R84, R87, R91, R92) -/

/-- The pulse of an accepted edge on the O pair (R99, R100). -/
def Chip.sendPwc (c : Chip) (n : Nat) (up : Bool) : Chip :=
  if c.get (FBK_CH_CFG_PT_MODE n) = 2 then
    let idx := (c.fb n).ptIndex
    (c.setFb n (fun x => { x with ptIndex := false })).emit
      (.pwc n (if idx then (if up then 800 else 1100) else (if up then 200 else 500)))
  else c

/-- The period measurement of a run of timed edges, 1/65,536 um/s (R87): none while the run has one edge. -/
def runSpeed (pitch : Nat) (run : List Nat) : Option Nat :=
  match run, run.getLast? with
  | a :: _ :: _, some z => if a ≤ z then none else some ((run.length - 1) * pitch * 65536000000 / (a - z))
  | _, _ => none

/-- ACCEPTED_EDGE, with FIRST_EDGE and REVERSAL_EDGE (R78, R84, R87, R91, R92): `up` the direction, `void` an edge without timing, `dist` the
distance it stands for. -/
def Chip.edge (c : Chip) (n : Nat) (up void : Bool) (dist : Nat) (ts : Nat) : Chip :=
  let span := if c.get (FBK_CH_CFG_MODE n) = 2 then 2 else if c.is (FBK_CH_CFG_SPAN4 n) then 5 else 2
  let was := c.is (FBK_CH_STAT_DIR n)
  let still := c.is (FBK_CH_STAT_STANDSTILL n)
  let start : List Nat := if void then [] else [ts]
  let c := (c.fbkLatch n ts).setFb n (fun x => { x with lastEdge := some ts })
  let c := c.put (FBK_CH_STAT_DIR n) (!up)
  let c :=
    if still then
      (((c.put (FBK_CH_STAT_STANDSTILL n) false).put (FBK_CH_STAT_FIRST n) true).fbkRest n).setFb n (fun x => { x with run := start, vPer := 0 })
    else if was = up then
      (((c.put (FBK_CH_STAT_REVERSAL n) true).put (FBK_CH_STAT_FIRST n) false).fbkRest n).setFb n (fun x => { x with run := start, vPer := 0 })
    else if void then c.setFb n (fun x => { x with run := [] })
    else
      let run := (ts :: (c.fb n).run).take span
      let c := c.setFb n (fun x => { x with run := run })
      match runSpeed dist run with
      | none => c
      | some v =>
        let c := c.setFb n (fun x => { x with vPer := v })
        if c.fbkHeld n then
          ((c.put (FBK_CH_STAT_FIRST n) false).put (FBK_CH_STAT_REVERSAL n) false).setFb n
            (fun x => { x with vHat := if up then (v : Int) else -(v : Int), pHat := c.count16 n })
        else c
  let c := (c.fbkSpeed n).fbkPos n
  ((c.sendPwc n up).domFbk n).fbkAfter n

/-- The count moved by one and its edge taken. -/
def Chip.countEdge (c : Chip) (n : Nat) (up void : Bool) (ts : Nat) : Chip :=
  (c.setI (FBK_CH_COUNT_COUNT n) (c.getI (FBK_CH_COUNT_COUNT n) + (if up then 1 else -1))).edge n up void (c.pitch n) ts

/-- A rejected transition: counted, and more than 16 in one control cycle raise F0503 (R78). -/
def Chip.rejected (c : Chip) (n : Nat) : Chip :=
  let c := (c.incSat (FBK_CH_ECNT_EDGE_REJ n)).setFb n (fun x => { x with rejCycle := x.rejCycle + 1 })
  if (c.fb n).rejCycle = 17 then (c.put (FBK_CH_FAULT_REJ_RATE n) true).raiseArg 0x0503 0 n else c

/-- ILLEGAL_TRANSITION (R79): both inputs changed at acceptance. -/
def Chip.illegal (c : Chip) (n : Nat) : Chip :=
  let c := ((c.incSat (FBK_CH_ECNT_ILLEGAL n)).put (FBK_CH_FAULT_ILLEGAL n) true).setFb n (fun x => { x with acc := x.raw })
  ((c.posLost n).wheelFault n false).raiseArg 0x0502 0 n

/-- The direction of a one-input change of the accepted state, A leading B counting up (log 25): none where both or neither changed. -/
def quadDir (old new : Nat) : Option Bool :=
  let pos : Nat → Nat := fun s => ([0, 1, 3, 2][s]?).getD 0
  if (pos old + 1) % 4 = pos new then some true
  else if (pos new + 1) % 4 = pos old then some false
  else none

/-- The raw state accepted now, with its timing void where it was deferred (R78, R79). -/
def Chip.acceptRaw (c : Chip) (n : Nat) (void : Bool) : Chip :=
  let x := c.fb n
  if x.raw = x.acc then c
  else
    match quadDir x.acc x.raw with
    | some d => (c.setFb n (fun y => { y with acc := y.raw })).countEdge n (d != c.is (FBK_CH_CFG_DIR_INV n)) void c.now
    | none => c.illegal n

/-- T_MIN in ns. -/
def Chip.tMin (c : Chip) (n : Nat) : Nat := 4 * c.get (FBK_CH_FILT_T_MIN n)

/-- Whether T_MIN has not elapsed since an instant. -/
def Chip.tooSoon (c : Chip) (n : Nat) (last : Option Nat) : Bool := match last with | some e => decide (c.now < e + c.tMin n) | none => false

/-- Whether a channel counts quadrature edges now. -/
def Chip.quadOn (c : Chip) (n : Nat) : Bool := c.is (FBK_CH_CFG_ENABLE n) && c.get (FBK_CH_CFG_MODE n) == 0

/-- RAW_TRANSITION (R78). -/
def Chip.rawTransition (c : Chip) (n : Nat) (a b : Bool) : Chip :=
  let raw := cond a 1 0 + 2 * cond b 1 0
  let same := (c.fb n).raw == raw
  let c := c.setFb n (fun x => { x with raw := raw })
  if same ∨ c.quadOn n = false ∨ c.frozen n then c
  else if c.tooSoon n (c.fb n).lastEdge then c.rejected n
  else c.acceptRaw n false

/-- DEFERRED_EDGE_ACCEPT (R78): T_MIN has elapsed and the raw state still differs. -/
def Chip.deferredEdge (c : Chip) (n : Nat) : Chip :=
  if c.quadOn n ∧ c.frozen n = false ∧ c.tooSoon n (c.fb n).lastEdge = false then c.acceptRaw n true else c

/-! ### Cable faults (R76, R77) -/

/-- CABLE_FAULT_BEGIN (R76, R77). -/
def Chip.cableBegin (c : Chip) (n i : Nat) : Chip :=
  if c.is (FBK_CH_CFG_ENABLE n) ∧ c.inputUsed n i ∧ ¬ c.bit (FBK_CH_STAT_CABLE n) i then
    let c := (c.putBit (FBK_CH_STAT_CABLE n) i true).putBit (FBK_CH_FAULT_CABLE_S n) i true
    ((c.posLost n).wheelFault n true).raiseArg 0x0501 0 (n + 256 * i)
  else c

/-- CABLE_FAULT_END (R76, R77): A and B take the raw state without counting, and the period run restarts. -/
def Chip.cableEnd (c : Chip) (n i : Nat) : Chip :=
  if c.bit (FBK_CH_STAT_CABLE n) i then
    let c := c.putBit (FBK_CH_STAT_CABLE n) i false
    let c := if i < 2 then c.setFb n (fun x => { x with acc := x.raw, run := [] }) else c
    let c := if (n = 4 ∨ n = 5) ∧ c.get (FBK_CH_STAT_CABLE n) = 0 then c.setFb n (fun x => { x with okSince := some c.now }) else c
    if [0, 1, 2, 3, 4, 5].all (fun k => c.get (FBK_CH_STAT_CABLE k) == 0) then c.endCondition 0x0501 else c
  else c

/-! ### Index, Hall and written counts (R80 to R83) -/

/-- A qualified index: the count latched, loaded by INDEX_MODE, and the pair latched (R80, R81, R84). -/
def Chip.index (c : Chip) (n : Nat) : Chip :=
  let cnt := c.getI (FBK_CH_COUNT_COUNT n)
  let val := c.getI (FBK_CH_INDEX_VAL_VALUE n)
  let mode := c.get (FBK_CH_CFG_INDEX_MODE n)
  let load := mode = 1 ∨ (mode = 2 ∧ c.is (FBK_CH_STAT_ARMED n))
  let c := c.setI (FBK_CH_INDEX_LATCH_VALUE n) cnt
  let c := if mode = 1 ∧ c.is (FBK_CH_STAT_POS_VALID n) ∧ 1 < (cnt - val).natAbs then
      (c.put (FBK_CH_FAULT_INDEX_ERR n) true).raiseArg 0x0505 0 n else c
  let c := if load then
      let before := c.count16 n
      let c := (c.setI (FBK_CH_COUNT_COUNT n) val).put (FBK_CH_STAT_ARMED n) false
      (c.setFb n (fun x => { x with pHat := x.pHat + (c.count16 n - before) }))
    else c
  let c := c.fbkLatch n c.now
  let c := if c.get (FBK_CH_CFG_PT_MODE n) = 2 then c.setFb n (fun x => { x with ptIndex := true }) else c
  let c := (if load then c.posGained n else c).fbkPos n
  (c.domFbk n).fbkAfter n

/-- INDEX_PULSE (R80, R82): a Z rising edge, or the Hall reference's edge where REF_SRC takes it in place of Z. -/
def Chip.indexPulse (c : Chip) (n : Nat) (hall : Bool) : Chip :=
  if ¬ c.is (FBK_CH_CFG_ENABLE n) then c
  else if hall then (if n < 4 ∧ c.is (FBK_CH_CFG_REF_SRC n) then c.index n else c)
  else if c.get (FBK_CH_CFG_MODE n) ≠ 0 ∨ c.inputUsed n 2 = false ∨ c.bit (FBK_CH_STAT_CABLE n) 2 then c
  else if c.tooSoon n (c.fb n).lastZ then c.incSat (FBK_CH_ECNT_EDGE_REJ n)
  else
    let c := c.setFb n (fun x => { x with lastZ := some c.now })
    if c.get (FBK_CH_CFG_Z_GATE n) = 0 ∨ c.bit (FBK_CH_CFG_Z_GATE n) (c.fb n).acc then c.index n else c

/-- HALL_CHANGE (R83): a debounced change latches the count. -/
def Chip.hallChange (c : Chip) (n w : Nat) (magnet : Bool) : Chip :=
  let c := ((c.putBit (FBK_CH_HALL_LEVEL n) w magnet).set (FBK_CH_HALL_LAST_SRC n) w).setI (FBK_CH_HALL_LATCH_COUNT n) (c.getI (FBK_CH_COUNT_COUNT n))
  c.setFb n (fun x => { x with hallRaw := setBit x.hallRaw w magnet })

/-- A write to COUNT (R82): only while the channel is off or stands still. -/
def Chip.countWrite (c : Chip) (n : Nat) (v : Nat) : Chip :=
  if c.is (FBK_CH_CFG_ENABLE n) ∧ ¬ c.is (FBK_CH_STAT_STANDSTILL n) then c.put (FBK_CH_STAT_WR_ERR n) true
  else
    let c := ((c.set (FBK_CH_COUNT_COUNT n) v).fbkLatch n c.now).fbkRest n
    let c := (c.setFb n (fun x => { x with run := [] })).put (FBK_CH_STAT_POS_VALID n) (decide (c.get (FBK_CH_STAT_CABLE n) = 0))
    let c := c.fbkPos n
    if n < 4 ∧ c.domValid n ∧ c.domDegraded n = false then c.domWrite n (c.latchNm n)
    else if n < 4 ∧ c.domDegraded n = false then c.domUpdate false n
    else c

/-- A channel enabled (R81, R86, R94): its accepted state, observer and reference begin anew. -/
def Chip.fbkEnable (c : Chip) (n : Nat) : Chip :=
  let c := (c.fbkGains n).setFb n (fun x =>
    { x with acc := x.raw, run := [], vPer := 0, ssiRej := 0, ssiAcc := 0, ssiBad := false, ssiSeen := false, okSince := some c.now, lastEdge := none })
  let c := (((c.put (FBK_CH_STAT_STANDSTILL n) true).put (FBK_CH_STAT_FIRST n) false).put (FBK_CH_STAT_REVERSAL n) false).fbkRest n
  let c := c.put (FBK_CH_STAT_POS_VALID n) false
  (c.fbkSpeed n).fbkPos n

/-! ### The 10 us update and standstill (R85, R86, R88, R90) -/

/-- SPEED_SOURCE_CHANGE (R88). -/
def Chip.speedSource (c : Chip) (n : Nat) : Chip :=
  let rate := if c.pitch n = 0 then 0 else c.speed16 n * 1000 / (65536 * c.pitch n)
  match c.get (FBK_CH_CFG_SPD_MODE n) with
  | 0 => c.put (FBK_CH_STAT_SRC n) false
  | 1 => c.put (FBK_CH_STAT_SRC n) true
  | _ =>
    if c.is (FBK_CH_STAT_SRC n) ∧ c.get (FBK_CH_CHG_F_HI n) ≤ rate then c.put (FBK_CH_STAT_SRC n) false
    else if ¬ c.is (FBK_CH_STAT_SRC n) ∧ rate ≤ c.get (FBK_CH_CHG_F_LO n) then c.put (FBK_CH_STAT_SRC n) true
    else c

/-- STANDSTILL (R90): T_ZERO since the last edge. -/
def Chip.standstill (c : Chip) (n : Nat) : Chip :=
  let due : Bool := match (c.fb n).lastEdge with | some e => decide (c.get (FBK_CH_SPD_T_ZERO n) * 1000000 ≤ c.now - e) | none => true
  if c.is (FBK_CH_CFG_ENABLE n) ∧ due ∧ ¬ c.is (FBK_CH_STAT_STANDSTILL n) then
    let c := ((c.put (FBK_CH_STAT_STANDSTILL n) true).put (FBK_CH_STAT_FIRST n) false).put (FBK_CH_STAT_REVERSAL n) false
    let c := (c.fbkRest n).setFb n (fun x => { x with run := [], vPer := 0 })
    ((c.fbkSpeed n).fbkPos n).fbkAfter n
  else c

/-- OBSERVER_UPDATE (R85, R86, R88): the observer, the reported speed and its source, and the interpolated position. -/
def Chip.observerUpdate (c : Chip) (n : Nat) : Chip :=
  if ¬ c.is (FBK_CH_CFG_ENABLE n) then c
  else
    let x := c.fb n
    let y := c.count16 n
    let c := if c.fbkHeld n then c.fbkRest n
      else
        let e := y - x.pHat
        let p := x.pHat + divNear x.vHat 100000 + divNear (c.get (FBK_CH_OBS_G1_G n) * e) (2 ^ 32)
        let v := x.vHat + divNear (c.get (FBK_CH_OBS_G2_G n) * e * 100000) (2 ^ 32)
        c.setFb n (fun z => { z with pHat := p, vHat := v })
    let c := (c.speedSource n).fbkSpeed n
    (c.fbkPos n).fbkAfter n

/-! ### PWC pulses (R100) -/

/-- PWC_PULSE: one decoded pulse, its leading edge at the command's instant. -/
def Chip.pwcPulse (c : Chip) (n width : Nat) : Chip :=
  if ¬ c.is (FBK_CH_CFG_ENABLE n) ∨ c.get (FBK_CH_CFG_MODE n) ≠ 1 ∨ c.frozen n then c
  else if width < 100 ∨ 1249 < width ∨ c.tooSoon n (c.fb n).lastPulse then c.rejected n
  else
    let up := decide (width < 350) || (decide (650 ≤ width) && decide (width < 950))
    let c := (c.setFb n (fun x => { x with lastPulse := some c.now })).countEdge n (up != c.is (FBK_CH_CFG_DIR_INV n)) false
      (c.now - c.get (FBK_CH_PT_RX_RX_DELAY n))
    if 650 ≤ width then c.index n else c

/-! ### SSI frames (R101, R102) -/

/-- Gray code to binary, `k` bits. -/
def grayValue : Nat → Nat → Nat
  | 0, _ => 0
  | k + 1, g => Nat.xor g (grayValue k (g / 2))

/-- The number of ones among the low `k` bits. -/
def ones : Nat → Nat → Nat
  | 0, _ => 0
  | k + 1, n => n % 2 + ones k (n / 2)

/-- SSI_FAULT (R102): the third rejected frame in a row. -/
def Chip.ssiReject (c : Chip) (n : Nat) : Chip :=
  let c := (c.incSat (FBK_CH_ECNT_SSI_REJ n)).setFb n (fun x => { x with ssiRej := min 3 (x.ssiRej + 1), ssiAcc := 0 })
  if (c.fb n).ssiRej = 3 ∧ (c.fb n).ssiBad = false then
    let c := (c.setFb n (fun x => { x with ssiBad := true })).put (FBK_CH_FAULT_SSI n) true
    ((c.posLost n).wheelFault n true).raiseArg 0x0504 0 n
  else c

/-- SSI_FRAME (R101, R102): the frame's bits with the first received highest, and whether the monoflop check passed. -/
def Chip.ssiFrame (c : Chip) (n bits : Nat) (monoflop : Bool) : Chip :=
  if ¬ c.is (FBK_CH_CFG_ENABLE n) ∨ c.get (FBK_CH_CFG_MODE n) ≠ 2 ∨ c.frozen n then c
  else
    let nb := c.get (FBK_CH_SSI_CFG0_BITS n)
    let par := c.get (FBK_CH_SSI_CFG0_PARITY n)
    let ne := c.get (FBK_CH_SSI_CFG0_ERRBITS n)
    let np := if par = 0 then 0 else 1
    let raw := bitsOf bits (np + ne) nb
    let parBit := bitsOf bits ne np
    let parOk := par = 0 ∨ (ones nb raw + parBit) % 2 = (if par = 1 then 0 else 1)
    let errOk := bitsOf bits 0 ne = 2 ^ ne - 1
    let v := if c.is (FBK_CH_SSI_CFG0_GRAY n) then grayValue nb raw else raw
    let v := if c.is (FBK_CH_CFG_DIR_INV n) then 2 ^ nb - 1 - v else v
    let x := c.fb n
    let jump := c.get (FBK_CH_SSI_CFG1_MAXJUMP n)
    let far := x.ssiSeen ∧ jump ≠ 0 ∧ jump < (if v < x.ssiLast then x.ssiLast - v else v - x.ssiLast)
    if ¬ parOk ∨ ¬ errOk ∨ monoflop = false ∨ far then c.ssiReject n
    else
      let c := c.setFb n (fun y => { y with ssiRej := 0, ssiAcc := min 10 (y.ssiAcc + 1), ssiSeen := true, ssiLast := v })
      let c := if x.ssiBad ∧ (c.fb n).ssiAcc = 10 then
          let c := c.setFb n (fun y => { y with ssiBad := false, okSince := some c.now })
          if c.fbk.any (fun y => y.ssiBad) then c else c.endCondition 0x0504
        else c
      if (c.fb n).ssiBad then c
      else
        let ts := c.now + c.get (FBK_CH_SSI_CFG1_LAT_NS n)
        let old := c.getI (FBK_CH_COUNT_COUNT n)
        let valid := c.is (FBK_CH_STAT_POS_VALID n)
        let c := c.set (FBK_CH_COUNT_COUNT n) v
        let d := c.getI (FBK_CH_COUNT_COUNT n) - old
        if x.ssiSeen ∧ d ≠ 0 ∧ valid then
          let dist := d.natAbs * c.pitch n
          (c.setFb n (fun y => { y with ssiPitch := dist })).edge n (decide (0 < d)) false dist ts
        else
          let c := (c.fbkLatch n ts).posGained n
          ((c.fbkPos n).domFbk n).fbkAfter n

/-! ### References of the vehicle speed (R97, R98) -/

/-- The weights of a reference alone: FBK4, FBK5, CAN, in 1/2^32. -/
def unitW (src : Nat) : Nat × Nat × Nat :=
  if src = 0 then (2 ^ 32, 0, 0) else if src = 1 then (0, 2 ^ 32, 0) else if src = 2 then (0, 0, 2 ^ 32) else (0, 0, 0)

/-- The control cycles of a blend. -/
def Chip.blendLen (c : Chip) : Nat := max 1 (c.get FBK_WHL_CFG2_BLEND_MS * 20)

/-- The weights of a blend between an old term and a target. -/
def Chip.blendMix (c : Chip) (w : Nat × Nat × Nat) (target cyc : Nat) : Nat × Nat × Nat :=
  let n := c.blendLen
  let k := min cyc n
  let u := unitW target
  ((w.1 * (n - k) + u.1 * k) / n, (w.2.1 * (n - k) + u.2.1 * k) / n, (w.2.2 * (n - k) + u.2.2 * k) / n)

/-- Whether the CAN speed reference is usable: a SPEED_IN message no older than VETO_AGE_MS, the age at which R199 calls it stale (R97, R334,
log 35). -/
def Chip.canFresh (c : Chip) : Bool :=
  match c.wheel.can with
  | some x => decide (c.now - x.2 ≤ c.get VOTE_VETO_VETO_AGE_MS * 1000000)
  | none => false

/-- The best qualified reference: 0 FBK4, 1 FBK5, 2 CAN, 3 none (R97). -/
def Chip.bestRef (c : Chip) : Nat :=
  let q4 := c.bit FBK_WHL_STAT_QUAL 0
  let q5 := c.bit FBK_WHL_STAT_QUAL 1
  match c.get FBK_WHL_CFG0_SPD_SEL with
  | 1 => if q4 then 0 else 3
  | 2 => if q5 then 1 else 3
  | 0 =>
    if c.is FBK_WHL_CFG0_PRIO_SWAP then (if q5 then 1 else if q4 then 0 else if c.canFresh then 2 else 3)
    else (if q4 then 0 else if q5 then 1 else if c.canFresh then 2 else 3)
  | _ => 3

/-- The rank of a reference, the lower the better. -/
def Chip.refRank (c : Chip) (src : Nat) : Nat :=
  if c.is FBK_WHL_CFG0_PRIO_SWAP ∧ src < 2 then 1 - src else src

/-- The blended vehicle speed of weights, 1/65,536 um/s. -/
def Chip.mixSpeed (c : Chip) (w : Nat × Nat × Nat) : Int :=
  let can : Int := match c.wheel.can with | some x => x.1 * 65536000 | none => 0
  ((w.1 : Int) * c.speedI 4 + (w.2.1 : Int) * c.speedI 5 + (w.2.2 : Int) * can) / 2 ^ 32

/-- REFERENCE_SELECT (R97, R98): each control cycle the best reference, the blend, the vehicle speed and the odometer increment. -/
def Chip.wheelCycle (c : Chip) : Chip :=
  let best := c.bestRef
  let target := c.get FBK_WHL_STAT_SRC
  let blending := c.is FBK_WHL_STAT_BLEND
  let c := if best = 3 ∧ c.wheelOn ∧ c.wheel.noRef = false then
      ({ c with wheel := { c.wheel with noRef := true } } : Chip).raise 0x0511
    else if best ≠ 3 ∧ c.wheel.noRef then ({ c with wheel := { c.wheel with noRef := false } } : Chip).endCondition 0x0511
    else c
  let c := if best = target then c
    else
      let old := if blending then c.blendMix c.wheel.oldW target c.wheel.blendCyc else unitW target
      let abandoned := blending && decide (c.refRank best < c.refRank target)
      let dv := divTrunc (c.mixSpeed (unitW best) - c.mixSpeed old) 65536
      let w := c.wheel
      let w := { w with oldW := old, blendCyc := 0 }
      let w := if blending then w else { w with fromSrc := target, viaSrc := 0xFF, changeAt := c.now, changeDv := dv, aborted := false }
      let w := if abandoned then { w with aborted := true, viaSrc := target } else w
      (({ c with wheel := w } : Chip).set FBK_WHL_STAT_SRC best).put FBK_WHL_STAT_BLEND true
  let c := if c.is FBK_WHL_STAT_BLEND then { c with wheel := { c.wheel with blendCyc := min c.blendLen (c.wheel.blendCyc + 1) } } else c
  let target := c.get FBK_WHL_STAT_SRC
  let w := if c.is FBK_WHL_STAT_BLEND then c.blendMix c.wheel.oldW target c.wheel.blendCyc else unitW target
  let c := c.setI FBK_VEH_SPEED_SPEED_MM (divTrunc (c.mixSpeed w) 65536000)
  let p4 := c.interpNm 4
  let p5 := c.interpNm 5
  let can : Int := match c.wheel.can with | some x => x.1 * 50 | none => 0
  let rest := c.wheel.rest + (w.1 : Int) * (p4 - c.wheel.pos4) + (w.2.1 : Int) * (p5 - c.wheel.pos5) + (w.2.2 : Int) * can
  let mm := rest / (1000000 * 2 ^ 32)
  let c : Chip := { c with wheel := { c.wheel with pos4 := p4, pos5 := p5, rest := rest - mm * (1000000 * 2 ^ 32) } }
  let c := c.domUpdate true 4
  if c.domValid 4 then c.domMeasure 4 (c.domVal 4 + mm) else c

/-- BLEND_COMPLETE (R98): the blend has reached its target, and one REFCHANGE record is written. -/
def Chip.blendComplete (c : Chip) : Chip :=
  if c.is FBK_WHL_STAT_BLEND ∧ c.blendLen ≤ c.wheel.blendCyc then
    let w := c.wheel
    let c := c.put FBK_WHL_STAT_BLEND false
    let c := c.record 7 [(20, leBytes 1 1), (21, leBytes 1 w.fromSrc), (22, leBytes 1 w.viaSrc), (23, leBytes 1 (c.get FBK_WHL_STAT_SRC)),
      (24, leBytes 1 (cond w.aborted 1 0)), (28, leBytes 8 (c.now - w.changeAt)), (36, leBytes 8 (unsignedOf 64 w.changeDv)),
      (44, leBytes 8 c.tbVeh)]
    { c with wheel := { c.wheel with aborted := false, viaSrc := 0xFF, oldW := unitW (c.get FBK_WHL_STAT_SRC) } }
  else c

/-- What a channel does at every control-cycle boundary: the count of rejected transitions begins again (R78). -/
def Chip.fbkBoundary (c : Chip) : Chip := { c with fbk := c.fbk.map (fun x => { x with rejCycle := 0 }) }

/-! ### The commands -/

/-- RAW_TRANSITION (R78). -/
def execRawTransition (t : Nat) (n : Fin 6) (a b : Bool) (s : State) : Host.Outcome State Fault Refusal :=
  run .island t (fun c => c.rawTransition n a b) s

/-- DEFERRED_EDGE_ACCEPT (R78). -/
def execDeferredEdgeAccept (t : Nat) (n : Fin 6) (s : State) : Host.Outcome State Fault Refusal := run .island t (fun c => c.deferredEdge n) s

/-- CABLE_FAULT_BEGIN (R76). -/
def execCableFaultBegin (t : Nat) (n : Fin 6) (i : Fin 3) (s : State) : Host.Outcome State Fault Refusal :=
  run .island t (fun c => c.cableBegin n i) s

/-- CABLE_FAULT_END (R76). -/
def execCableFaultEnd (t : Nat) (n : Fin 6) (i : Fin 3) (s : State) : Host.Outcome State Fault Refusal :=
  run .island t (fun c => c.cableEnd n i) s

/-- INDEX_PULSE (R80). -/
def execIndexPulse (t : Nat) (n : Fin 6) (hall : Bool) (s : State) : Host.Outcome State Fault Refusal :=
  run .island t (fun c => c.indexPulse n hall) s

/-- INDEX_ARM (R80). -/
def execIndexArm (t : Nat) (n : Fin 6) (s : State) : Host.Outcome State Fault Refusal := run .island t (fun c => c.put (FBK_CH_STAT_ARMED n) true) s

/-- INDEX_DISARM (R80). -/
def execIndexDisarm (t : Nat) (n : Fin 6) (s : State) : Host.Outcome State Fault Refusal :=
  run .island t (fun c => c.put (FBK_CH_STAT_ARMED n) false) s

/-- COUNT_WRITE (R82). -/
def execCountWrite (t : Nat) (n : Fin 6) (v : Word) (s : State) : Host.Outcome State Fault Refusal :=
  run .island t (fun c => c.countWrite n v.toNat) s

/-- HALL_CHANGE (R83). -/
def execHallChange (t : Nat) (n : Fin 4) (w : Fin 3) (magnet : Bool) (s : State) : Host.Outcome State Fault Refusal :=
  run .island t (fun c => c.hallChange n w magnet) s

/-- OBSERVER_UPDATE (R86). -/
def execObserverUpdate (t : Nat) (n : Fin 6) (s : State) : Host.Outcome State Fault Refusal := run .island t (fun c => c.observerUpdate n) s

/-- STANDSTILL (R90). -/
def execStandstill (t : Nat) (n : Fin 6) (s : State) : Host.Outcome State Fault Refusal := run .island t (fun c => c.standstill n) s

/-- A second without a fault qualifies a wheel channel (R94). -/
def Chip.wheelQualify (c : Chip) (w : Nat) : Chip :=
  match (c.fb (4 + w)).okSince with
  | some e =>
    if c.wheelOn ∧ c.is (FBK_CH_CFG_ENABLE (4 + w)) ∧ 1000000000 ≤ c.now - e then c.putBit FBK_WHL_STAT_QUAL w true else c
  | none => c

/-- WHEEL_QUALIFIED (R94). -/
def execWheelQualified (t : Nat) (w : Fin 2) (s : State) : Host.Outcome State Fault Refusal := run .island t (fun c => c.wheelQualify w) s

/-- WHEEL_DISAGREE (R95): the condition has held for SLIDE_T. -/
def execWheelDisagree (t : Nat) (s : State) : Host.Outcome State Fault Refusal :=
  run .island t (fun c =>
    match c.wheel.slideSince with
    | some e => if c.get FBK_WHL_CFG1_SLIDE_T * 1000000 ≤ c.now - e ∧ ¬ c.is FBK_WHL_STAT_DISAGREE then
        (({ c with wheel := { c.wheel with disagreeAt := c.now } } : Chip).put FBK_WHL_STAT_DISAGREE true).vstillCheck else c
    | none => c) s

/-- DISAGREE_FAULT (R95): DISAGREE has stayed set for 10 s. -/
def execDisagreeFault (t : Nat) (s : State) : Host.Outcome State Fault Refusal :=
  run .island t (fun c => if c.is FBK_WHL_STAT_DISAGREE ∧ 10000000000 ≤ c.now - c.wheel.disagreeAt then c.raise 0x0510 else c) s

/-- VOTED_STANDSTILL (R96). -/
def execVotedStandstill (t : Nat) (s : State) : Host.Outcome State Fault Refusal :=
  run .island t (fun c => if c.vstillOk ∧ c.get FBK_WHL_CFG1_HOLD_MS * 1000000 ≤ c.now - c.wheel.clearSince then c.put FBK_WHL_STAT_VSTILL true
    else c) s

/-- BLEND_COMPLETE (R98). -/
def execBlendComplete (t : Nat) (s : State) : Host.Outcome State Fault Refusal := run .island t (fun c => c.blendComplete) s

/-- PWC_PULSE (R100). -/
def execPwcPulse (t : Nat) (n : Fin 6) (width : Nat) (s : State) : Host.Outcome State Fault Refusal :=
  run .island t (fun c => c.pwcPulse n width) s

/-- SSI_FRAME (R101, R102). -/
def execSsiFrame (t : Nat) (n : Fin 6) (bits : Nat) (monoflop : Bool) (s : State) : Host.Outcome State Fault Refusal :=
  run .island t (fun c => c.ssiFrame n bits monoflop) s

end Sys2Proof.Machine
end

