-- ==== Sys2Proof/Machine/Params.lean ====
section
/-! DEFINITION. Configuration parameters: which register fields are parameters, their names and ranges, the layers as sparse lists of
words, and the stored copies (spec/18 R418 to R421, spec/19 R434 to R438). -/

namespace Sys2Proof.Machine

/-! ### Which fields are parameters -/

/-- Whether an address lies in a block of registers. -/
def within (a lo hi : Nat) : Bool := decide (lo ≤ a ∧ a < hi)

/-- RW fields that are no parameter (log 46): state that commands write (FBK counts, CAN MODE, REL_HOLD, LIST_IDX), and what DOOR programs
itself (trips, F_LIM, motion sets 0 to 31 but for the deployed ends of sets 2 and 6, profile 15, slots 0 to 31). -/
def notParam (a : Nat) (f : FieldRow) : Bool :=
  inRow a (FBK_CH_COUNT_REG 0) 6 0x100 || (inRow a (CAN_CTRL_REG 0) 3 0x10000 && f.lo == 5) ||
  a == VOTE_HOLD_REG || a == FLT_LIST_IDX_REG || inRow a (MOT_AX_TRIP_REG 0) 4 0x100 ||
  (inRow a (CUR_AX_FLIM_REG 0) 4 0x100 && f.lo == 0) ||
  (within a (MOT_MS_TGT_REG 0) (MOT_MS_TGT_REG 32) && a != MOT_MS_TGT_REG 2 && a != MOT_MS_TGT_REG 6) ||
  within a (MOT_PRF_VSTART_REG 15) (MOT_PRF_VSTART_REG 16) || within a (DOM_SLOT_CFG_REG 0) (DOM_SLOT_CFG_REG 32)

/-- The parameter fields of the word at an address (R434). -/
def paramFields (a : Nat) : List FieldRow :=
  match regRowAt a with
  | some r => r.fields.filter (fun f => f.acc == .rw && !notParam a f)
  | none => []

/-- `old` with the parameter fields of `w`. -/
def mergeParams (a : Nat) (old w : Word) : Word :=
  BitVec.ofNat 32 ((paramFields a).foldl (fun n f => putBits n f.lo f.w (bitsOf w.toNat f.lo f.w)) old.toNat)

/-! ### Layers -/

/-- The layer a register file holds: the parameter words that differ from FACTORY. -/
def layerOf : List (Nat × Word) → List (Nat × Word)
  | [] => []
  | (a, w) :: m =>
    let v := mergeParams a (resetWord a) w
    if v = resetWord a then layerOf m else (a, v) :: layerOf m

/-- The RUNNING layer (R434). -/
def Chip.running (c : Chip) : List (Nat × Word) := layerOf c.regs

/-- The words in which two layers differ. -/
def layerDiff (a b : List (Nat × Word)) : List Nat :=
  ((a.map (fun p => p.1)) ++ (b.map (fun p => p.1)).filter (fun x => !a.any (fun p => p.1 == x))).filter
    (fun x => sread resetWord a x != sread resetWord b x)

/-- The chip with the parameters of a layer in its registers; nothing acts on the change here. -/
def Chip.withLayer (c : Chip) (l : List (Nat × Word)) : Chip :=
  (layerDiff c.running l).foldl (fun c a => c.wr a (mergeParams a (c.rd a) (sread resetWord l a))) c

/-- A layer with one field changed. -/
def layerSet (l : List (Nat × Word)) (a : Nat) (f : FieldRow) (v : Nat) : List (Nat × Word) :=
  swrite resetWord l a (BitVec.ofNat 32 (putBits (sread resetWord l a).toNat f.lo f.w v))

/-! ### Names (R418) -/

/-- The name of a field of the register at an address. -/
def fieldName (a : Nat) (f : FieldRow) : String :=
  match regRowAt a with
  | some r => r.head ++ (if r.indexed then toString ((a - r.addr) / r.stride) else "") ++ f.short
  | none => ""

/-- The fields whose short or long name has a property: (address, field), in the order of the table. -/
def fieldsWhere (p : String → Bool) : List (Nat × FieldRow) :=
  regTable.flatMap (fun r => r.fields.flatMap (fun f => (List.range r.n).filterMap (fun i =>
    let h := r.head ++ (if r.indexed then toString i else "")
    if p (h ++ f.short) || p (h ++ f.long) then some (r.addr + r.stride * i, f) else none)))

/-- The field of a name; none where no field has it. -/
def findField (name : String) : Option (Nat × FieldRow) := (fieldsWhere (fun n => n == name)).head?

/-- The fields below a prefix (R419). -/
def fieldsBelow (pre : String) : List (Nat × FieldRow) :=
  fieldsWhere (fun n => (pre ++ ".").toList.isPrefixOf n.toList)

/-- A field's value as text: signed fields with their sign (R416). -/
def valueStr (f : FieldRow) (w : Word) : String :=
  let v := bitsOf w.toNat f.lo f.w
  if f.sgn then intStr (signedOf f.w v) else toString v

/-! ### Ranges -/

/-- The least and greatest value of a field. -/
def fieldMin (f : FieldRow) : Int := if f.sgn then -(2 ^ (f.w - 1)) else f.min
def fieldMax (f : FieldRow) : Int := if f.sgn then 2 ^ (f.w - 1) - 1 else f.max

/-- Whether a value is in the range of its field; USTEPS takes powers of two to 256, VM_ID_BASE multiples of 0x20 (R124, Table 14-2). -/
def fieldOk (a : Nat) (f : FieldRow) (v : Int) : Bool :=
  decide (fieldMin f ≤ v ∧ v ≤ fieldMax f) &&
    (!(inRow a (MOT_AX_CFG_REG 0) 4 0x100 && f.lo == 16) || [1, 2, 4, 8, 16, 32, 64, 128, 256].contains v.toNat) &&
    (!(a == VM_ID_BASE_REG) || v.toNat % 32 == 0)

/-- The error of a value out of range: the owning chapter's code, else E201 (R420). -/
def rangeCode (a : Nat) (f : FieldRow) : Nat :=
  if within a 0x40050000 0x40060000 then 241
  else if within a 0x60000000 0x60001000 then 253
  else if (a == ETH_CFG_REG && (f.lo == 1 || f.lo == 3)) || (a == TSYN_CFG_REG && f.lo == 1) then 252
  else if inRow a (VOTE_SIN_CFG_REG 0) 24 4 && f.lo == 0 then 247
  else 201

/-! ### Stored copies (R437) -/

/-- The key of a parameter in a copy: its ID (the row of the register table and the field's lowest bit) and its index (log 62). -/
def entryKey (a : Nat) (f : FieldRow) : Nat :=
  match regTable.findIdx? (fun r => inRow a r.addr r.n r.stride), regRowAt a with
  | some k, some r => (32 * k + f.lo) * 256 + (a - r.addr) / r.stride
  | _, _ => 0

/-- The entries of a layer in ascending ID and index. -/
def layerEntries (l : List (Nat × Word)) : List (Nat × Nat) :=
  l.foldl (fun m p => (paramFields p.1).foldl (fun m f =>
    let v := bitsOf p.2.toNat f.lo f.w
    if v = bitsOf (resetWord p.1).toNat f.lo f.w then m else sins m (entryKey p.1 f) v) m) []

/-- The bytes of the entries. -/
def entryBytes (es : List (Nat × Nat)) : List Byte :=
  es.flatMap (fun e => leBytes 2 (e.1 / 256) ++ leBytes 1 (e.1 % 256) ++ leBytes 1 0 ++ leBytes 4 e.2)

/-- CFG_CRC of a layer: the CRC-32 of its entries (the canonical order, log 62). -/
def layerCrc (l : List (Nat × Word)) : Nat := crc32 (entryBytes (layerEntries l))

/-- The layer of `n` entries; an entry whose ID names no parameter is ignored (R437). -/
def parseEntries : Nat → List Byte → List (Nat × Word)
  | 0, _ => []
  | n + 1, b =>
    let l := parseEntries n (b.drop 8)
    let id := leAt b 0 2
    let i := leAt b 2 1
    match regTable[id / 32]? with
    | none => l
    | some r =>
      let a := r.addr + r.stride * i
      match (paramFields a).find? (fun f => f.lo == id % 32) with
      | some f => if i < r.n then layerSet l a f (leAt b 4 4) else l
      | none => l

/-- A valid stored copy: SEQ, CFG_CRC and the layer. -/
structure Copy where
  seq : Nat
  crc : Nat
  layer : List (Nat × Word)
deriving DecidableEq, Repr

/-- The base of copy A or B. -/
def copyAddr (k : Nat) : Nat := 0x102C0000 + 0x10000 * k

/-- The copy at its place, where MAGIC, FORMAT and CRC are right (R438). -/
def Chip.copyAt (c : Chip) (k : Nat) : Option Copy :=
  let h := c.rdBytes (copyAddr k) 64
  let n := leAt h 6 2
  let es := c.rdBytes (copyAddr k + 64) (8 * n)
  if leAt h 0 4 = 0x46435643 ∧ leAt h 4 2 = 1 ∧ n ≤ 8184 ∧ leAt h 60 4 = crc32 (h.take 60 ++ es) then
    some { seq := leAt h 8 4, crc := leAt h 24 4, layer := parseEntries n es }
  else none

/-- The bytes of a copy (Table 19-3): the version of the APP and TB_VEH at the save. -/
def Chip.copyBytes (c : Chip) (l : List (Nat × Word)) (seq : Nat) : List Byte :=
  let es := layerEntries l
  let h := leBytes 4 0x46435643 ++ leBytes 2 1 ++ leBytes 2 es.length ++ leBytes 4 seq ++ leBytes 4 (c.imgVersion 1) ++
    leBytes 8 c.tbVeh ++ leBytes 4 (layerCrc l) ++ List.replicate 32 0
  h ++ leBytes 4 (crc32 (h ++ entryBytes es)) ++ entryBytes es

/-- CFG_CRC of a stored copy; 0 where it is not valid. -/
def Chip.copyCrc (c : Chip) (k : Nat) : Nat := match c.copyAt k with | some x => x.crc | none => 0

end Sys2Proof.Machine
end

