-- ==== Sys2Proof/Machine/Admission.lean ====
section
/-! DEFINITION. The rules a configuration must meet and the admission test: tasks, slots, stripe jobs and cameras against their deadlines
(spec/19 R443 to R449, and the refusals E241 to E253 of the block chapters). A configuration is tested as the chip that would hold it. -/

namespace Sys2Proof.Machine

/-! ### The rules of the owning chapters -/

/-- What stands against a configuration: an error and the item it names. -/
abbrev Rule := Bool × Nat × String

/-- FBK (R88, R100, R101, 04.9). -/
def Chip.fbkRules (k : Chip) (n : Nat) : List Rule :=
  let item := "fbk.ch" ++ toString n
  let len := k.get (FBK_CH_SSI_CFG0_BITS n) + (if k.get (FBK_CH_SSI_CFG0_PARITY n) = 0 then 0 else 1) + k.get (FBK_CH_SSI_CFG0_ERRBITS n)
  let pwc := k.get (FBK_CH_CFG_PT_MODE n) == 2 || k.get (FBK_CH_CFG_MODE n) == 1
  [(k.is (FBK_CH_CFG_ENABLE n) && k.pitch n == 0, 241, item),
   (decide (k.get (FBK_CH_CHG_F_HI n) ≤ k.get (FBK_CH_CHG_F_LO n)), 241, item),
   (pwc && decide (4 * k.get (FBK_CH_FILT_T_MIN n) < 1300), 241, item),
   (decide (46000 < (len + 1) * k.get (FBK_CH_SSI_CFG0_CLK_DIV n) * 4 + 1000 * k.get (FBK_CH_SSI_CFG0_TM_US n)), 241, item)]

/-- MOT and CUR (06.9, R147, R148). -/
def Chip.axisRules (k : Chip) (n : Nat) : List Rule :=
  let m := "mot.ax" ++ toString n
  let u := "cur.ax" ++ toString n
  let r := k.get (CUR_AX_SCALE_R_SENSE n)
  let i := k.get (CUR_AX_SCALE_I_PEAK n)
  [(k.is (MOT_AX_CFG_ENABLE n) && k.get (MOT_AX_LEAD_LEAD_NM n) == 0, 242, m),
   (k.is (CUR_AX_CFG_ENABLE n) && (r == 0 || i == 0), 243, u),
   (r != 0 && decide (95 * k.iFs n < 100 * (i * 1000)), 243, u),
   (decide (160 < k.get (CUR_AX_CHOP_TOFF n) + k.get (CUR_AX_CFG_TBLANK n)), 243, u)]

/-- MOT's user table (R140): its 256 entries and the fixed end must not fall. -/
def Chip.tblRules (k : Chip) : List Rule :=
  let q := (List.range 128).flatMap (fun i => [k.get (MOT_TBL_Q_EVEN i), k.get (MOT_TBL_Q_ODD i)])
  [(k.is MOT_TBL_CFG_USER_TBL && (q.zip (q.drop 1 ++ [32767])).any (fun p => decide (p.2 < p.1)), 242, "mot.user_tbl")]

/-- DOOR (R170, R171, R211, R444). -/
def Chip.doorRules (k : Chip) : List Rule :=
  let pr := k.profile (k.get DOOR_PROF_P_RIND)
  let profs := [k.get DOOR_PROF_P_OPEN, k.get DOOR_PROF_P_CLOSE, k.get DOOR_PROF_P_RIND, k.get DOOR_PROF_P_STEP, k.get DOOR_PROF_P_RAMP]
  let sets := (List.range 32).map (fun m => k.get (MOT_MS_CFG_PROFILE (32 + m)))
  [(decide (k.get DOOR_TWARN_T_WARN_VA < k.get DOOR_TWARN_T_WARN), 246, "door.t_warn_va"),
   (decide (pr.vBrk ≠ pr.vMax), 245, "door.p_rind"),
   (decide (k.get VOTE_RIND_V_RIND_MAX * 1000 < pr.vMax), 245, "door.p_rind"),
   (k.leaves.any (fun n => decide (pr.vBrk < 1000 * k.get (CUR_AX_FLIM_V_EMF_MIN n))), 245, "door.p_rind"),
   ((profs ++ sets).contains 15, 245, "mot.prf15"),
   (k.is DOOR_CFG_STEP_EN && decide (k.get DOOR_STEP_RET_POS_UM ≤ k.get DOOR_STEP_CLR_STEP_CLR_UM), 245, "door.step_clr_um")]

/-- The enabled inputs with a function. -/
def Chip.sinsOf (k : Chip) (func : Nat) : List Nat :=
  (List.range 24).filter (fun n => k.is (VOTE_SIN_CFG_EN n) && k.get (VOTE_SIN_CFG_FUNC n) == func)

/-- Whether two functions' inputs share a TPO. -/
def Chip.shareTpo (k : Chip) (a b : Nat) : Bool :=
  (k.sinsOf a).any (fun x => (k.sinsOf b).any (fun y => k.is (VOTE_SIN_CFG_MODE x) && k.is (VOTE_SIN_CFG_MODE y) &&
    k.get (VOTE_SIN_CFG_TPO x) == k.get (VOTE_SIN_CFG_TPO y)))

/-- VOTE (R183, R206, R213). -/
def Chip.voteRules (k : Chip) : List Rule :=
  let fo := k.get VOTE_FLIM0_F_LIM_OUT
  let fr := k.get VOTE_FLIM0_F_LIM_RIND
  let fd := k.get VOTE_FLIM1_F_LIM_DEGR
  let fp := k.get VOTE_FLIM1_F_LIM_OPEN
  [([1, 2, 3, 4, 5, 6, 7, 8, 9, 12].any (fun f => decide (1 < (k.sinsOf f).length)), 247, "vote.sin"),
   ([1, 2, 5, 6].any (fun f => k.sinsOf f == []), 247, "vote.sin"),
   ([1, 2, 3, 4, 5, 6, 12].any (fun f => (k.sinsOf f).any (fun n => !k.is (VOTE_SIN_CFG_MODE n))), 247, "vote.sin"),
   (k.shareTpo 1 2 || k.shareTpo 5 6 || k.shareTpo 7 8, 247, "vote.sin"),
   ((List.range 8).any (fun i => decide (2 < bitsOf (k.get VOTE_SIGCFG_CODES) (3 * i) 3)), 247, "vote.codes"),
   (!decide (20 ≤ fd ∧ fd ≤ fr ∧ fr ≤ fo ∧ fo ≤ 400 ∧ 20 ≤ fp ∧ fp ≤ 400), 248, "vote.flim")]

/-- Whether two stretches of LPDDR4X overlap. -/
def overlap (a la b lb : Nat) : Bool := la != 0 && lb != 0 && decide (a < b + lb ∧ b < a + la)

/-- The stretch of a camera's ring. -/
def Chip.ringSpan (k : Chip) (n : Nat) : Nat × Nat :=
  (k.get (VMC_RING_BASE_OFS n), if k.is (NOS_CAM_CFG_EN n) then
    k.get (NOS_CAM_RING_RING_LINES n) * ((k.get (NOS_CAM_GEOM_WIDTH n) + 31) / 32 * 32) else 0)

/-- Whether any mask that makes a camera subject to R243 has a cell. -/
def Chip.tripMasked (k : Chip) (cam : Nat) : Bool :=
  [0, 1].any (fun m => (List.range 18).any (fun w => k.get (VOTE_MASK_ROW cam m w) != 0))

/-- NOS (10.2, R230, R231, R243), on the CV-4410. -/
def Chip.nosRules (k : Chip) : List Rule :=
  let win : Nat → Nat × Nat := fun t => (k.get (NOS_TEN_BASE_OFS t), k.get (NOS_TEN_SIZE_SIZE t))
  let run : Nat → Bool := fun t => k.bit NOS_CTRL_TEN_EN t
  let mask : Nat → Nat := fun t => k.get (NOS_TEN_CFG_CLU_MASK t)
  [(decide (k.get DOM_CFG_D5_VC ≠ k.get (NOS_CAM_CFG_VC 0)), 249, "nos.cam0"),
   (decide (k.get DOM_CFG_D6_VC ≠ k.get (NOS_CAM_CFG_VC 1)), 249, "nos.cam1"),
   ([(0, 1), (0, 2), (0, 3), (1, 2), (1, 3), (2, 3)].any (fun p => overlap (win p.1).1 (win p.1).2 (win p.2).1 (win p.2).2), 249, "nos.ten"),
   ([0, 1, 2, 3].any (fun t => run t && mask t == 0), 249, "nos.ten"),
   (Nat.land (mask 1) (Nat.lor (mask 2) (mask 3)) != 0, 249, "nos.ten1"),
   (k.tripMasked 0 && (k.get (NOS_CAM_EXPLAT_EXP_LAT_US 0) == 0 || k.get (DOM_D_RATE_RATE 5) == 0), 249, "nos.cam0"),
   (k.tripMasked 1 && (k.get (NOS_CAM_EXPLAT_EXP_LAT_US 1) == 0 || k.get (DOM_D_RATE_RATE 6) == 0), 249, "nos.cam1")]

/-- VMC (R256), on the CV-4410. -/
def Chip.vmcRules (k : Chip) : List Rule :=
  let sl : Nat → Nat := fun p => k.get (VMC_PART_CFG_SLICES p)
  let r0 := k.ringSpan 0
  let r1 := k.ringSpan 1
  let hit : Nat × Nat → Bool := fun r => [0, 1, 2, 3].any (fun t => overlap r.1 r.2 (k.get (NOS_TEN_BASE_OFS t)) (k.get (NOS_TEN_SIZE_SIZE t)))
  [([(0, 1), (0, 2), (0, 3), (0, 4), (1, 2), (1, 3), (1, 4), (2, 3), (2, 4), (3, 4)].any (fun p => Nat.land (sl p.1) (sl p.2) != 0),
      250, "vmc.part"),
   ([0, 1, 2, 3].any (fun t => k.bit NOS_CTRL_TEN_EN t && sl t == 0), 250, "vmc.part"),
   ([0, 1, 2, 3].any (fun r => k.is (VMC_SHR_CFG_EN r) && k.is (VMC_PART_CFG_MODE (k.get (VMC_SHR_CFG_TEN r)))), 250, "vmc.shr"),
   (hit r0 || hit r1 || overlap r0.1 r0.2 r1.1 r1.2, 250, "vmc.ring")]

/-- The vehicle messages (R314, 15.5). -/
def Chip.vmRules (k : Chip) : List Rule :=
  let b := k.get VM_ID_BASE_VALUE
  let sp := k.get VM_SPEED_ID_VALUE
  let ti := k.get VM_TIME_ID_VALUE
  [(decide (b ≤ sp ∧ sp ≤ b + 0xDF), 253, "vm.speed_id"), (decide (b ≤ ti ∧ ti ≤ b + 0xDF), 253, "vm.time_id"),
   (sp == ti, 253, "vm.speed_id")]

/-- CAN: what INIT = 0 would refuse (R271, R276, R279). -/
def Chip.canRules (k : Chip) : List Rule :=
  [0, 1, 2].map (fun n => (!k.is (CAN_CTRL_INIT n) && !k.canInitOk n, 251, "can" ++ toString n))

/-- Every rule, in the order of the error numbers. -/
def Chip.allRules (k : Chip) : List Rule :=
  [0, 1, 2, 3, 4, 5].flatMap (fun n => k.fbkRules n) ++ [0, 1, 2, 3].flatMap (fun n => k.axisRules n) ++ k.tblRules ++ k.doorRules ++ k.voteRules ++
    (if k.fuses.partN then [] else k.nosRules ++ k.vmcRules) ++ k.canRules ++ k.vmRules

/-- The first rule a configuration breaks. -/
def Chip.ruleBroken (k : Chip) : Option (Nat × String) := (k.allRules.find? (fun r => r.1)).map (fun r => r.2)

/-! ### Tasks (R446, Table 19-7); times in ns -/

/-- A firmware task: name, core, rate per second, C, D, L, whether it stores to MRAM. -/
structure Task where
  name : String
  core : Nat
  rate : Nat
  cost : Nat
  dl : Nat
  lat : Nat
  stores : Bool
deriving DecidableEq, Repr

/-- The task set, by core in order of priority. -/
def Chip.tasks (k : Chip) (core : Nat) : List Task :=
  match core with
  | 0 => [⟨"mirror_frame", 0, 20000, 12000, 20000, 0, false⟩, ⟨"door_sequencer", 0, 20000, 22000, 50000, 0, false⟩]
  | 1 => [⟨"command_acceptance", 1, k.get ADM_CMD_RATE_VALUE, 25000, 2000000, 130000, true⟩,
      ⟨"ledger_writer", 1, 1000, 10000, 1000000, 0, true⟩, ⟨"status_messages", 1, 100, 40000, 20000000, 0, false⟩,
      ⟨"occupancy", 1, 0, 8000, 2000000, 0, false⟩]
  | 2 => [⟨"console_line", 2, k.get ADM_CON_RATE_VALUE, 400000, 50000000, 0, false⟩]
  | _ => []

/-- The iteration of R446: from `r`, with the constant part and the tasks of higher priority, at most `fuel` rounds. -/
def taskIter (fixed limit : Nat) (higher : List Task) : Nat → Nat → Nat
  | 0, r => r
  | fuel + 1, r =>
    let r' := fixed + higher.foldl (fun n j => n + divUp (r * j.rate) 1000000000 * j.cost) 0
    if r' = r ∨ limit < r' then r' else taskIter fixed limit higher fuel r'

/-- R of a task among those of its core, `lower` of them below it. -/
def taskResponse (t : Task) (higher : List Task) (lower : Nat) : Nat :=
  let b := (if lower = 0 then 0 else if t.core = 0 then 5000 else 10000) + (if t.stores then 272000 else 0)
  taskIter (t.cost + b) (t.dl - t.lat) higher 4096 (t.cost + b)

/-- An admitted item: its name, its response time where one exists, and its deadline. -/
structure Item where
  name : String
  need : Option Nat
  dl : Nat
deriving DecidableEq, Repr

/-- Whether an item passes. -/
def Item.ok (i : Item) : Bool := match i.need with | some n => decide (n ≤ i.dl) | none => false

/-- The items of a list of tasks in order of priority, `higher` before it. -/
def taskItems (higher : List Task) : List Task → List Item
  | [] => []
  | t :: ts => { name := "app.core" ++ toString t.core ++ "." ++ t.name, need := some (taskResponse t higher ts.length + t.lat), dl := t.dl } ::
      taskItems (higher ++ [t]) ts

/-- The response time of the command-acceptance task with its latency off the core. -/
def Chip.acceptResponse (k : Chip) : Nat :=
  match taskItems [] (k.tasks 1) with
  | i :: _ => i.need.getD 0
  | [] => 0

/-! ### Moves (R129, R130) -/

/-- Distances of the acceleration and the deceleration to and from a speed, um, in units of 1/(2000 x A1 x A2 x D1 x D2). -/
def accDist (p : Profile) (v : Nat) : Nat :=
  (if v ≤ p.vBrk then (v * v - p.vStart * p.vStart) * p.a2
   else (p.vBrk * p.vBrk - p.vStart * p.vStart) * p.a2 + (v * v - p.vBrk * p.vBrk) * p.a1) * p.d1 * p.d2
def decDist (p : Profile) (v : Nat) : Nat :=
  (if v ≤ p.vBrk then (v * v - p.vStop * p.vStop) * p.d2
   else (p.vBrk * p.vBrk - p.vStop * p.vStop) * p.d2 + (v * v - p.vBrk * p.vBrk) * p.d1) * p.a1 * p.a2

/-- The time between two speeds at a rate, ns. -/
def rampTime (lo hi rate : Nat) : Nat := divUp ((hi - lo) * 1000000) rate

/-- The times of the acceleration from V_START and of the deceleration to V_STOP, ns. -/
def accTime (p : Profile) (v : Nat) : Nat :=
  if v ≤ p.vBrk then rampTime p.vStart v p.a1 else rampTime p.vStart p.vBrk p.a1 + rampTime p.vBrk v p.a2
def decTime (p : Profile) (v : Nat) : Nat :=
  if v ≤ p.vBrk then rampTime p.vStop v p.d1 else rampTime p.vStop p.vBrk p.d1 + rampTime p.vBrk v p.d2

/-- The greatest speed, um/s, up to which acceleration and deceleration fit into a distance, by its bits from `n - 1` down. -/
def peakSpeed (p : Profile) (s : Nat) : Nat → Nat → Nat
  | 0, v => v
  | n + 1, v => peakSpeed p s n (if v + 2 ^ n ≤ p.vMax ∧ accDist p (v + 2 ^ n) + decDist p (v + 2 ^ n) ≤ s then v + 2 ^ n else v)

/-- The time of a move of `um` from standstill, ns, rounded up; none with a profile that no axis applies (Table 06-2). -/
def moveTime (p : Profile) (um : Nat) : Option Nat :=
  if profOk p then
    let unit := 2000 * p.a1 * p.a2 * p.d1 * p.d2
    let s := um * unit
    if s < decDist p p.vStart then some (rampTime (isqrt (p.vStart * p.vStart - 2000 * p.d1 * um)) p.vStart p.d1)
    else
      let v := max p.vStart (peakSpeed p s 32 0)
      some (accTime p v + decTime p v + divUp ((s - accDist p v - decDist p v) * 1000000000) (unit * v))
  else none

/-- The distance a motion set can command on an axis, um (R445). -/
def Chip.setReach (k : Chip) (ax m : Nat) : Nat :=
  if k.is (MOT_MS_CFG_REL m) then (k.getI (MOT_MS_TGT_TGT m)).natAbs
  else if ax < 2 then k.get DOOR_STROKE_STROKE_UM
  else if ax = 2 then (k.getI (MOT_MS_TGT_TGT 2)).natAbs
  else (k.getI (MOT_MS_TGT_TGT 6)).natAbs

/-! ### Stripe jobs (R447); times in ns -/

/-- T_LINE of a camera's domain; 0 while no rate is declared. -/
def Chip.lineTime (k : Chip) (d : Nat) : Nat := if k.get (DOM_D_RATE_RATE d) = 0 then 0 else divUp 1000000000 (k.get (DOM_D_RATE_RATE d))

/-- The slot that starts a job: the first of 32 to 63 with action STRIPE for it. -/
def Chip.jobSlot (k : Chip) (ten idx : Nat) : Option Nat :=
  ((List.range 32).map (fun n => 32 + n)).find? (fun n => k.get (DOM_SLOT_CFG_ACTION n) == 5 &&
    bitsOf (k.get (DOM_SLOT_PARAM_PARAM n)) 0 2 == ten && bitsOf (k.get (DOM_SLOT_PARAM_PARAM n)) 4 6 == idx)

/-- The period of a job: repeat x T_LINE of its slot. -/
def Chip.jobPeriod (k : Chip) (ten idx : Nat) : Option Nat :=
  match k.jobSlot ten idx with
  | some n => (let p := k.get (DOM_SLOT_REP_REPEAT n) * k.lineTime (k.slotDom n); if p = 0 then none else some p)
  | none => none

/-- W of a job. -/
def Chip.jobCost (k : Chip) (ten idx : Nat) : Nat := match (k.tenant ten).jobs[idx]? with | some j => j.wcet * 1000 | none => 0

/-- Whether two tenants share a cluster. -/
def Chip.shareClu (k : Chip) (a b : Nat) : Bool := Nat.land (k.get (NOS_TEN_CFG_CLU_MASK a)) (k.get (NOS_TEN_CFG_CLU_MASK b)) != 0

/-- The number of a tenant's clusters. -/
def Chip.cluCount (k : Chip) (ten : Nat) : Nat := max 1 ((List.range 4).filter (fun n => bitAt (k.get (NOS_TEN_CFG_CLU_MASK ten)) n)).length

/-- The jobs that may run before job `idx` of a tenant on its clusters: (tenant, job). -/
def Chip.jobsBefore (k : Chip) (ten idx : Nat) : List (Nat × Nat) :=
  (List.range 4).flatMap (fun t =>
    if t < ten ∧ k.shareClu t ten then (List.range (k.tenant t).jobs.length).map (fun i => (t, i))
    else if t = ten then ((List.range (k.tenant t).jobs.length).filter (fun i => i != idx)).map (fun i => (t, i))
    else [])

/-- The iteration of R447 from `r`. -/
def Chip.jobIter (k : Chip) (fixed limit n : Nat) (before : List (Nat × Nat)) : Nat → Nat → Nat
  | 0, r => r
  | fuel + 1, r =>
    let r' := fixed + before.foldl (fun m p =>
      let runs := match k.jobPeriod p.1 p.2 with | some t => divUp r t | none => 1
      m + divUp runs n * k.jobCost p.1 p.2) 0
    if r' = r ∨ limit < r' then r' else k.jobIter fixed limit n before fuel r'

/-- R_JOB of job `idx` of a tenant. -/
def Chip.jobResponse (k : Chip) (ten idx : Nat) : Nat :=
  let dep := match (k.tenant ten).jobs[idx]? with | some j => (if j.dep = 0xFF then 0 else k.jobCost 0 j.dep) | none => 0
  let b := ((List.range 4).filter (fun t => decide (ten < t) && k.shareClu t ten)).foldl (fun m t => max m (1000 * k.get (NOS_TEN_LMAX_LMAX t))) 0
  let fixed := k.jobCost ten idx + dep + b
  k.jobIter fixed 1000000000 (k.cluCount ten) (k.jobsBefore ten idx) 1024 fixed

/-- The items of the stripe jobs, by tenant and job index. -/
def Chip.jobItems (k : Chip) : List Item :=
  if k.fuses.partN then [] else
  (List.range 4).flatMap (fun t => (List.range (k.tenant t).jobs.length).filterMap (fun i =>
    match k.jobPeriod t i with
    | some p => some { name := "nos.ten" ++ toString t ++ ".job" ++ toString i, need := some (k.jobResponse t i), dl := p }
    | none => none))

/-- The items of the cameras with a WITHHOLD or REVERSE mask (R243). -/
def Chip.camItems (k : Chip) : List Item :=
  if k.fuses.partN then [] else
  [0, 1].filterMap (fun cam =>
    if k.tripMasked cam then
      let ts := if k.is VOTE_CFG_T2_ACT then [1, 2] else [1]
      let js := ts.flatMap (fun t => ((List.range (k.tenant t).jobs.length).filter (fun i =>
        match (k.tenant t).jobs[i]? with | some j => j.cam == cam | none => false)).map (fun i => (t, i)))
      let span := js.foldl (fun m p => match (k.tenant p.1).jobs[p.2]? with | some j => max m j.span | none => m) 0
      let r := js.foldl (fun m p => max m (k.jobResponse p.1 p.2)) 0
      some { name := "nos.cam" ++ toString cam, dl := 8000000,
             need := some (1000 * k.get (NOS_CAM_EXPLAT_EXP_LAT_US cam) +
               (if k.get (DOM_D_RATE_RATE (5 + cam)) = 0 then 0 else divUp (span * 1000000000) (k.get (DOM_D_RATE_RATE (5 + cam)))) + 12000 + r) }
    else none)

/-! ### Slots (R444, R445, Table 19-6) -/

/-- The response time of a slot of 32 to 63 by its action, ns. -/
def Chip.slotResponse (k : Chip) (n : Nat) : Option Nat :=
  let p := k.get (DOM_SLOT_PARAM_PARAM n)
  match k.get (DOM_SLOT_CFG_ACTION n) with
  | 0 =>
    let m := bitsOf p 4 6
    match moveTime (k.profile (k.get (MOT_MS_CFG_PROFILE m))) (k.setReach (bitsOf p 0 2) m) with
    | some t => some (50000 + t)
    | none => none
  | 1 => some (10000 + k.acceptResponse)
  | 2 => some 8
  | 3 => some 0
  | 4 => some 50000
  | 5 => some (2000 + k.jobResponse (bitsOf p 0 2) (bitsOf p 4 6))
  | _ => none

/-- The item of a slot of 32 to 63. -/
def Chip.slotItem (k : Chip) (n : Nat) : Item := { name := "dom.slot" ++ toString n, need := k.slotResponse n, dl := k.deadlineNs n }

/-- The item of DOOR's slot 4: the step retract over its stroke against STEP_RET_UM - STEP_CLR_UM at the declared rate of the reference leaf
(R444). DOOR's other slots declare their own delivery bound and pass; with no declared rate DOOR stays in ISOLATED (R164). -/
def Chip.doorItem (k : Chip) : List Item :=
  let rate := k.get (DOM_D_RATE_RATE k.refLeaf)
  if k.is DOOR_CFG_STEP_EN ∧ rate ≠ 0 then
    [{ name := "door.slot4", dl := 4 * ((k.get DOOR_STEP_RET_POS_UM - k.get DOOR_STEP_CLR_STEP_CLR_UM) * 1000000000 / (4 * rate)),
       need := match moveTime (k.profile (k.get DOOR_PROF_P_STEP)) ((k.getI (MOT_MS_TGT_TGT 2)).natAbs) with
         | some t => some (50000 + t)
         | none => none }]
  else []

/-- Every item of a configuration in test order (R449). -/
def Chip.items (k : Chip) : List Item :=
  [0, 1, 2].flatMap (fun c => taskItems [] (k.tasks c)) ++ k.doorItem ++
    (((List.range 32).map (fun n => 32 + n)).filter (fun n => k.armed n)).map (fun n => k.slotItem n) ++ k.jobItems ++ k.camItems

/-! ### The notifications (R449) -/

/-- A time in us, with three decimals where it is not whole. -/
def usStr (ns : Nat) : String :=
  if ns % 1000 = 0 then toString (ns / 1000)
  else toString (ns / 1000) ++ "." ++ toString (ns / 100 % 10) ++ toString (ns / 10 % 10) ++ toString (ns % 10)

/-- The chip with the notifications of a test: PASS, or one FAIL per failing item up to 8. -/
def Chip.admNotify (c : Chip) (bad : List Item) : Chip :=
  match bad with
  | [] => c.notify .adm "adm result=PASS"
  | _ :: _ => (bad.take 8).foldl (fun c i => c.notify .adm ("adm result=FAIL item=" ++ i.name ++
      (match i.need with
       | some n => " need=" ++ usStr n ++ " dl=" ++ usStr i.dl ++ " short=" ++ usStr (n - i.dl)
       | none => " dl=" ++ usStr i.dl))) c

end Sys2Proof.Machine
end

