-- ==== Sys2Proof/Machine/Ether.lean ====
section
/-! DEFINITION. The Ethernet ports and switch, and TSYN: references of vehicle time, their qualification, the servo and the pulse per
second (spec/13_ethernet_and_time.md R294 to R312). -/

namespace Sys2Proof.Machine

/-! ### The switch (R294 to R298) -/

/-- Whether an external port carries frames: ETH enabled and out of reset, its interface on, its link up. -/
def Chip.portUp (c : Chip) (p : Nat) : Bool :=
  c.is ETH_CFG_EN && !c.bit SYS_FRST_STAT_BUSY 8 && c.is (ETH_PORT_STAT_LINK p) && (if p = 0 then c.get ETH_CFG_IF0 else c.get ETH_CFG_IF1) != 0

/-- The address table with a source address learned or refreshed; none where a new address finds it full (R296, R297). -/
def learn (tbl : List SwEntry) (mac port now : Nat) : Option (List SwEntry) :=
  if tbl.any (fun e => e.mac == mac) then some (tbl.map (fun e => if e.mac = mac then { e with port := port, seen := now } else e))
  else if tbl.length < 1024 then some (tbl ++ [{ mac := mac, port := port, seen := now }])
  else none

/-- The chip with a source address learned; a full table raises F0D07. -/
def Chip.learnSource (c : Chip) (mac port : Nat) : Chip :=
  if mac / 2 ^ 40 % 2 = 1 then c
  else
    match learn c.eth.table mac port c.now with
    | some t => ({ c with eth := { c.eth with table := t } } : Chip).set ETH_SW_ENTRIES t.length
    | none => c.raise 0x0D07

/-- Where a frame from external port `p` goes: the other external port, and the host (Table 13-1). -/
def Chip.forwardTo (c : Chip) (p dst : Nat) : Bool × Bool :=
  let other := c.is ETH_CFG_SW_EN
  if dst = 2 ^ 48 - 1 then (other, true)
  else if 0x0180C2000000 ≤ dst ∧ dst ≤ 0x0180C200000F then (false, true)
  else if dst / 2 ^ 40 % 2 = 1 then (other, false)
  else if dst = c.fuses.mac then (false, true)
  else
    match c.eth.table.find? (fun e => e.mac == dst) with
    | some e => (other && e.port != p, false)
    | none => (other, false)

/-- The frames that the host counts and drops: IPv6, IPv4 options, other ports, and fragments (R299); `none` where it takes the frame. -/
def hostDrop (f : List Byte) : Option Bool :=
  let o := if beAt f 12 2 = 0x8100 then 16 else 12
  let et := beAt f o 2
  let ip := o + 2
  if et = 0x86DD then some false
  else if et = 0x0800 then
    if 5 < leAt f ip 1 % 16 then some false
    else if beAt f (ip + 6) 2 % 0x4000 ≠ 0 then some true
    else
      let proto := leAt f (ip + 9) 1
      let port := beAt f (ip + 22) 2
      if (proto = 17 ∧ port ≠ 44100) ∨ (proto = 6 ∧ port ≠ 4410) then some false else none
  else none

/-- A frame that reaches the host: counted and dropped, or delivered (R299). -/
def Chip.toHost (c : Chip) (f : List Byte) : Chip :=
  match hostDrop f with
  | some false => c.incSat ETH_DROP_OTHER
  | some true => c.incSat ETH_DROP_FRAG
  | none => c.emit (.eth 2 f)

/-- ETH_FRAME_RECEIVED (R294, R296, R297): a frame on an external port, without its FCS. -/
def Chip.ethFrame (c : Chip) (p : Nat) (fcsOk : Bool) (f : List Byte) : Chip :=
  if c.portUp p = false then c
  else
    let n := f.length + 4
    if fcsOk = false ∨ n < 64 ∨ 1522 < n then c.incSat (ETH_PORT_CNT1_DROP p)
    else
      let c := c.incWrap (ETH_PORT_CNT0_RX p)
      let dst := beAt f 0 6
      if beAt f 12 2 = 0x8808 then c
      else
        let c := c.learnSource (beAt f 6 6) p
        let (other, host) := c.forwardTo p dst
        let c := if other ∧ c.portUp (1 - p) then c.emit (.eth (1 - p) f) else c
        if host then c.toHost f else c

/-- ADDRESS_AGE_OUT (R296): an address without traffic for AGE_S leaves the table. -/
def Chip.ageOut (c : Chip) (mac : Nat) : Chip :=
  let t := c.eth.table.filter (fun e => !(e.mac == mac && decide (c.get ETH_SW_AGE_S * 1000000000 ≤ c.now - e.seen)))
  ({ c with eth := { c.eth with table := t } } : Chip).set ETH_SW_ENTRIES t.length

/-- Whether the host has an address that is its own: ETH_IP, or the doorway's while it is the active (R299, R318). -/
def Chip.ownIp (c : Chip) (ip : Nat) : Bool :=
  c.get ETH_IP_ADDR != 0 && (ip == c.get ETH_IP_ADDR || (ip == c.get VM_DOOR_IP_VALUE && ip != 0 && c.isActive))

/-- ARP_REQUEST (R299): the host answers for its address. -/
def Chip.arpRequest (c : Chip) (p mac ip : Nat) : Chip := if c.portUp p ∧ c.ownIp ip then c.emit (.arp p mac ip) else c

/-- ICMP_ECHO (R299). -/
def Chip.icmpEcho (c : Chip) (src dst : Nat) (data : List Byte) : Chip :=
  if (c.portUp 0 ∨ c.portUp 1) ∧ c.ownIp dst then c.emit (.icmp dst src data) else c

/-! ### Time references (R304 to R309); y, y_f in 0.01 ppb -/

/-- Y_MAX: 10 ppm (R301). -/
def yMax : Int := 1000000

/-- A frequency held to Y_MAX. -/
def clampY (y : Int) : Int := max (-yMax) (min yMax y)

/-- TB_VEH at an earlier tick of TB_LOCAL, at the present frequency (R304). -/
def Chip.vehAt (c : Chip) (tick : Nat) : Int :=
  (c.tbVeh : Int) - divNear (((c.now : Int) - tick) * (10 ^ 11 + c.getI TSYN_FREQ_Y)) (10 ^ 11)

/-- The straight-line fit through measurements (tick, reference time): count, origin, and the sums about the origin. -/
def fitLine (ms : List (Nat × Nat)) : Int × Int × Int × Int × Int × Int × Int :=
  match ms with
  | [] => (0, 0, 0, 0, 0, 0, 0)
  | (x0, y0) :: _ =>
    ms.foldl (fun (a : Int × Int × Int × Int × Int × Int × Int) m =>
      let x := (m.1 : Int) - x0
      let y := (m.2 : Int) - y0
      (a.1 + 1, a.2.1, a.2.2.1, a.2.2.2.1 + x, a.2.2.2.2.1 + y, a.2.2.2.2.2.1 + x * x, a.2.2.2.2.2.2 + x * y))
      (0, (x0 : Int), (y0 : Int), 0, 0, 0, 0)

/-- The residual of a measurement against the fit of the measurements before it, ns; 0 while fewer than two determine a line (R304). -/
def residual (ms : List (Nat × Nat)) (tick tref : Nat) : Int :=
  let (n, x0, y0, sx, sy, sxx, sxy) := fitLine ms
  let d := n * sxx - sx * sx
  if d = 0 then 0
  else
    let x := (tick : Int) - x0
    let a := n * sxy - sx * sy
    let b := sy * sxx - sx * sxy
    (tref : Int) - y0 - divNear (a * x + b) d

/-- The frequency of the reference against TB_LOCAL over its measurements, less 1, in 0.01 ppb (R302). -/
def refFreq (ms : List (Nat × Nat)) : Int :=
  let (n, _, _, sx, sy, sxx, sxy) := fitLine ms
  let d := n * sxx - sx * sx
  if d = 0 then 0 else divNear ((n * sxy - sx * sy - d) * 10 ^ 11) d

/-- B_REF of a source: 2 VEH_TIME, 3 802.1AS (Table 13-3). -/
def bRef (src : Nat) : Nat := if src = 3 then 100 else 250000

/-- DONE of a source (Table 13-3). -/
def doneOf (src : Nat) : Nat := if src = 3 then 100 else 100000

/-- The residual limit of a source (Table 13-3). -/
def resLimit (src : Nat) : Nat := if src = 3 then 1000 else 200000

/-- CLASS of a bound (Table 13-4). -/
def qualClass (b : Nat) : Nat :=
  if b ≤ 200 then 0 else if b ≤ 1000 then 1 else if b ≤ 10000 then 2 else if b ≤ 100000 then 3 else if b ≤ 1000000 then 4
  else if b ≤ 10000000 then 5 else if b ≤ 100000000 then 6 else if b ≤ 1000000000 then 7 else if b ≤ 10000000000 then 8 else 9

/-- A reference's measurements, by source. -/
def Chip.ref (c : Chip) (src : Nat) : RefSt := if src = 3 then c.tsyn.gptp else c.tsyn.can

/-- The chip with a reference's measurements changed. -/
def Chip.setRef (c : Chip) (src : Nat) (f : RefSt → RefSt) : Chip :=
  if src = 3 then { c with tsyn := { c.tsyn with gptp := f c.tsyn.gptp } } else { c with tsyn := { c.tsyn with can := f c.tsyn.can } }

/-- BOUND now, ns (R309). -/
def Chip.timeBound (c : Chip) : Nat :=
  match c.get TSYN_STAT_SRC with
  | 0 => 0
  | 1 => c.tsyn.hoBound + c.get TSYN_HOLD_HO_DRIFT * (c.now - c.tsyn.hoAt) / 1000000000
  | s => bRef s + (c.ref s).theta.natAbs

/-- The chip with BOUND, THETA, SAT and the quality byte shown (R309, R310). -/
def Chip.timeShow (c : Chip) : Chip :=
  if c.isStandby ∧ c.is PAIR_STAT_LINK then c
  else
  let s := c.get TSYN_STAT_SRC
  let b := c.timeBound
  let q := s + 4 * (if c.is TSYN_STAT_SLEWING then 1 else 0) + 16 * (if s = 0 then 15 else qualClass b)
  let c := (c.set TSYN_BOUND_BOUND (satNat 32 b)).set TSYN_STAT_QUAL q
  let c := if 2 ≤ s then c.setSatI TSYN_THETA_THETA (c.ref s).theta else c
  c.put TSYN_STAT_SAT (decide ((c.getI TSYN_FREQ_Y).natAbs = yMax.natAbs))

/-- The clock of a saturated servo, and F0D06 cleared when y leaves Y_MAX (R308). -/
def Chip.satClock (c : Chip) : Chip :=
  let sat := decide ((c.getI TSYN_FREQ_Y).natAbs = yMax.natAbs) && !c.is TSYN_STAT_SLEWING && decide (2 ≤ c.get TSYN_STAT_SRC)
  let c : Chip := { c with tsyn := { c.tsyn with satSince := if sat then some (c.tsyn.satSince.getD c.now) else none } }
  if sat then c else c.endCondition 0x0D06

/-- The chip with y set (R305, R306). -/
def Chip.setY (c : Chip) (y : Int) : Chip := c.setI TSYN_FREQ_Y (clampY y)

/-- The REFCHANGE record of a time reference (Table 16-10). -/
def Chip.timeRecord (c : Chip) (src via dst flags since : Nat) (theta : Int) : Chip :=
  c.record 7 [(20, leBytes 1 0), (21, leBytes 1 src), (22, leBytes 1 via), (23, leBytes 1 dst), (24, leBytes 1 flags),
    (28, leBytes 8 since), (36, leBytes 8 (unsignedOf 64 theta)), (44, leBytes 8 c.tbVeh)]

/-- A switch completed (R306, R307). -/
def Chip.switchDone (c : Chip) : Chip :=
  let t := c.tsyn
  let c := c.put TSYN_STAT_SLEWING false
  let c := c.timeRecord t.fromSrc t.via (c.get TSYN_STAT_SRC) (if t.aborted then 1 else 0) (c.now - t.changeAt) t.changeTh
  { c with tsyn := { c.tsyn with via := 0xFF, aborted := false } }

/-- The frequency during a switch (R306). -/
def Chip.slewY (c : Chip) (theta : Int) : Int :=
  let k : Int := c.get TSYN_SERVO_SLEW * 1000
  c.getI TSYN_FREQF_YF + (if theta = 0 then 0 else if 0 < theta then k else -k)

/-- The selection changes (R306, R307): to holdover at y_f, or a switch, which completes at once within DONE; F0D05 above PHASE_MAX. -/
def Chip.selectSrc (c : Chip) (src : Nat) : Chip :=
  let old := c.get TSYN_STAT_SRC
  if old = src then c
  else
    let slewing := c.is TSYN_STAT_SLEWING
    let bound := c.timeBound
    let th := (c.ref src).theta
    let t := c.tsyn
    let t := if slewing then { t with aborted := true, via := old }
      else if t.aborted then t else { t with fromSrc := old, changeAt := c.now, changeTh := th }
    let c := ({ c with tsyn := { t with lastMeas := none } } : Chip).set TSYN_STAT_SRC src
    if src = 1 then
      let c : Chip := { c with tsyn := { c.tsyn with hoAt := c.now, hoBound := bound } }
      (((c.put TSYN_STAT_SLEWING false).setY (c.getI TSYN_FREQF_YF)).satClock).timeShow
    else
      let c := c.put TSYN_STAT_SLEWING true
      let c := if c.get TSYN_HOLD_PHASE_MAX * 1000000 < th.natAbs then c.raise 0x0D05 else c
      let c := if th.natAbs ≤ doneOf src then c.switchDone else c.setY (c.slewY th)
      c.satClock.timeShow

/-- The epoch set from a reference (R302): TB_VEH and y_f once, logged, and every armed D7 slot re-checked. -/
def Chip.epochSet (c : Chip) (src : Nat) : Chip :=
  let ms := (c.ref src).meas
  match ms with
  | [] => c
  | (tick, tref) :: _ =>
    let f := clampY (refFreq ms)
    let v := (tref : Int) + divNear (((c.now : Int) - tick) * (10 ^ 11 + f)) (10 ^ 11)
    let th := v - c.tbVeh
    let c : Chip := { c with tbVeh := v.toNat, vehRest := 0 }
    let c := (((c.setI TSYN_FREQF_YF f).setY f).put TSYN_STAT_SET true).set TSYN_STAT_SRC src
    let c := (c.setRef src (fun r => { r with theta := 0 })).timeShow
    let c := c.timeRecord 0 0xFF src 2 0 th
    let c : Chip := { c with tsyn := { c.tsyn with via := 0xFF, aborted := false, lastMeas := some tick } }
    c.domRecheck 7

/-- The best qualified reference (R304, R305). -/
def Chip.bestSrc (c : Chip) : Nat := if c.is TSYN_STAT_Q_GPTP then 3 else if c.is TSYN_STAT_Q_CAN then 2 else 1

/-- Selection brought up to date: the epoch set at the first qualification, holdover while selection is suspended (R302, R305, R308). -/
def Chip.selectBest (c : Chip) : Chip :=
  let b := c.bestSrc
  if ¬ c.is TSYN_STAT_SET then (if b = 1 then c else c.epochSet b)
  else if c.tsyn.suspend.isSome ∧ b ≠ 3 then c.selectSrc 1
  else (if b = 3 then { c with tsyn := { c.tsyn with suspend := none } } else c : Chip).selectSrc b

/-- Whether a reference has met its conditions for 2 s (Table 13-3). -/
def Chip.refReady (c : Chip) (src : Nat) : Bool :=
  match (c.ref src).okSince with
  | some s => decide (2000000000 ≤ c.now - s)
  | none => false

/-- REFERENCE_QUALIFIED (R304): 802.1AS first, then VEH_TIME. -/
def Chip.qualify (c : Chip) : Chip :=
  let c := if c.refReady 3 then c.put TSYN_STAT_Q_GPTP true else c
  let c := if c.refReady 2 then c.put TSYN_STAT_Q_CAN true else c
  c.selectBest

/-- A reference is disqualified (Table 13-3): F0D03 or F0D04 where it was qualified, and the selection follows. -/
def Chip.disqualify (c : Chip) (src : Nat) : Chip :=
  let was := if src = 3 then c.is TSYN_STAT_Q_GPTP else c.is TSYN_STAT_Q_CAN
  let c := c.setRef src (fun r => { r with okSince := none, badRun := 0, meas := [] })
  if was then
    (if src = 3 then (c.put TSYN_STAT_Q_GPTP false).raise 0x0D03 else (c.put TSYN_STAT_Q_CAN false).raise 0x0D04).selectBest
  else c

/-- One servo step of the selected reference (R305 to R307). -/
def Chip.servo (c : Chip) (src tick : Nat) (theta : Int) : Chip :=
  let dt : Int := match c.tsyn.lastMeas with | some m => (tick : Int) - m | none => 0
  let c : Chip := { c with tsyn := { c.tsyn with lastMeas := some tick } }
  if c.is TSYN_STAT_SLEWING ∧ doneOf src < theta.natAbs then c.setY (c.slewY theta)
  else
    let c := if c.is TSYN_STAT_SLEWING then c.switchDone else c
    let tau : Int := if src = 3 then c.get TSYN_SERVO_TAU_GPTP else c.get TSYN_SERVO_TAU_CAN
    let f := clampY (c.getI TSYN_FREQF_YF + divNear (theta * 100 * dt) (1000000000 * tau * tau))
    (c.setI TSYN_FREQF_YF f).setY (f + divNear (theta * 100) tau)

/-- A measurement of a reference (R304): theta, the residual, qualification, and the servo where it is selected. `served` tells whether no
message was missed. -/
def Chip.measure (c : Chip) (src tick tref : Nat) (served able : Bool) : Chip :=
  if c.isStandby ∧ c.is PAIR_STAT_LINK then c
  else
  let r := c.ref src
  let win := r.meas.filter (fun m => decide (tick ≤ m.1 + 2000000000))
  let res := (residual win tick tref).natAbs
  let bad := decide (resLimit src < res)
  let theta := (tref : Int) - c.vehAt tick
  let run := if bad then min 3 (r.badRun + 1) else 0
  let ok := served && able && !bad
  let c := c.setRef src (fun x => { x with meas := (tick, tref) :: win, theta := theta, badRun := run,
                                            okSince := if ok then some (x.okSince.getD c.now) else none })
  if run = 3 then c.disqualify src
  else
    let c := c.qualify
    let c := if c.get TSYN_STAT_SRC = src ∧ c.is TSYN_STAT_SET then c.servo src tick theta else c
    c.satClock.timeShow

/-! ### 802.1AS (R303) -/

/-- The gPTP port in use (TSYN_CFG.GPTP_PORT). -/
def Chip.gptpPort (c : Chip) : Nat :=
  match c.get TSYN_CFG_GPTP_PORT with
  | 0 => 0
  | 1 => 1
  | _ => if c.is (ETH_PORT_STAT_LINK 0) then 0 else 1

/-- Whether gPTP runs on a port. -/
def Chip.gptpOn (c : Chip) (p : Nat) : Bool := c.is TSYN_CFG_GPTP_EN && c.gptpPort == p && c.portUp p

/-- Whether 802.1AS meets the conditions that do not lie in a measurement: asCapable and a grandmaster announced. -/
def Chip.gptpAble (c : Chip) : Bool := c.is TSYN_STAT_AS_CAPABLE && c.tsyn.gm.isSome

/-- SYNC_RECEIVED: the reference time is the origin time-stamp at the ingress corrected by the receive latency and the path delay (R303,
R304). -/
def Chip.syncReceived (c : Chip) (p domain ingress origin logInterval : Nat) : Chip :=
  if c.gptpOn p = false ∨ domain ≠ c.get TSYN_GPTP_DOMAIN then c
  else
    let tick := ingress - c.get TSYN_LAT_RX_LAT - c.get TSYN_PDELAY_PD
    let iv := 1000000000 / 2 ^ (5 - logInterval)
    let served := match c.tsyn.gptp.meas with | m :: _ => decide (tick < m.1 + 2 * iv) | [] => true
    let c := c.setRef 3 (fun r => { r with interval := iv })
    c.measure 3 tick origin served c.gptpAble

/-- ANNOUNCE_RECEIVED: the grandmaster; a change of its identity disqualifies (R303, Table 13-3). -/
def Chip.announce (c : Chip) (p domain gm interval : Nat) : Chip :=
  if c.gptpOn p = false ∨ domain ≠ c.get TSYN_GPTP_DOMAIN then c
  else
    let changed := match c.tsyn.gm with | some g => g.1 != gm | none => false
    let c := if changed then c.disqualify 3 else c
    ({ c with tsyn := { c.tsyn with gm := some (gm, c.now, interval) } } : Chip).set64 TSYN_GM_LO_ID TSYN_GM_HI_ID gm

/-- PDELAY_REQ_SEND: a Pdelay_Req; after nine in a row without a response asCapable falls (R303, IEEE 802.1AS-2020 allowedLostResponses). -/
def Chip.pdelayReq (c : Chip) : Chip :=
  let p := c.gptpPort
  if c.gptpOn p = false then c
  else
    let lost := if c.tsyn.reqAt.isSome then min 10 (c.tsyn.lost + 1) else c.tsyn.lost
    let c : Chip := { c with tsyn := { c.tsyn with reqAt := some (c.now + c.get TSYN_LAT_TX_LAT), lost := lost } }
    let c := if 9 < lost then (c.put TSYN_STAT_AS_CAPABLE false).disqualify 3 else c
    c.emit (.gptp p 1 [])

/-- PDELAY_REQ_RECEIVED: answered with the corrected receipt time-stamp (R303). -/
def Chip.pdelayAnswer (c : Chip) (p ingress : Nat) : Chip :=
  if c.gptpOn p then c.emit (.gptp p 2 (leBytes 8 (ingress - c.get TSYN_LAT_RX_LAT))) else c

/-- PDELAY_RESP_RECEIVED: the mean link delay with the neighbour's rate ratio over the last two responses, and asCapable (R303). -/
def Chip.pdelayResp (c : Chip) (p receipt origin ingress : Nat) : Chip :=
  match c.tsyn.reqAt with
  | none => c
  | some t1 =>
    if c.gptpOn p = false then c
    else
      let t4 := ingress - c.get TSYN_LAT_RX_LAT
      let turn : Int := (t4 : Int) - t1
      let scaled : Int := match c.tsyn.lastResp with
        | some (o, i) => if i < t4 then divNear (turn * ((origin : Int) - o)) ((t4 : Int) - i) else turn
        | none => turn
      let d := (scaled - ((origin : Int) - receipt)) / 2
      let c : Chip := { c with tsyn := { c.tsyn with reqAt := none, lost := 0, lastResp := some (origin, t4) } }
      let able := decide (d ≤ c.get TSYN_GPTP_PD_THRESH * 10)
      let c := (c.set TSYN_PDELAY_PD (satNat 32 d.toNat)).put TSYN_STAT_AS_CAPABLE able
      if able then c else c.disqualify 3

/-- Whether a Sync or Announce receipt has timed out: three intervals without one (Table 13-2). -/
def Chip.receiptLate (c : Chip) : Bool :=
  (match c.tsyn.gptp.meas with
    | m :: _ => decide (m.1 + 3 * c.tsyn.gptp.interval ≤ c.now)
    | [] => false) ||
  (match c.tsyn.gm with
    | some g => decide (g.2.1 + 3 * g.2.2 ≤ c.now)
    | none => false)

/-- RECEIPT_TIMEOUT (R304). -/
def Chip.receiptTimeout (c : Chip) : Chip := if c.receiptLate then c.disqualify 3 else c

/-! ### VEH_TIME, faults, pulse per second -/

/-- VEH_TIME_GAP: no message for more than three periods (Table 13-3). -/
def Chip.vehGap (c : Chip) : Chip :=
  match c.tsyn.can.meas with
  | m :: _ => if 3 * c.get VM_VT_PERIOD_VALUE * 1000000 < c.now - m.1 then c.disqualify 2 else c
  | [] => c

/-- CAN_CTRL has gone bus-off or its function is reset: VEH_TIME is disqualified (Table 13-3). -/
def Chip.canTimeLost (c : Chip) (k : Nat) : Chip :=
  if c.get TSYN_CFG_CAN_CTRL = k ∧ c.tsyn.can.meas ≠ [] then c.disqualify 2 else c

/-- SERVO_SATURATION (R308). -/
def Chip.servoSaturation (c : Chip) : Chip :=
  match c.tsyn.satSince with
  | some s => if 10000000000 ≤ c.now - s ∧ c.inForce 0x0D06 = false then c.raise 0x0D06 else c
  | none => c

/-- An ETHS reset begins: its stack knows no reference, and selection is suspended in holdover (R308). -/
def Chip.ethsTime (c : Chip) : Chip :=
  let c : Chip := { c with tsyn := { c.tsyn with gptp := {}, gm := none, reqAt := none, lost := 0, lastResp := none,
                                                 suspend := some c.now } }
  (((c.put TSYN_STAT_Q_GPTP false).put TSYN_STAT_AS_CAPABLE false)).selectBest

/-- ETHS_SELECTION_RESUME (R308): 5 s after the reset. -/
def Chip.ethsResume (c : Chip) : Chip :=
  match c.tsyn.suspend with
  | some s =>
    if 5000000000 ≤ c.now - s ∧ ¬ c.bit SYS_FRST_STAT_BUSY 8 then
      ({ c with tsyn := { c.tsyn with suspend := none } } : Chip).selectBest
    else c
  | none => c

/-- The level of TSYN_PPS for TB_VEH as it stands (R311). -/
def Chip.ppsLevel (c : Chip) : Chip :=
  let low := c.is TSYN_CFG_PPS_EN && c.is TSYN_STAT_SET && decide (c.tbVeh % 1000000000 < 100000000)
  { c with pins := { c.pins with pps := !low } }

/-- LINK_STATUS_CHANGE (R295): F0D01 for the port, F0D02 with both down; the gPTP port down disqualifies 802.1AS. -/
def Chip.linkStatus (c : Chip) (p : Nat) (up : Bool) (speed : Nat) : Chip :=
  if up then (((c.put (ETH_PORT_STAT_LINK p) true).set (ETH_PORT_STAT_SPEED p) speed)).endCondition 0x0D02
  else if ¬ c.is (ETH_PORT_STAT_LINK p) then c
  else
    let mine := c.gptpPort == p
    let c := (c.put (ETH_PORT_STAT_LINK p) false).raiseArg 0x0D01 0 p
    let c := if ¬ c.is (ETH_PORT_STAT_LINK (1 - p)) then c.raise 0x0D02 else c
    if mine then c.disqualify 3 else c

/-! ### The commands -/

/-- ETH_FRAME_RECEIVED (R296). -/
def execEthFrameReceived (t : Nat) (p : Fin 2) (fcsOk : Bool) (f : List Byte) (s : State) : Host.Outcome State Fault Refusal :=
  run .app t (fun c => c.ethFrame p fcsOk f) s

/-- LINK_STATUS_CHANGE (R295). -/
def execLinkStatusChange (t : Nat) (p : Fin 2) (up : Bool) (speed : Fin 3) (s : State) : Host.Outcome State Fault Refusal :=
  run .app t (fun c => c.linkStatus p up speed) s

/-- ADDRESS_AGE_OUT (R296). -/
def execAddressAgeOut (t mac : Nat) (s : State) : Host.Outcome State Fault Refusal := run .app t (fun c => c.ageOut mac) s

/-- ARP_REQUEST (R299). -/
def execArpRequest (t : Nat) (p : Fin 2) (mac ip : Nat) (s : State) : Host.Outcome State Fault Refusal := run .app t (fun c => c.arpRequest p mac ip) s

/-- ICMP_ECHO (R299). -/
def execIcmpEcho (t src dst : Nat) (data : List Byte) (s : State) : Host.Outcome State Fault Refusal := run .app t (fun c => c.icmpEcho src dst data) s

/-- SYNC_RECEIVED (R304). -/
def execSyncReceived (t : Nat) (p : Fin 2) (domain ingress origin : Nat) (li : Fin 6) (s : State) : Host.Outcome State Fault Refusal :=
  run .app t (fun c => c.syncReceived p domain ingress origin li) s

/-- ANNOUNCE_RECEIVED (R303). -/
def execAnnounceReceived (t : Nat) (p : Fin 2) (domain gm interval : Nat) (s : State) : Host.Outcome State Fault Refusal :=
  run .app t (fun c => c.announce p domain gm interval) s

/-- PDELAY_REQ_SEND (R303). -/
def execPdelayReqSend (t : Nat) (s : State) : Host.Outcome State Fault Refusal := run .app t (fun c => c.pdelayReq) s

/-- PDELAY_REQ_RECEIVED (R303). -/
def execPdelayReqReceived (t : Nat) (p : Fin 2) (ingress : Nat) (s : State) : Host.Outcome State Fault Refusal :=
  run .app t (fun c => c.pdelayAnswer p ingress) s

/-- PDELAY_RESP_RECEIVED (R303). -/
def execPdelayRespReceived (t : Nat) (p : Fin 2) (receipt origin ingress : Nat) (s : State) : Host.Outcome State Fault Refusal :=
  run .app t (fun c => c.pdelayResp p receipt origin ingress) s

/-- RECEIPT_TIMEOUT (R304). -/
def execReceiptTimeout (t : Nat) (s : State) : Host.Outcome State Fault Refusal := run .app t (fun c => c.receiptTimeout) s

/-- REFERENCE_QUALIFIED (R304). -/
def execReferenceQualified (t : Nat) (s : State) : Host.Outcome State Fault Refusal := run .app t (fun c => c.qualify) s

/-- VEH_TIME_GAP (R304). -/
def execVehTimeGap (t : Nat) (s : State) : Host.Outcome State Fault Refusal := run .app t (fun c => c.vehGap) s

/-- SERVO_SATURATION (R308). -/
def execServoSaturation (t : Nat) (s : State) : Host.Outcome State Fault Refusal := run .app t (fun c => c.servoSaturation) s

/-- ETHS_SELECTION_RESUME (R308). -/
def execEthsSelectionResume (t : Nat) (s : State) : Host.Outcome State Fault Refusal := run .app t (fun c => c.ethsResume) s

/-- PPS_START (R311). -/
def execPpsStart (t : Nat) (s : State) : Host.Outcome State Fault Refusal := run .app t (fun c => c.ppsLevel) s

/-- PPS_END (R311). -/
def execPpsEnd (t : Nat) (s : State) : Host.Outcome State Fault Refusal := run .app t (fun c => c.ppsLevel) s

/-- CAN_BUS_ERROR (R288): a bus error; a controller that goes bus-off takes VEH_TIME with it where it carries it. -/
def Chip.busError (c : Chip) (k : Nat) (e : CanErr) : Chip :=
  let was := c.is (CAN_STAT_BO k)
  let c := c.canError k e
  if c.is (CAN_STAT_BO k) ∧ was = false then c.canTimeLost k else c

/-- CAN_BUS_ERROR (R288). -/
def execCanBusError (t : Nat) (k : Fin 3) (e : CanErr) (s : State) : Host.Outcome State Fault Refusal := run .app t (fun c => c.busError k e) s

end Sys2Proof.Machine
end

