-- ==== Sys2Proof/Machine/Ledger.lean ====
section
/-! DEFINITION. The Lorosh ledger: the bytes of a record, the choice of its slot, thinning and loss, the export state and its state
cells, and the index of the ring rebuilt from MRAM (spec/16 R378 to R385). -/

namespace Sys2Proof.Machine

/-! ### Records and their places -/

/-- The address of a ledger slot (R378). -/
def ringAddr (slot : Nat) : Nat := 0x10080000 + 64 * (slot % 32768)

/-- The 60 bytes with the CRC-32 over them (R378). -/
def sealed (b : List Byte) : List Byte := b ++ leBytes 4 (crc32 b)

/-- Whether the last four of the bytes are the CRC-32 of the others. -/
def crcHolds (b : List Byte) : Bool := leValue (b.drop (b.length - 4)) == crc32 (b.take (b.length - 4))

/-- The 64 bytes of a record (Tables 16-8, 16-10). -/
def recBytes (r : LRec) : List Byte :=
  sealed (leBytes 1 r.type ++ leBytes 1 r.flags ++ leBytes 6 r.seq ++ leBytes 8 r.tb ++ leBytes 1 r.qual ++ leBytes 1 1 ++
    leBytes 2 r.boot ++ sliceBytes r.body 0 40)

/-- Whether a record type is of detail class (Table 16-9). -/
def isDetail (type : Nat) : Bool := type == 2 || type == 3

/-- Whether a record is exported: at or below the acknowledged sequence (16.7). -/
def Chip.exported (c : Chip) (seq : Nat) : Bool := match c.ledg.expSeq with | some e => decide (seq ≤ e) | none => false

/-- The ring's index with one slot's record in it, in the order of SEQ. -/
def ringInsert (x : RingSlot) : List RingSlot → List RingSlot
  | [] => [x]
  | y :: ys => if y.seq ≤ x.seq then y :: ringInsert x ys else x :: y :: ys

/-- The first free slot from `n` on, cyclically, among `k` (R382; which free slot is taken, log 50). -/
def ringFree (ring : List RingSlot) : Nat → Nat → Option Nat
  | 0, _ => none
  | k + 1, n => if ring.any (fun r => r.slot == n % 32768) then ringFree ring k (n + 1) else some (n % 32768)

/-- The fields of a list's last record, or those of slot 32,767 before SEQ 0. -/
def ringNewest (ring : List RingSlot) : RingSlot := ring.getLast?.getD { slot := 32767, seq := 0, type := 0, tb := 0 }

/-- The chip with the ledger's registers shown (16.10). -/
def Chip.ledgShow (c : Chip) : Chip :=
  let r := c.ledg.ring
  let un := r.filter (fun x => !c.exported x.seq)
  let last := (ringNewest r).seq
  let near : Option Nat → Bool := fun o => match o with | some q => decide (last < q + 32768) | none => false
  let c := ((c.set64 LEDG_EXP_LO_SEQ LEDG_EXP_HI_SEQ (c.ledg.expSeq.getD 0)).set64 LEDG_OLD_LO_SEQ LEDG_OLD_HI_SEQ
    (match r with | x :: _ => x.seq | [] => 0)).set LEDG_FILL_UNEXP un.length
  ((((c.set LEDG_FILL_DETAIL (un.filter (fun x => isDetail x.type)).length).put LEDG_STAT_GAP_OPEN c.ledg.gap.isSome).put
    LEDG_STAT_THINNING (near c.ledg.thinnedAt)).put LEDG_STAT_LOSING (near c.ledg.lostAt)).set LEDG_LOST_N c.ledg.lost

/-- The bytes of the GAP record in a slot: the header of the first thinned record, then LAST and the two counts (R383). -/
def Chip.gapBytes (c : Chip) (slot last n2 n3 : Nat) : List Byte :=
  sealed (leBytes 1 9 ++ c.rdBytes (ringAddr slot + 1) 19 ++ recBody [(20, leBytes 6 last), (28, leBytes 4 n2), (32, leBytes 4 n3)])

/-- The chip with the open GAP written to its slot; a GAP whose count is full closes (R383). -/
def Chip.putGap (c : Chip) (slot seq last n2 n3 tb : Nat) : Chip :=
  let c := c.mram (ringAddr slot) (c.gapBytes slot last n2 n3)
  { c with ledg := { c.ledg with gap := if n2 = 2 ^ 32 - 1 ∨ n3 = 2 ^ 32 - 1 then none else some (slot, seq, last, n2, n3, tb),
                                 cellDirty := true } }

/-- One detail record thinned: it opens a GAP in place, or raises a count of the open one and LAST (R383). -/
def Chip.thin (c : Chip) (r : RingSlot) (at_ : Nat) : Chip :=
  let k2 := if r.type = 2 then 1 else 0
  let c : Chip := (({ c with ledg := { c.ledg with thinnedAt := some at_ } } : Chip).incSat LEDG_THIN_N)
  match c.ledg.gap with
  | some (slot, seq, _, n2, n3, tb) => c.putGap slot seq r.seq (n2 + k2) (n3 + (1 - k2)) tb
  | none =>
    let c := c.putGap r.slot r.seq r.seq k2 (1 - k2) r.tb
    ({ c with ledg := { c.ledg with ring := c.ledg.ring.map (fun x => if x.slot = r.slot then { x with type := 9 } else x) } } : Chip).raise
      0x0E05

/-- One unexported summary record lost (R382). -/
def Chip.loseSummary (c : Chip) (r : RingSlot) (at_ : Nat) : Chip :=
  let open_ := match c.ledg.gap with | some g => g.1 == r.slot | none => false
  ({ c with ledg := { c.ledg with lost := satNat 32 (c.ledg.lost + 1), lostAt := some at_, cellDirty := true,
                                  gap := if open_ then none else c.ledg.gap } } : Chip).raise 0x0E06

/-- The slot a record takes (R382, R383): a free one, the oldest exported record's, the oldest unexported detail record's after thinning,
the oldest unexported summary's. A detail record that opens a GAP keeps its slot, so the choice is made once more. -/
def Chip.takeSlot (c : Chip) (at_ : Nat) : Nat → Chip × Nat
  | 0 => (c, 0)
  | fuel + 1 =>
    let ring := c.ledg.ring
    match (if ring.length < 32768 then ringFree ring 32768 ((ringNewest ring).slot + 1) else none) with
    | some s => (c, s)
    | none =>
      match ring with
      | [] => (c, 0)
      | old :: _ =>
        if c.exported old.seq then
          ({ c with ledg := { c.ledg with gap := match c.ledg.gap with | some g => if g.1 = old.slot then none else some g | none => none } },
            old.slot)
        else
          match ring.find? (fun x => isDetail x.type) with
          | some d =>
            if c.ledg.gap.isSome then (c.thin d at_, d.slot) else (c.thin d at_).takeSlot at_ fuel
          | none => (c.loseSummary old at_, old.slot)

/-- The chip with one record stored in its slot and the index following (R382). -/
def Chip.storeRecord (c : Chip) (r : LRec) : Chip :=
  let p := c.takeSlot r.seq 3
  let c := p.1.mram (ringAddr p.2) (recBytes r)
  let c : Chip := { c with ledg := { c.ledg with
    ring := ringInsert { slot := p.2, seq := r.seq, type := r.type, tb := r.tb } (c.ledg.ring.filter (fun x => x.slot != p.2)) } }
  c.ledgShow

/-- LEDGER_RECORD_STORE: the writer stores the next record of its queue; a gated store leaves the queue as it is (Table 03-4). -/
def Chip.ledgerStore (c : Chip) : Chip :=
  match c.ledg.queue with
  | [] => c
  | r :: rest =>
    if c.gateOpen .ledger then ({ c with ledg := { c.ledg with queue := rest } } : Chip).storeRecord r
    else c.put SUP_STATUS_STORE_GATED true

/-! ### Export acknowledgement and the state cells (R331, R385) -/

/-- The chip with every sequence up to `seq` acknowledged. -/
def Chip.ledgerAck (c : Chip) (seq : Nat) : Chip :=
  if c.exported seq then c
  else ({ c with ledg := { c.ledg with expSeq := some seq, cellDirty := true } } : Chip).ledgShow

/-- The bytes of a state cell (R385; the places of the fields, log 51): write count, EXP_SEQ, the GAP's slot, LEDG_LOST, whether EXP_SEQ
is set. -/
def Chip.cellBytes (c : Chip) (count : Nat) : List Byte :=
  let g := match c.ledg.gap with | some g => g.1 | none => 0xFFFF
  sealed (leBytes 4 count ++ leBytes 6 (c.ledg.expSeq.getD 0) ++ leBytes 2 g ++ leBytes 4 c.ledg.lost ++
    leBytes 1 (cond c.ledg.expSeq.isSome 1 0) ++ List.replicate 43 0)

/-- The chip with the other state cell written. -/
def Chip.writeCell (c : Chip) : Chip :=
  let n := c.ledg.cellCount + 1
  let c := c.mramOwn (0x102E0800 + 0x40 * (n % 2)) (c.cellBytes n)
  { c with ledg := { c.ledg with cellCount := n, cellAt := some c.now, cellDirty := false } }

/-- STATE_CELL_WRITE: while a value has changed, at most every 100 ms, under the gate. -/
def Chip.cellDue (c : Chip) : Chip :=
  let late : Bool := match c.ledg.cellAt with | some a => decide (100000000 ≤ c.now - a) | none => true
  if c.ledg.cellDirty ∧ late then
    if c.gateOpen .stateCell then c.writeCell else c.put SUP_STATUS_STORE_GATED true
  else c

/-! ### The index rebuilt from MRAM (R382, Table 16-12 F0E04) -/

/-- The numbers of the cells of `size` bytes from `base` on, among `n`, that hold a listed byte, each once, rising. -/
def cellsIn (base size n : Nat) : List Host.Cell → List Nat
  | [] => []
  | (a, _) :: m =>
    let rest := cellsIn base size n m
    if base ≤ a ∧ a < base + size * n then
      let k := (a - base) / size
      if rest.head? = some k then rest else k :: rest
    else rest

/-- The index entry of the record in a slot, where a record is. -/
def Chip.ringAt (c : Chip) (slot : Nat) : Option RingSlot :=
  let b := c.rdBytes (ringAddr slot) 64
  if 1 ≤ leAt b 0 1 ∧ leAt b 0 1 ≤ 10 ∧ crcHolds b then some { slot := slot, seq := leAt b 2 6, type := leAt b 0 1, tb := leAt b 8 8 }
  else none

/-- The chip with the index following a ledger slot that another chip's frame or a scan has brought; on a standby the latest GAP stored is
the open one (log 52). -/
def Chip.ringNote (c : Chip) (slot : Nat) : Chip :=
  let ring := c.ledg.ring.filter (fun x => x.slot != slot)
  match c.ringAt slot with
  | none => { c with ledg := { c.ledg with ring := ring } }
  | some x =>
    let b := c.rdBytes (ringAddr slot) 64
    let g := if x.type = 9 then some (slot, x.seq, leAt b 20 6, leAt b 28 4, leAt b 32 4, x.tb) else c.ledg.gap
    { c with ledg := { c.ledg with ring := ringInsert x ring, gap := g, nextSeq := max c.ledg.nextSeq ((x.seq + 1) % 2 ^ 48) } }

/-- The ledger's part of a start: the index from the slots, F0E04 and a count for each record with a bad CRC, the state cell with the
higher write count, no GAP open (R382, R383, R385). -/
def Chip.ledgerScan (c : Chip) : Chip :=
  let slots := cellsIn 0x10080000 64 32768 c.mem
  let c := slots.foldl (fun c s => c.ringNote s) { c with ledg := { ring := [] } }
  let bad := slots.filter (fun s => leAt (c.rdBytes (ringAddr s) 1) 0 1 != 0 && (c.ringAt s).isNone)
  let c := bad.foldl (fun c _ => ({ c with ledg := { c.ledg with lost := satNat 32 (c.ledg.lost + 1) } } : Chip).raise 0x0E04) c
  let cell : Nat → List Byte := fun k => c.rdBytes (0x102E0800 + 0x40 * k) 64
  let ok : Nat → Bool := fun k => crcHolds (cell k) && decide (0 < leAt (cell k) 0 4)
  let use : Option Nat :=
    if ok 0 ∧ ok 1 then some (if leAt (cell 0) 0 4 ≤ leAt (cell 1) 0 4 then 1 else 0)
    else if ok 0 then some 0 else if ok 1 then some 1 else none
  let c := match use with
    | none => c
    | some k =>
      let b := cell k
      { c with ledg := { c.ledg with cellCount := leAt b 0 4, lost := satNat 32 (c.ledg.lost + leAt b 12 4),
                                     expSeq := if leAt b 16 1 = 1 then some (leAt b 4 6) else none } }
  let c : Chip := { c with ledg := { c.ledg with gap := none } }
  (c.set64 LEDG_SEQ_LO_SEQ LEDG_SEQ_HI_SEQ c.ledg.nextSeq).ledgShow

/-- LEDGER_RECORD_STORE (R382). -/
def execLedgerRecordStore (t : Nat) (s : State) : Host.Outcome State Fault Refusal := run .app t (fun c => c.ledgerStore) s

/-- STATE_CELL_WRITE (R385). -/
def execStateCellWrite (t : Nat) (s : State) : Host.Outcome State Fault Refusal := run .app t (fun c => c.cellDue) s

end Sys2Proof.Machine
end

