-- ==== Sys2Proof/Machine/Supply.lean ====
section
/-! DEFINITION. The supply supervisor: the VSENSE sample and the hold-up energy, the supply warning, and the measurement of the store's
capacitance (spec/03 R50 to R60). -/

namespace Sys2Proof.Machine

/-- The bus voltage of a VSENSE sample in mV, in units of 10 uV (R51). -/
def Chip.busOf (c : Chip) (mv : Nat) : Nat := mv * c.get SUP_HOLDUP_CFG0_DIV

/-- The capacitance in use, 10 uF (R55). -/
def Chip.capInUse (c : Chip) : Nat := if c.sup.capLow then c.get SUP_CAPCHK_C_MEAS else c.get SUP_HOLDUP_CFG0_C_HOLD

/-- E_avail at the latest sample, uJ, rounded down (R51; log 61). -/
def Chip.energy (c : Chip) : Nat :=
  let b := c.busOf (c.get SUP_STATUS_VSENSE_MV)
  let m := c.get SUP_HOLDUP_CFG1_V_MIN * 1000
  if b ≤ m then 0 else c.get SUP_HOLDUP_CFG1_EFF * c.capInUse * (b * b - m * m) / 200000000000

/-- The chip with E_avail shown. -/
def Chip.energyShow (c : Chip) : Chip := c.set SUP_HOLDUP_E_E_AVAIL_UJ (satNat 24 c.energy)

/-- The chip with the filters of the warning following the latest sample against THRESH (R56). -/
def Chip.warnFilters (c : Chip) : Chip :=
  let v := c.get SUP_STATUS_VSENSE_MV
  let th := c.get SUP_VSENSE_CFG_THRESH_MV
  { c with sup := { c.sup with
    belowSince := if v < th then some (c.sup.belowSince.getD c.now) else none
    aboveSince := if th + 20 < v then some (c.sup.aboveSince.getD c.now) else none } }

/-- HOLDUP_ENERGY_UPDATE: a VSENSE sample of 0 to 1,250 mV, the energy, and the least of a dip (R50, R51, R55, R58). -/
def Chip.vsense (c : Chip) (mv : Nat) : Chip :=
  let v := min mv 1250
  let c := ((c.set SUP_STATUS_VSENSE_MV v).energyShow).warnFilters
  if c.is SUP_STATUS_WARN then
    let e := c.get SUP_HOLDUP_E_E_AVAIL_UJ
    let lower := decide (v < c.sup.dipMin)
    { c with sup := { c.sup with dipMin := if lower then v else c.sup.dipMin
                                 dipMinAt := if lower then c.now else c.sup.dipMinAt
                                 dipMinE := min e c.sup.dipMinE } }
  else c

/-- SUPPLY_WARNING_ASSERT: 20 us below THRESH without a break (R56). -/
def Chip.warnAssert (c : Chip) : Chip :=
  match c.sup.belowSince with
  | some a =>
    if ¬ c.is SUP_STATUS_WARN ∧ 20000 ≤ c.now - a then
      let v := c.get SUP_STATUS_VSENSE_MV
      ({ c with sup := { c.sup with warnSince := c.now, dipStart := v, dipMin := v, dipMinAt := c.now,
                                    dipMinE := c.get SUP_HOLDUP_E_E_AVAIL_UJ } } : Chip).put SUP_STATUS_WARN true
    else c
  | none => c

/-- The capacitance measured over the fall of a dip, 10 uF; 0 where the bus fell by less than 2.0 V (R55). -/
def Chip.capMeasured (c : Chip) : Nat :=
  let b1 := c.busOf c.sup.dipStart
  let b2 := c.busOf c.sup.dipMin
  let d := c.get SUP_HOLDUP_CFG1_EFF * (b1 * b1 - b2 * b2)
  if b1 < b2 + 200000 ∨ d = 0 then 0
  else satNat 16 (20000000 * c.get SUP_HOLDUP_CFG1_P_LOAD * (c.sup.dipMinAt - c.sup.warnSince) / d)

/-- CAPACITANCE_MEASURE: the lowest measured value is shown, and below 80 % of C_HOLD it is used and F0104 raised (R55). -/
def Chip.capMeasure (c : Chip) (m : Nat) : Chip :=
  if m = 0 then c
  else
    let old := c.get SUP_CAPCHK_C_MEAS
    let c := c.set SUP_CAPCHK_C_MEAS (if old = 0 then m else min old m)
    if m * 100 < 80 * c.get SUP_HOLDUP_CFG0_C_HOLD then
      ((({ c with sup := { c.sup with capLow := true } } : Chip).put SUP_CAPCHK_LOW true).energyShow).raise 0x0104
    else c.energyShow

/-- The end of a dip when the warning clears: counts, the measurement, the DIP record and the end of SUPPLY_HOLD (R55, R58, R59). -/
def Chip.dipEnd (c : Chip) : Chip :=
  let hold := c.is SUP_STATUS_HOLD
  let dur := c.now - c.sup.warnSince
  let m := c.capMeasured
  let c := ((c.put SUP_STATUS_WARN false).put SUP_STATUS_HOLD false).incSat SUP_DIP_COUNT_COUNT
  let c := ((c.set SUP_DIP_LAST_MIN_MV c.sup.dipMin).put SUP_DIP_LAST_HOLD hold).set SUP_DIP_LAST_DUR_MS (satNat 16 (dur / 1000000))
  let c := c.capMeasure m
  if c.sys.held.isSome then c
  else
    let c := c.record 5 [(20, leBytes 4 (satNat 32 (dur / 1000))), (24, leBytes 2 c.sup.dipMin), (26, leBytes 1 (cond hold 1 0)),
      (28, leBytes 4 (c.get SUP_DIP_COUNT_COUNT)), (32, leBytes 4 c.sup.dipMinE), (36, leBytes 2 m)]
    if hold then c.dropFault 0x0102 else c

/-- Whether the warning may clear: 5 ms above THRESH + 20 mV without a break (R56). -/
def Chip.warnOver (c : Chip) : Bool :=
  c.is SUP_STATUS_WARN && (match c.sup.aboveSince with | some a => decide (5000000 ≤ c.now - a) | none => false)

/-- THRESH_WRITE: out of range it is ignored and sets CFG_ERR; CFG_ERR clears by a 1 (R56, 03.8). -/
def Chip.threshWrite (c : Chip) (v : Nat) : Chip :=
  let th := bitsOf v 0 11
  let c := if bitAt v 16 then c.put SUP_VSENSE_CFG_CFG_ERR false else c
  if 300 ≤ th ∧ th ≤ 1100 then (c.set SUP_VSENSE_CFG_THRESH_MV th).warnFilters else c.put SUP_VSENSE_CFG_CFG_ERR true

/-- HOLDUP_ENERGY_UPDATE (R51). -/
def execHoldupEnergyUpdate (t mv : Nat) (s : State) : Host.Outcome State Fault Refusal := run .aon t (fun c => c.vsense mv) s

/-- SUPPLY_WARNING_ASSERT (R56). -/
def execSupplyWarningAssert (t : Nat) (s : State) : Host.Outcome State Fault Refusal := run .aon t (fun c => c.warnAssert) s

/-- THRESH_WRITE (R56). -/
def execThreshWrite (t : Nat) (v : Word) (s : State) : Host.Outcome State Fault Refusal := run .aon t (fun c => c.threshWrite v.toNat) s

end Sys2Proof.Machine
end

