-- ==== Sys2Proof/Machine/ConfigLayers.lean ====
section
/-! DEFINITION. The configuration executor: what a change of configuration registers does, apply and install, save, the load at start-up,
and the arming of slots and starting of tenants that it runs (spec/19 R434 to R442, spec/18 R422, R426). -/

namespace Sys2Proof.Machine

/-! ### What a change of configuration registers does; `c0` is the chip before it -/

/-- Whether a field differs between two chips. -/
def differs (a b : Chip) (f : Fld) : Bool := a.get f != b.get f

/-- An axis that may have lost its steps (R136, Table 19-4). -/
def Chip.stepLoss (c : Chip) (n : Nat) : Chip := if n < 4 then c.put (MOT_AX_STAT_STEPLOSS_POSSIBLE n) true else c

/-- A feedback channel: its gains, its enabling, and with a new PITCH or MODE the start of its count anew. -/
def Chip.fbkChanged (c0 c : Chip) (n : Nat) : Chip :=
  let again := differs c0 c (FBK_CH_PITCH_PITCH_NM n) || differs c0 c (FBK_CH_CFG_MODE n)
  let c := if differs c0 c (FBK_CH_SPD_BW_HZ n) then c.fbkGains n else c
  let c := if again then c.stepLoss n else c
  if c.is (FBK_CH_CFG_ENABLE n) ∧ (again ∨ ¬ c0.is (FBK_CH_CFG_ENABLE n)) then
    let c := c.fbkEnable n
    if n < 4 then c.domUpdate false n else c
  else if c0.is (FBK_CH_CFG_ENABLE n) ∧ ¬ c.is (FBK_CH_CFG_ENABLE n) then c.posLost n else c

/-- The release of a latched axis: F0801 or F0802 ends where it latched no other axis off (R159, Table 21-5). -/
def Chip.latchOver (c : Chip) (n : Nat) : Chip :=
  let c := (c.setCu n (fun x => { x with unlatchable := false, latch := 0 })).put (CUR_AX_STAT_LATCHED_OFF n) false
  let free := fun k => [0, 1, 2, 3].all (fun m => !bitAt (c.cu m).latch k)
  let c := if free 0 then c.endCondition 0x0801 else c
  if free 1 then c.endCondition 0x0802 else c

/-- An axis of MOT and CUR: ELEC_OFF at the rise of ENABLE, steps after a new scale, and the release of a latched bridge (06.9, R159). -/
def Chip.axisChanged (c0 c : Chip) (n : Nat) : Chip :=
  let again := differs c0 c (MOT_AX_CFG_USTEPS n) || differs c0 c (MOT_AX_LEAD_LEAD_NM n)
  let c := if again then c.stepLoss n else c
  let c := if c.is (MOT_AX_CFG_ENABLE n) ∧ (again ∨ ¬ c0.is (MOT_AX_CFG_ENABLE n)) then
      c.setI (MOT_AX_ELEC_ELEC_OFF n) ((c.get (MOT_AX_ELEC_ELEC n) : Int) - c.xpos n)
    else c
  if c0.is (CUR_AX_CFG_ENABLE n) ∧ ¬ c.is (CUR_AX_CFG_ENABLE n) then c.setCu n (fun x => { x with unlatchable := true })
  else if ¬ c0.is (CUR_AX_CFG_ENABLE n) ∧ c.is (CUR_AX_CFG_ENABLE n) ∧ (c.cu n).unlatchable ∧ ¬ c.is (MOT_AX_STAT_BUSY n) then
    c.latchOver n
  else c

/-- A camera receiver started, stopped or set up anew (R222, R224). -/
def Chip.camChanged (c0 c : Chip) (k : Nat) : Chip :=
  let again := differs c0 c ⟨NOS_CAM_CFG_REG k, 0, 32⟩ || differs c0 c ⟨NOS_CAM_GEOM_REG k, 0, 32⟩ || differs c0 c ⟨NOS_CAM_RING_REG k, 0, 32⟩
  if again then
    let c := if c0.is (NOS_CAM_CFG_EN k) then c.camStop k else c
    if c.is (NOS_CAM_CFG_EN k) then c.camStart k else c
  else c

/-- A tenant enabled or disabled (R240, 10.4). -/
def Chip.tenantChanged (c0 c : Chip) (n : Nat) : Chip :=
  let was := c0.bit NOS_CTRL_TEN_EN n
  let on := c.bit NOS_CTRL_TEN_EN n
  if on ∧ was = false ∧ c.is NOS_CTRL_ENABLE then (c.loadTenant n).tenantStart n
  else if was ∧ on = false then c.tenantStop n else c

/-- NOS switched on or off, then its tenants. -/
def Chip.nosChanged (c0 c : Chip) : Chip :=
  let c := [0, 1].foldl (fun c k => Chip.camChanged c0 c k) c
  if c.is NOS_CTRL_ENABLE ∧ ¬ c0.is NOS_CTRL_ENABLE then (c.put NOS_CTRL_ENABLE false).nosEnable
  else if c0.is NOS_CTRL_ENABLE ∧ ¬ c.is NOS_CTRL_ENABLE then c.nosStop
  else [0, 1, 2, 3].foldl (fun c n => Chip.tenantChanged c0 c n) c

/-- The time references and the PPS output (13.4, R311). -/
def Chip.timeChanged (c0 c : Chip) : Chip :=
  let c := if differs c0 c TSYN_CFG_GPTP_EN ∨ differs c0 c TSYN_CFG_GPTP_PORT ∨ differs c0 c TSYN_GPTP_DOMAIN then c.disqualify 3 else c
  let c := if differs c0 c TSYN_CFG_CAN_EN ∨ differs c0 c TSYN_CFG_CAN_CTRL then c.disqualify 2 else c
  if c0.is TSYN_CFG_PPS_EN ∧ ¬ c.is TSYN_CFG_PPS_EN then { c with pins := { c.pins with pps := true } } else c

/-- The pins that follow a register: CANn_STB low while EN is 1 (R275), the use of the O pairs (Table 04-3). -/
def Chip.pinsFollow (c : Chip) : Chip :=
  { c with pins := { c.pins with
      canStb := [0, 1, 2].foldl (fun m k => setBit m k (!c.is (CAN_CTRL_EN k))) 0
      oPair := (List.range 6).map (fun n => if c.get (FBK_CH_CFG_MODE n) = 2 then 3 else c.get (FBK_CH_CFG_PT_MODE n)) } }

/-- Everything that follows from new words in the configuration registers. -/
def Chip.regsChanged (c0 c : Chip) : Chip :=
  let c := [0, 1, 2, 3, 4, 5].foldl (fun c n => Chip.fbkChanged c0 c n) c
  let c := [0, 1, 2, 3].foldl (fun c n => Chip.axisChanged c0 c n) c
  let c := Chip.timeChanged c0 (Chip.nosChanged c0 c)
  let c := ([0, 1, 2, 3].foldl (fun c n => c.showPhases n) c).bridgesFollow.pinsFollow
  let c := if differs c0 c ⟨SUP_HOLDUP_CFG0_REG, 0, 32⟩ ∨ differs c0 c ⟨SUP_HOLDUP_CFG1_REG, 0, 32⟩ then c.energyShow else c
  if differs c0 c SUP_VSENSE_CFG_THRESH_MV then c.warnFilters else c

/-! ### Install (R441 step 5, Table 19-4) -/

/-- Whether the words of a controller that may change only in INIT differ between two chips (12.13). -/
def canInitOnly (a b : Chip) (k : Nat) : Bool :=
  [CAN_BTN_REG k, CAN_BTD_REG k, CAN_SSP_REG k, CAN_NOMATCH_REG k, CAN_MRCFG0_REG k, CAN_MRCFG1_REG k, CAN_MRCFG2_REG k].any
    (fun x => a.rd x != b.rd x) || differs a b ⟨CAN_CTRL_REG k, 2, 3⟩

/-- The copy of the parameters of R186 that the island takes from an admitted configuration. -/
def Chip.islTake (c : Chip) : Chip :=
  { c with vote := { c.vote with
    admitted := true
    copy := { closedTol := c.get DOOR_RIND_CLOSED_TOL_UM, lockWin := c.get DOOR_LOCK_LOCK_WIN_UM, leaf1 := c.is DOOR_CFG_LEAF1_EN,
              step := c.is DOOR_CFG_STEP_EN } } }

/-- ADM_OK and what shows it (R435). -/
def Chip.setAdm (c : Chip) (ok : Bool) : Chip := ({ c with sys := { c.sys with admOk := ok } } : Chip).put DOOR_STATUS_ADM_CLOSE ok

/-- The chip with a layer installed: partitions through R256, controllers through INIT, every other parameter at once. -/
def Chip.putLayer (c0 : Chip) (l : List (Nat × Word)) : Chip :=
  let k := c0.withLayer l
  let c := [0, 1, 2, 3, 4].foldl (fun c p =>
    if c0.rd (VMC_PART_CFG_REG p) ≠ k.rd (VMC_PART_CFG_REG p) then c.partReconfig p (k.rd (VMC_PART_CFG_REG p)).toNat else c) c0
  let c := [0, 1, 2].foldl (fun c n =>
    if ¬ c.is (CAN_STAT_INIT_ACK n) ∧ (canInitOnly c0 k n ∨ k.is (CAN_CTRL_INIT n)) then c.canSetInit n false else c) c
  let c := c.withLayer l
  let c := [0, 1, 2].foldl (fun c n =>
    if c.is (CAN_STAT_INIT_ACK n) ∧ ¬ k.is (CAN_CTRL_INIT n) then ((c.put (CAN_CTRL_INIT n) true).canClearInit n).1 else c) c
  let c := Chip.regsChanged c0 c
  { c with cfg := { c.cfg with crc := layerCrc l } }

/-- An admitted layer installed: ADM_OK holds and the island takes its copy (R435, R441). -/
def Chip.installLayer (c : Chip) (l : List (Nat × Word)) : Chip := (((c.putLayer l).islTake).setAdm true).endCondition 0x0221

/-- A CONFIG record (Table 16-10): event, copy, error, CRCs of the new and the previous configuration. -/
def Chip.configRecord (c : Chip) (ev copy ecode new old : Nat) : Chip :=
  c.record 10 [(20, leBytes 1 ev), (21, leBytes 1 copy), (22, leBytes 2 ecode), (24, leBytes 4 new), (28, leBytes 4 old)]

/-! ### Apply (R441, R442) -/

/-- A changed value out of its range: the error of its chapter. -/
def rangeBroken (l : List (Nat × Word)) (as : List Nat) : Option Nat :=
  (as.flatMap (fun a => (paramFields a).filterMap (fun f =>
    let v := bitsOf (sread resetWord l a).toNat f.lo f.w
    if fieldOk a f (if f.sgn then signedOf f.w v else v) then none else some (rangeCode a f)))).head?

/-- Whether an address holds a value that changes only in ISOLATED (Table 19-4), and the changed fields it is about. -/
def Chip.isolatedOnly (c k : Chip) (a : Nat) : Bool :=
  (inRow a (MOT_AX_CFG_REG 0) 4 0x100 && differs c k ⟨a, 16, 9⟩) || inRow a (MOT_AX_LEAD_REG 0) 4 0x100 ||
  inRow a (FBK_CH_PITCH_REG 0) 6 0x100 || (inRow a (FBK_CH_CFG_REG 0) 6 0x100 && differs c k ⟨a, 1, 2⟩) ||
  inRow a (NOS_CAM_CFG_REG 0) 2 0x40 || inRow a (NOS_CAM_GEOM_REG 0) 2 0x40 || inRow a (NOS_CAM_RING_REG 0) 2 0x40 ||
  a == ETH_CFG_REG || inRow a (ETH_PORT_CFG_REG 0) 2 0x10

/-- The state check of one changed address (Table 19-4, R217, R256); `k` holds the snapshot. -/
def Chip.stateAllows (c k : Chip) (a : Nat) : Bool :=
  let s := c.doorState
  if within a 0x40090000 0x400A0000 then s == 0 || s == 3 || s == 10
  else if within a 0x40040000 0x40050000 then s == 0 || s == 10
  else if c.isolatedOnly k a then s == 10
  else if inRow a (VMC_PART_CFG_REG 0) 5 0x10 then c.partIdle ((a - VMC_PART_CFG_REG 0) / 0x10)
  else true

/-- Whether an address belongs to the configuration of an armed slot (R442). -/
def Chip.ofArmedSlot (c : Chip) (a : Nat) : Bool :=
  within a (DOM_SLOT_CFG_REG 0) (DOM_SLOT_CFG_REG 64) && c.armed ((a - DOM_SLOT_CFG_REG 0) / 0x20)

/-- The items that a configuration fails. -/
def Chip.failing (k : Chip) : List Item := k.items.filter (fun i => !i.ok)

/-- The chip after a refused configuration (R441, R449). -/
def Chip.configRefused (c : Chip) (l : List (Nat × Word)) (ecode : Nat) : Chip :=
  c.configRecord 3 (c.cfg.copy.getD 0) ecode (layerCrc l) c.cfg.crc

/-- CONFIG_APPLY as the executor runs it on the entry of a slot: refused and completed, passed at once when nothing changes, or admitted and
waiting for the boundary (R422, R441). -/
def Chip.configApply (c : Chip) (slot : Nat) : Chip :=
  let l := c.cfg.work
  let d := layerDiff c.running l
  let k := c.withLayer l
  if d = [] then c.complete slot 0 "same=1"
  else
    let early : Option Nat :=
      match rangeBroken l d, k.ruleBroken with
      | some e, _ => some e
      | none, some (e, _) => some e
      | none, none =>
        if d.any (fun a => !c.stateAllows k a) then some 302 else if d.any (fun a => c.ofArmedSlot a) then some 223 else none
    match early with
    | some e => (c.configRefused l e).complete slot e ""
    | none =>
      match k.failing with
      | [] =>
        let c := (c.admNotify []).setEntry slot (fun e => { e with taken := true })
        { c with cfg := { c.cfg with install := some (l, slot) } }
      | bad => ((c.admNotify bad).configRefused l 260).complete slot 260 ""

/-- CONFIG_INSTALL at a boundary: of an admitted snapshot with its completion, or on a standby of the configuration that came by the mirror
and passes its own admission (R441, 19.10). -/
def Chip.configBoundary (c : Chip) : Chip :=
  let c := match c.cfg.install with
    | none => c
    | some (l, slot) =>
      let old := c.cfg.crc
      let c := (({ c with cfg := { c.cfg with install := none } } : Chip).installLayer l)
      let c := (c.configRecord 2 (c.cfg.copy.getD 0) 0 c.cfg.crc old).complete slot 0 ""
      if c.mirroring then { c with cfg := { c.cfg with mirror := some l } } else c
  match c.cfg.fromMirror with
  | none => c
  | some l =>
    let c : Chip := { c with cfg := { c.cfg with fromMirror := none } }
    let k := c.withLayer l
    if k.ruleBroken = none ∧ k.failing = [] then c.installLayer l else c

/-! ### Save, repair and the load at start-up (R438, R439) -/

/-- CONFIG_SAVE: the running configuration into the copy not in use, or E230 under the gate. -/
def Chip.configSave (c : Chip) (slot : Nat) : Chip :=
  if c.gateOpen .config then
    let k := match c.cfg.copy with | some x => 1 - x | none => 0
    let seq := (c.cfg.seq + 1) % 2 ^ 32
    let c := c.mramOwn (copyAddr k) (c.copyBytes c.running seq)
    let c : Chip := { c with cfg := { c.cfg with copy := some k, seq := seq } }
    (c.configRecord 1 k 0 (layerCrc c.running) (layerCrc c.running)).complete slot 0 ""
  else c.complete slot 230 ""

/-- The other copy repaired from the loaded one, once the gate lets the store start. -/
def Chip.configRepair (c : Chip) : Chip :=
  match c.cfg.repair with
  | none => c
  | some k =>
    if c.gateOpen .config then
      let c := c.mramOwn (copyAddr k) (c.rdBytes (copyAddr (1 - k)) (64 + 8 * leAt (c.rdBytes (copyAddr (1 - k)) 8) 6 2))
      (({ c with cfg := { c.cfg with repair := none } } : Chip).raise 0x0220).configRecord 4 k 0 (c.copyCrc k) (c.copyCrc k)
    else c.put SUP_STATUS_STORE_GATED true

/-- A loaded copy tested: installed with ADM_OK where it passes, else refused with a record (R438). -/
def Chip.tryCopy (c : Chip) (k : Nat) (x : Copy) : Chip × Bool :=
  let cand := c.withLayer x.layer
  match rangeBroken x.layer (x.layer.map (fun p => p.1)), cand.ruleBroken with
  | some e, _ => (c.configRecord 3 k e x.crc c.cfg.crc, false)
  | none, some (e, _) => (c.configRecord 3 k e x.crc c.cfg.crc, false)
  | none, none =>
    match cand.failing with
    | [] =>
      let c := ((c.admNotify []).installLayer x.layer)
      (({ c with cfg := { c.cfg with copy := some k, seq := x.seq } } : Chip).configRecord 2 k 0 c.cfg.crc 0, true)
    | bad => ((c.admNotify bad).configRecord 3 k 260 x.crc c.cfg.crc, false)

/-- CONFIG_LOAD: the newer valid copy that passes admission, the other one after it, or FACTORY with F0221 (R438). -/
def Chip.configLoad (c : Chip) : Chip :=
  let order : List (Nat × Copy) :=
    match c.copyAt 0, c.copyAt 1 with
    | some a, some b => if serialNewer 32 b.seq a.seq then [(1, b), (0, a)] else [(0, a), (1, b)]
    | some a, none => [(0, a)]
    | none, some b => [(1, b)]
    | none, none => []
  let r := order.foldl (fun (r : Chip × Bool) p => if r.2 then r else r.1.tryCopy p.1 p.2) (c, false)
  let c := if r.2 then r.1
    else
      let k := (r.1.putLayer []).setAdm false
      (k.raise 0x0221)
  let c := match order with
    | [(k, _)] => (({ c with cfg := { c.cfg with repair := some (1 - k) } } : Chip).configRepair)
    | _ => c
  { c with cfg := { c.cfg with work := c.running } }

/-! ### The executor's other work (R112, R440) -/

/-- DOM_ARM: slots 32 to 63, the admission of R112, then the arm of R111. -/
def Chip.armAdmitted (c : Chip) (n : Nat) : Chip × Nat :=
  if n < 32 then (c, 402)
  else if c.armed n then (c, 0)
  else
    match c.armRefusal n with
    | some _ => c.arm n
    | none =>
      if c.sys.admOk = false then (c.put (DOM_SLOT_STAT_REFUSED n) true, 260)
      else if (c.slotItem n).ok then (c.admNotify []).arm n
      else ((c.admNotify [c.slotItem n]).put (DOM_SLOT_STAT_REFUSED n) true, 260)

/-- VISION_TENANT_START: TEN_EN set and the tenant loaded, or refused with E614 (R426, R240). -/
def Chip.tenantOn (c : Chip) (n : Nat) : Chip × Nat :=
  if c.fuses.partN then (c, 203)
  else if c.bit NOS_CTRL_TEN_EN n then (c, 0)
  else
    let k := c.loadTenant n
    if k.is (NOS_TEN_STAT_LOADED n) then ((k.putBit NOS_CTRL_TEN_EN n true).tenantStart n, 0) else (k, 614)

/-- VISION_TENANT_STOP: TEN_EN cleared (R426). -/
def Chip.tenantOff (c : Chip) (n : Nat) : Chip × Nat :=
  if c.fuses.partN then (c, 203) else ((c.putBit NOS_CTRL_TEN_EN n false).tenantStop n, 0)

end Sys2Proof.Machine
end

