-- ==== Sys2Proof/Machine/Journal.lean ====
section
/-! DEFINITION. The acceptance journal and the duplicate windows read back from MRAM: at a start, and on a standby as the stores of the
mirror arrive (spec/16 R365 to R367, R373, R375, R379). -/

namespace Sys2Proof.Machine

/-- The journal entry in a slot; none where CRC_A fails. A completion part whose CRC fails reads as CSTATE 0 (R366). -/
def Chip.entryOf (c : Chip) (slot : Nat) : Option Entry :=
  let b := c.rdBytes (jrnAddr slot) 64
  if leAt b 0 1 = 1 ∧ crcHolds (b.take 48) then
    let d := b.drop 48
    let ok := crcHolds d
    let f := leAt b 3 1
    let cmd := QCmd.ofBytes (sliceBytes b 24 20)
    let src := leAt b 2 1
    some { slot := slot, queue := leAt b 1 1 % 128, source := src, motion := bitAt f 0, unmirrored := bitAt f 1, heldAcc := bitAt f 2,
           dual := bitAt f 4, qseq := leAt b 4 4, key := leAt b 8 4, tAcc := leAt b 12 8, boot := leAt b 20 2, cmd := cmd,
           cstate := if ok then leAt d 0 1 else 0, ecode := if ok then leAt d 2 2 else 0, tDone := if ok then leAt d 4 8 else 0,
           pcrc := 0, visible := false, stored := true, mirrored := true, doneMirrored := true, taken := false, tArr := leAt b 12 8,
           reply := match (if src ≤ 8 then pathOf cmd.v else none) with | some p => .vehicle [p] | none => .nobody }
  else none

/-- The window entry at a place of a set; none where its CRC fails or nothing was stored (Table 16-4). -/
def Chip.windowAt (c : Chip) (set place : Nat) : Option WinEntry :=
  let b := c.rdBytes (winAddr set place) 32
  if crcHolds b ∧ leAt b 0 4 ≠ 0 then
    some { set := set, place := place, key := leAt b 0 4, pcrc := leAt b 4 4, phase := leAt b 8 1, queue := leAt b 9 1,
           ecode := leAt b 10 2, qseq := leAt b 12 4, reply := sliceBytes b 16 12 }
  else none

/-- Entries in order of acceptance: by T_ACC within equal boots, by QSEQ within a queue. -/
def entryBefore (a b : Entry) : Bool :=
  if a.queue = b.queue then serialNewer 32 b.qseq a.qseq else decide (a.tAcc ≤ b.tAcc)

/-- A list of entries with one more at its place. -/
def insertEntry (e : Entry) : List Entry → List Entry
  | [] => [e]
  | x :: xs => if entryBefore e x then e :: x :: xs else x :: insertEntry e xs

/-- The chip with a queue's QSEQ no lower than one found (R373, R374). -/
def Chip.noteQseq (c : Chip) (q n : Nat) : Chip :=
  if serialNewer 32 n (c.get (WQM_Q_SEQ_QSEQ q)) then c.set (WQM_Q_SEQ_QSEQ q) n else c

/-- The chip with its list of entries following a journal slot (R375): a pending one is in the list, any other is not. -/
def Chip.slotNote (c : Chip) (slot : Nat) : Chip :=
  let rest := c.wqm.entries.filter (fun e => e.slot != slot)
  match c.entryOf slot with
  | none => { c with wqm := { c.wqm with entries := rest } }
  | some e =>
    let c := c.noteQseq e.queue e.qseq
    if e.cstate = 0 then
      let c : Chip := { c with wqm := { c.wqm with entries := rest ++ [e] } }
      (c.set WQM_JRN_HEAD_SLOT ((slot + 1) % 4096)).wqmShow e.queue
    else
      let c : Chip := { c with wqm := { c.wqm with entries := rest } }
      (c.set (WQM_Q_DONE_QSEQ e.queue) e.qseq).wqmShow e.queue

/-- The chip with the SRAM index following a window place. -/
def Chip.windowNote (c : Chip) (set place : Nat) : Chip :=
  let rest := c.wqm.windows.filter (fun x => !(x.set == set && x.place == place))
  { c with wqm := { c.wqm with
    windows := match c.windowAt set place with | some w => w :: rest | none => rest
    winNext := insertD c.wqm.winNext set ((place + 1) % 1024) } }

/-- The cells that a store of some bytes touches in a region of `n` cells of `size` bytes. -/
def touched (base size n a len : Nat) : List Nat :=
  if a + len ≤ base ∨ base + size * n ≤ a then []
  else
    let lo := (a - base) / size
    let hi := (a + len - 1 - base) / size
    (List.range (hi + 1 - lo)).map (fun k => lo + k)

/-- The chip with a store of the mirror in its own MRAM and its indexes following (R375, R379). -/
def Chip.applyStore (c : Chip) (w : Nat × List Byte) : Chip :=
  let c := c.wrBytes w.1 w.2
  let n := w.2.length
  let c := (touched 0x10280000 64 4096 w.1 n).foldl (fun c k => c.slotNote k) c
  let c := (touched 0x10300000 32 16384 w.1 n).foldl (fun c k => c.windowNote (k / 1024) (k % 1024)) c
  let led := touched 0x10080000 64 32768 w.1 n
  if led = [] then c else (led.foldl (fun c k => c.ringNote k) c).ledgShow

/-- The places of a window set in use that lie just before a free one: the set's newest entry. -/
def winTail (ws : List WinEntry) (set : Nat) : Nat :=
  let ps := (ws.filter (fun w => w.set == set))
  match ps.find? (fun w => !ps.any (fun x => x.place == (w.place + 1) % 1024)) with
  | some w => (w.place + 1) % 1024
  | none =>
    match ps with
    | [] => 0
    | w :: rest => ((rest.foldl (fun (m : WinEntry) x => if serialNewer 32 x.qseq m.qseq then x else m) w).place + 1) % 1024

/-- The scan of step 8 (R373): entries with CSTATE 0 are in their queues again, in QSEQ order; F0E03 for a torn one. -/
def Chip.journalScan (c : Chip) : Chip :=
  let slots := cellsIn 0x10280000 64 4096 c.mem
  let found := slots.filterMap (fun s => c.entryOf s)
  let torn := slots.filter (fun s => leAt (c.rdBytes (jrnAddr s) 1) 0 1 == 1 && (c.entryOf s).isNone)
  let c := torn.foldl (fun c _ => c.raise 0x0E03) c
  let live := (found.filter (fun e => e.cstate == 0)).foldl (fun l e => insertEntry { e with visible := true } l) []
  let wins := (cellsIn 0x10300000 32 16384 c.mem).filterMap (fun k => c.windowAt (k / 1024) (k % 1024))
  let c : Chip := { c with wqm := { c.wqm with entries := live, windows := wins,
                                               winNext := (List.range 16).map (fun s => (s, winTail wins s)) } }
  let c := found.foldl (fun c e => c.noteQseq e.queue e.qseq) c
  let newest := found.foldl (fun (m : Option Entry) e =>
    match m with | some x => (if x.tAcc ≤ e.tAcc then some e else m) | none => some e) none
  let c := match newest with | some e => c.set WQM_JRN_HEAD_SLOT ((e.slot + 1) % 4096) | none => c
  (List.range 128).foldl (fun c q => c.wqmShow q) c

end Sys2Proof.Machine
end

