-- ==== Sys2Proof/Machine/Messages.lean ====
section
/-! DEFINITION. The vehicle messages over CAN and UDP: commands and their acknowledgement, status messages, speed and time inputs, the
occupancy stream and the ledger export (spec/14 R313 to R334). -/

namespace Sys2Proof.Machine

/-! ### Paths -/

/-- Whether a path carries traffic now: the controller runs outside INIT and bus-off, or the host is up (Table 14-13). -/
def Chip.pathUp (c : Chip) (p : Path) : Bool :=
  match p with
  | .can k => !c.bit SYS_FRST_STAT_BUSY (5 + k) && c.is (CAN_CTRL_EN k) && !c.is (CAN_STAT_INIT_ACK k) && !c.is (CAN_STAT_BO k)
  | .udp _ _ => c.hostUp

/-- The place of an address in VM_UDP_ALLOW. -/
def Chip.allowIndex (c : Chip) (ip : Nat) : Option Nat :=
  if ip = 0 then none else [0, 1, 2, 3].find? (fun k => c.get (VM_UDP_ALLOW_VALUE k) == ip)

/-- Whether a path belongs to the set: its bit of VM_CAN_MASK, or any UDP address. -/
def Chip.pathInSet (c : Chip) (p : Path) : Bool :=
  match p with
  | .can k => c.bit VM_CAN_MASK_VALUE k
  | .udp _ _ => true

/-- The source of a command by its path (R322, Table 16-1). -/
def Chip.vehicleSource (c : Chip) (p : Path) : Nat :=
  if c.is VM_DUAL_VALUE then 1
  else match p with | .can k => 2 + k | .udp ip _ => 5 + (c.allowIndex ip).getD 0

/-- Whether the sender may command: a CAN path always, a UDP address in VM_UDP_ALLOW (R317). -/
def Chip.allowed (c : Chip) (p : Path) : Bool := match p with | .can _ => true | .udp ip _ => (c.allowIndex ip).isSome

/-- The chip with a message of the set sent on a path: its CODE and its distance from VM_ID_BASE. -/
def Chip.sendOn (c : Chip) (p : Path) (code k count : Nat) (data : List Byte) : Chip :=
  match p with
  | .can ctl => c.sendCan ctl k data
  | .udp ip port => c.sendUdp ip port code count data

/-- The chip with a status message sent on every path of VM_CAN_MASK and to VM_UDP_DEST (R324, R325). -/
def Chip.sendStatus (c : Chip) (code k : Nat) (data : List Byte) : Chip :=
  let c := [0, 1, 2].foldl (fun c n => if c.bit VM_CAN_MASK_VALUE n then c.sendCan n k data else c) c
  c.sendUdp (c.get VM_UDP_DEST_IP_VALUE) (c.get VM_UDP_DEST_PORT_VALUE) code 0 data

/-! ### Datagrams (R316) -/

/-- UDP_DATAGRAM: a datagram to port 44100 whose header holds goes to the message layer; any other is counted and dropped. -/
def Chip.udpDatagram (c : Chip) (src sport dst : Nat) (checksum : Bool) (d : List Byte) : Chip :=
  if c.hostUp = false ∨ c.ownIp dst = false then c
  else
    let code := leAt d 3 1
    if d.length < 8 ∨ leAt d 0 2 ≠ 0x5643 ∨ leAt d 2 1 ≠ 1 ∨ leAt d 6 2 + 8 ≠ d.length ∨ checksum = false ∨
        ¬ (code = 0 ∨ code = 4 ∨ code = 7) then c.incSat ETH_DROP_OTHER
    else c.emit (.deliver src sport code (leAt d 4 1) (leAt d 5 1) (d.drop 8))

/-! ### DOOR_CMD (R319 to R323) -/

/-- The request of an OP code (Table 14-4). -/
def doorOpOf (op : Nat) : Option QOp :=
  match op with
  | 1 => some .doorOpen
  | 2 => some .doorClose
  | 3 => some .doorRelease
  | 4 => some .doorUnrelease
  | 5 => some .doorReset
  | 6 => some .doorIsolate
  | 7 => some .doorUnisolate
  | _ => none

/-- Whether a DOOR_CMD payload is well formed: 8 bytes, a known OP, RAMP only with OPEN, reserved fields 0 (R315, Table 14-4). -/
def doorCmdOk (d : List Byte) : Bool :=
  d.length == 8 && (doorOpOf (leAt d 2 1)).isSome && decide (leAt d 3 1 ≤ 1) && (leAt d 3 1 == 0 || leAt d 2 1 == 1) && leAt d 4 4 == 0

/-- The chip with a REFUSED acknowledgement sent (R321). -/
def Chip.refuseAck (c : Chip) (p : Path) (req code reason : Nat) : Chip :=
  c.sendAck p (ackBytes req code 1 false false false reason 0)

/-- DOOR_CMD: taken by the active when addressed to this doorway or to all, checked for form, sender, binding and role, and offered to its
queue (R319, R368). -/
def Chip.doorCmd (c : Chip) (p : Path) (addr : Nat) (d : List Byte) : Chip :=
  if c.isActive = false ∨ c.pathUp p = false ∨ ¬ (addr = c.get VM_DOOR_ADDR_VALUE ∨ addr = 31) then c
  else if addr = 31 ∧ c.pathInSet p = false then c
  else
    let req := leAt d 0 2
    let source := c.vehicleSource p
    if doorCmdOk d = false then c.refuseAck p req 0 4
    else if c.allowed p = false then c.refuseAck p req 0 5
    else
      match (if c.pathInSet p then c.queueOf source 128 else none), doorOpOf (leAt d 2 1) with
      | some q, some op =>
        if op = .doorIsolate ∨ op = .doorUnisolate then c.refuseAck p req 0 5
        else
          match c.offer q source req (crc32 d) (c.opMotion op) { op := op, a := leAt d 3 1, b := 0, v := pathCode p } (.vehicle [p]) with
          | (c, .refused reason _) => c.refuseAck p req 0 reason
          | (c, .replay w) => c.sendAck p (ackReplay w.reply)
          | (c, _) => c
      | _, _ => c.refuseAck p req 0 7

/-! ### Status messages (R324, R325) -/

/-- The position of a leaf in 0.1 mm, 0xFFFF without POS_VALID or for a leaf that is not there (Table 14-8). -/
def Chip.leafPos (c : Chip) (n : Nat) : Nat :=
  if c.is (FBK_CH_STAT_POS_VALID n) ∧ (n = 0 ∨ c.is DOOR_CFG_LEAF1_EN) then min 0xFFFE (c.leafUm n / 100).toNat else 0xFFFF

/-- The highest severity in force. -/
def Chip.topSev (c : Chip) : Nat := c.flt.inForce.foldl (fun m e => max m e.sev) 0

/-- The bytes of DOOR_STATUS (Table 14-8). -/
def Chip.doorStatusBytes (c : Chip) (k : Nat) : List Byte :=
  let f := c.get DOOR_STATUS_RIND + 4 * c.get DOOR_STATUS_WITHHOLD + 8 * c.get DOOR_STATUS_VA + 16 * c.get DOOR_STATUS_DEGRADED +
    32 * c.get DOOR_STATUS_OBSTRUCTED + 64 * c.get DOOR_STATUS_RAMP_OUT + 128 * c.get DOOR_STATUS_RELEASE_PERM
  let g := cond c.vote.stepRet 1 0 + 2 * c.get VOTE_STAT_LOCKED + 4 * c.get PAIR_STAT_ALONE + 8 * c.get DOOR_STATUS_HELD + 16 * c.topSev
  leBytes 1 (c.get DOOR_STATUS_STATE + 16 * c.get DOOR_STATUS_CAUSE) ++ leBytes 1 f ++
    leBytes 1 (c.get DOOR_STATUS_REV_COUNT + 16 * (k % 16)) ++ leBytes 1 g ++ leBytes 2 (c.leafPos 0) ++ leBytes 2 (c.leafPos 1)

/-- DOOR_STATUS: sent once for each k that TB_VEH has reached (R324). -/
def Chip.doorStatus (c : Chip) : Chip :=
  let off := c.get VM_DOOR_ADDR_VALUE * 500000
  let k := (c.tbVeh - off) / 20000000
  if c.isActive = false ∨ c.tbVeh < off ∨ c.msg.dsK = some k then c
  else ({ c with msg := { c.msg with dsK := some k } } : Chip).sendStatus 3 0x60 (c.doorStatusBytes k)

/-- Bytes 0 to 4 of INTERLOCK_STATUS (Table 14-9). -/
def Chip.interlockBytes (c : Chip) : List Byte :=
  leBytes 1 (c.get VOTE_STAT_TRACT + 2 * c.get VOTE_STAT_LOCK_LOW + 4 * c.get VOTE_STAT_BRIDGE + 8 * c.get VOTE_STAT_RELEASE +
      16 * c.get VOTE_STAT_VSTILL + 32 * c.get VOTE_STAT_VETO + 64 * c.get VOTE_STAT_MODE) ++
    leBytes 1 (c.get VOTE_STAT_SUSPECT) ++ leBytes 2 (c.get VOTE_WHY_TRACT) ++ leBytes 1 (c.get VOTE_WHY_RELEASE)

/-- INTERLOCK_STATUS: on a change of bytes 0 to 4, and otherwise every 100 ms (R325). -/
def Chip.interlockStatus (c : Chip) : Chip :=
  let b := c.interlockBytes
  let due : Bool := match c.msg.ilkAt with | some a => decide (100000000 ≤ c.now - a) | none => true
  if c.isActive = false ∨ (b = c.msg.ilk ∧ due = false) then c
  else
    let n := c.msg.ilkAlive
    ({ c with msg := { c.msg with ilk := b, ilkAt := some c.now, ilkAlive := (n + 1) % 256 } } : Chip).sendStatus 2 0x40
      (b ++ leBytes 1 n ++ leBytes 2 0)

/-! ### Speed and time inputs (R327, R328) -/

/-- Whether a path is the one VM_SPEED_SRC names. -/
def Chip.isSpeedPath (c : Chip) (p : Path) : Bool :=
  match p with
  | .can k => c.get VM_SPEED_SRC_VALUE == k
  | .udp _ _ => c.get VM_SPEED_SRC_VALUE == 3

/-- SPEED_IN: used while VALID is 1 and ALIVE differs from the previous message's; the veto and the third speed reference take it (R327). -/
def Chip.speedMsg (c : Chip) (p : Path) (id : Nat) (d : List Byte) : Chip :=
  let mine : Bool := match p with | .can _ => id == c.get VM_SPEED_ID_VALUE | .udp _ _ => true
  if c.isActive = false ∨ c.pathUp p = false ∨ c.isSpeedPath p = false ∨ mine = false ∨ d.length ≠ 8 then c
  else
    let fresh : Bool := leAt d 4 1 % 2 == 1 && c.msg.spAlive != some (leAt d 5 1)
    let c : Chip := { c with msg := { c.msg with spAlive := some (leAt d 5 1) } }
    if fresh then
      let v := some (signedOf 32 (leAt d 0 4), c.now)
      { c with vote := { c.vote with speedIn := v }, wheel := { c.wheel with can := v } }
    else c

/-- VEH_TIME: on CAN_CTRL, in frames of exactly 8 bytes, with the time at the start of frame `sof` (R328). -/
def Chip.vehTimeMsg (c : Chip) (k id sof : Nat) (d : List Byte) : Chip :=
  if c.isActive = false ∨ c.pathUp (.can k) = false ∨ ¬ c.is TSYN_CFG_CAN_EN ∨ c.get TSYN_CFG_CAN_CTRL ≠ k ∨
      id ≠ c.get VM_TIME_ID_VALUE ∨ d.length ≠ 8 then c
  else
    let served : Bool := match c.tsyn.can.meas with
      | m :: _ => decide (sof ≤ m.1 + 3 * c.get VM_VT_PERIOD_VALUE * 1000000)
      | [] => true
    (c.setRef 2 (fun r => { r with interval := c.get VM_VT_PERIOD_VALUE * 1000000 })).measure 2 sof (leAt d 0 8) served true

/-! ### The occupancy stream (R329) -/

/-- An OCCUPANCY payload (Table 14-11). -/
def Chip.occBytes (c : Chip) (u : GridUpdate) (row0 rows seq : Nat) : List Byte :=
  leBytes 1 u.cam ++ leBytes 1 row0 ++ leBytes 1 rows ++
    leBytes 1 (cond u.bad 1 0 + 2 * cond u.complete 1 0 + 4 * c.get VOTE_STAT_VA) ++ leBytes 6 u.fidx ++ leBytes 2 u.first ++
    leBytes 2 u.last ++ leBytes 1 (c.get TSYN_STAT_QUAL) ++ leBytes 1 0 ++ leBytes 8 (unsignedOf 64 (c.vehAt u.tExp)) ++
    leBytes 8 c.tbVeh ++ leBytes 4 seq ++ c.rdBytes (gridMem u.cam + 32 * row0) (32 * rows)

/-- The chip with the datagrams that are still fresh handed to the MAC. -/
def Chip.occSend (c : Chip) : Chip :=
  if c.hostUp then
    let due := c.nos.occ.filter (fun o => decide (c.now - o.2.1 ≤ 2000000))
    let old := c.nos.occ.filter (fun o => !decide (c.now - o.2.1 ≤ 2000000))
    due.foldl (fun c o => c.sendUdp (c.get VM_OCC_DEST_IP_VALUE) (c.get VM_OCC_DEST_PORT_VALUE) 6 (leAt o.2.2 2 1) o.2.2)
      { c with nos := { c.nos with occ := old } }
  else c

/-- OCCUPANCY: a T1 grid update makes one datagram on the active, every update or complete frames only (R329). -/
def Chip.occupancy (c : Chip) (u : GridUpdate) : Chip :=
  let mode := c.get VM_OCC_MODE_VALUE
  if c.isActive = false ∨ c.fuses.partN ∨ u.ten ≠ 1 ∨ c.get VM_OCC_DEST_IP_VALUE = 0 ∨ mode = 0 ∨ (mode = 2 ∧ u.complete = false) then c
  else
    let seq := (c.nos.occSeq[u.cam]?).getD 0
    let row0 := if mode = 2 then 0 else u.rows.foldl (fun m r => min m r.1) 17
    let rows := if mode = 2 then 18 else u.rows.foldl (fun m r => max m r.1) 0 + 1 - row0
    let b := c.occBytes u row0 rows seq
    ({ c with nos := { c.nos with occSeq := modAt c.nos.occSeq u.cam (fun n => (n + 1) % 2 ^ 32)
                                  occ := c.nos.occ ++ [(u.cam, c.now, b)] } } : Chip).occSend

/-- OCCUPANCY_DISCARD: what was not handed to the MAC within 2 ms of T_PUB is gone, and its SEQ with it (R329). -/
def Chip.occDiscard (c : Chip) : Chip :=
  { c with nos := { c.nos with occ := c.nos.occ.filter (fun o => decide (c.now - o.2.1 ≤ 2000000)) } }

/-- JOB_END with what a grid update does: the masks of the island and the stream (R204, R241, R329). -/
def Chip.jobEndAll (c : Chip) (clu : Nat) : Chip :=
  match c.jobEnd clu with
  | (c, none) => c
  | (c, some u) => (c.gridCompare u).occupancy u

/-! ### Ledger export (R330 to R332) -/

/-- The newest sequence the ring holds. -/
def Chip.newestSeq (c : Chip) : Nat := (ringNewest c.ledg.ring).seq

/-- The chip with an END message on a path (R332). -/
def Chip.sendEnd (c : Chip) (p : Path) (reason : Nat) : Chip :=
  c.sendOn p 5 0xA0 0 (leBytes 6 c.newestSeq ++ leBytes 1 reason ++ leBytes 1 0)

/-- The chip with the export session closed: END with its reason where one is sent, and the state cell written (R332, R385). -/
def Chip.exportClose (c : Chip) (reason : Option Nat) : Chip :=
  match c.msg.exp with
  | none => c
  | some s =>
    let c := match reason with | some r => c.sendEnd s.path r | none => c
    let c := ({ c with msg := { c.msg with exp := none } } : Chip).put LEDG_STAT_EXPORT false
    if c.ledg.cellDirty ∧ c.gateOpen .stateCell then c.writeCell else c

/-- The sequence of the oldest record that is not exported. -/
def Chip.oldestUnexported (c : Chip) : Nat :=
  match c.ledg.ring.find? (fun r => !c.exported r.seq) with
  | some r => r.seq
  | none => c.ledg.nextSeq

/-- The chip with a session opened on a path (Table 14-12). -/
def Chip.exportOpen (c : Chip) (p : Path) (win seq : Nat) : Chip :=
  let first := if seq = 0 then c.oldestUnexported else seq
  ({ c with msg := { c.msg with exp := some { path := p, win := win, una := first, next := first, high := none, lastAckn := c.now,
                                              lastAdv := c.now, lastSent := none, endSent := false }, expLost := none } } : Chip).put
    LEDG_STAT_EXPORT true

/-- Whether a LEDGER_EXPORT request is well formed for an OP (R315, Table 14-12). -/
def exportReqOk (op : Nat) (d : List Byte) : Bool :=
  d.length == 12 && leAt d 2 1 == op && leAt d 10 2 == 0 &&
    (if op = 1 then decide (1 ≤ leAt d 3 1 ∧ leAt d 3 1 ≤ 64) else leAt d 3 1 == 0) && (op != 3 || leAt d 4 6 == 0) &&
    (op != 2 || leAt d 0 2 == 0)

/-- What stands against a START or STOP on a path: a reason of Table 14-6 (R315, R317, R330). -/
def Chip.exportRefusal (c : Chip) (p : Path) (op : Nat) (d : List Byte) : Option Nat :=
  let fd : Bool := match p with | .can k => c.pathInSet p && c.is (CAN_CTRL_FD_EN k) | .udp _ _ => true
  if exportReqOk op d = false then some 4
  else if c.allowed p = false then some 5
  else if fd = false then some 7
  else none

/-- Whether a request on a path is heard by this chip: it is the active, the path serves, and the doorway is meant. -/
def Chip.exportHears (c : Chip) (p : Path) (addr : Nat) : Bool := c.isActive && c.pathUp p && addr == c.get VM_DOOR_ADDR_VALUE

/-- The chip with an ACCEPT for a LEDGER_EXPORT request. -/
def Chip.exportAccept (c : Chip) (p : Path) (req : Nat) : Chip := c.sendAck p (ackBytes req 4 0 false false false 0 0)

/-- EXPORT_START: opens or restarts the session, or BUSY while another path's session has had an ACKN within 10 s (R330). -/
def Chip.exportStart (c : Chip) (p : Path) (addr : Nat) (d : List Byte) : Chip :=
  if c.exportHears p addr = false then c
  else
    match c.exportRefusal p 1 d with
    | some r => c.refuseAck p (leAt d 0 2) 4 r
    | none =>
      match c.msg.exp with
      | some s =>
        if s.path = p then (c.exportAccept p (leAt d 0 2)).exportOpen p (leAt d 3 1) (leAt d 4 6)
        else if c.now - s.lastAckn < 10000000000 then c.refuseAck p (leAt d 0 2) 4 9
        else ((c.exportClose (some 2)).exportAccept p (leAt d 0 2)).exportOpen p (leAt d 3 1) (leAt d 4 6)
      | none => (c.exportAccept p (leAt d 0 2)).exportOpen p (leAt d 3 1) (leAt d 4 6)

/-- EXPORT_ACKN: every sequence up to SEQ is acknowledged; one behind the acknowledged sequence or beyond the last record sent is ignored
(R331, R332). -/
def Chip.exportAckn (c : Chip) (p : Path) (addr : Nat) (d : List Byte) : Chip :=
  if c.exportHears p addr = false ∨ exportReqOk 2 d = false ∨ c.allowed p = false then c
  else
    match c.msg.exp with
    | none => c
    | some s =>
      let q := leAt d 4 6
      let beyond : Bool := match s.high with | some h => decide (h < q) | none => true
      if s.path ≠ p ∨ q + 1 < s.una ∨ beyond then c
      else
        let adv := decide (s.una ≤ q)
        ({ c with msg := { c.msg with exp := some { s with una := q + 1, next := max s.next (q + 1), lastAckn := c.now,
                                                           lastAdv := if adv then c.now else s.lastAdv } } } : Chip).ledgerAck q

/-- EXPORT_STOP: END with REASON 1, and the session is closed (R332). -/
def Chip.exportStop (c : Chip) (p : Path) (addr : Nat) (d : List Byte) : Chip :=
  if c.exportHears p addr = false then c
  else
    match c.exportRefusal p 3 d with
    | some r => c.refuseAck p (leAt d 0 2) 4 r
    | none =>
      match c.msg.exp with
      | some s => if s.path = p then (c.exportAccept p (leAt d 0 2)).exportClose (some 1) else c.refuseAck p (leAt d 0 2) 4 9
      | none => c.exportAccept p (leAt d 0 2)

/-- The 64 bytes of records one after the other, and a GAP that is sent closed (R331, R383). -/
def Chip.exportRecords (c : Chip) (rs : List RingSlot) : Chip × List Byte :=
  let bytes := rs.flatMap (fun r => c.rdBytes (ringAddr r.slot) 64)
  let sentGap : Bool := match c.ledg.gap with | some g => rs.any (fun r => r.slot == g.1) | none => false
  ((if sentGap then ({ c with ledg := { c.ledg with gap := none, cellDirty := true } } : Chip).ledgShow else c), bytes)

/-- EXPORT_DATA_SEND: the next records within the window, one by CAN at no more than EXP_RATE_CAN, up to 16 by UDP; END with REASON 0 once
the newest has been sent (R331, R332). -/
def Chip.exportSend (c : Chip) : Chip :=
  match c.msg.exp with
  | none => c
  | some s =>
    if c.isActive = false ∨ c.pathUp s.path = false then c
    else
      let flight := (c.ledg.ring.filter (fun r => decide (s.una ≤ r.seq ∧ r.seq < s.next))).length
      let todo := c.ledg.ring.filter (fun r => decide (s.next ≤ r.seq))
      let wait : Bool := match s.path, s.lastSent with
        | .can _, some a => decide ((c.now - a) * c.get VM_EXP_RATE_VALUE < 1000000000)
        | _, _ => false
      let most : Nat := match s.path with | .can _ => 1 | .udp _ _ => 16
      match todo with
      | [] =>
        if s.endSent then c
        else ({ c with msg := { c.msg with exp := some { s with endSent := true } } } : Chip).sendEnd s.path 0
      | _ :: _ =>
        let rs := todo.take (min most (s.win - flight))
        if wait = true ∨ rs = [] then c
        else
          let last := (ringNewest rs).seq
          let p := c.exportRecords rs
          let c : Chip := { p.1 with msg := { p.1.msg with exp := some { s with
            next := last + 1, high := some (max last (s.high.getD 0)), lastSent := some c.now, endSent := false } } }
          let n : Nat := match s.path with | .can _ => 0 | .udp _ _ => rs.length
          c.sendOn s.path 5 0xA0 n p.2

/-- EXPORT_RETRANSMIT: no advance for EXP_RTO with records unacknowledged; sending resumes from the first of them (R332). -/
def Chip.exportAgain (c : Chip) : Chip :=
  match c.msg.exp with
  | none => c
  | some s =>
    if c.isActive ∧ s.una < s.next ∧ c.get VM_EXP_RTO_VALUE * 1000000 ≤ c.now - s.lastAdv then
      { c with msg := { c.msg with exp := some { s with next := s.una, lastAdv := c.now, endSent := false } } }
    else c

/-- The session's path watched: lost, it closes the session; back within EXP_RTO, END with REASON 3 is sent (Table 14-13). -/
def Chip.exportPath (c : Chip) : Chip :=
  match c.msg.exp with
  | some s =>
    if c.pathUp s.path then c
    else
      let c := c.exportClose none
      { c with msg := { c.msg with expLost := some (s.path, c.now) } }
  | none =>
    match c.msg.expLost with
    | none => c
    | some (p, at_) =>
      if c.get VM_EXP_RTO_VALUE * 1000000 < c.now - at_ then { c with msg := { c.msg with expLost := none } }
      else if c.pathUp p then ({ c with msg := { c.msg with expLost := none } } : Chip).sendEnd p 3
      else c

/-! ### The commands -/

/-- UDP_DATAGRAM (R316). -/
def execUdpDatagram (t src sport dst : Nat) (checksum : Bool) (d : List Byte) (s : State) : Host.Outcome State Fault Refusal :=
  run .app t (fun c => c.udpDatagram src sport dst checksum d) s

/-- DOOR_CMD (R319). -/
def execDoorCmd (t : Nat) (p : Path) (addr : Nat) (d : List Byte) (s : State) : Host.Outcome State Fault Refusal :=
  run .app t (fun c => c.doorCmd p addr d) s

/-- DOOR_STATUS (R324). -/
def execDoorStatus (t : Nat) (s : State) : Host.Outcome State Fault Refusal := run .app t (fun c => c.doorStatus) s

/-- INTERLOCK_STATUS (R325). -/
def execInterlockStatus (t : Nat) (s : State) : Host.Outcome State Fault Refusal := run .app t (fun c => c.interlockStatus) s

/-- EXPORT_START (R330). -/
def execExportStart (t : Nat) (p : Path) (addr : Nat) (d : List Byte) (s : State) : Host.Outcome State Fault Refusal :=
  run .app t (fun c => c.exportStart p addr d) s

/-- EXPORT_ACKN (R331). -/
def execExportAckn (t : Nat) (p : Path) (addr : Nat) (d : List Byte) (s : State) : Host.Outcome State Fault Refusal :=
  run .app t (fun c => c.exportAckn p addr d) s

/-- EXPORT_STOP (R332). -/
def execExportStop (t : Nat) (p : Path) (addr : Nat) (d : List Byte) (s : State) : Host.Outcome State Fault Refusal :=
  run .app t (fun c => c.exportStop p addr d) s

/-- EXPORT_DATA_SEND (R331). -/
def execExportDataSend (t : Nat) (s : State) : Host.Outcome State Fault Refusal := run .app t (fun c => c.exportSend) s

/-- EXPORT_RETRANSMIT (R332). -/
def execExportRetransmit (t : Nat) (s : State) : Host.Outcome State Fault Refusal := run .app t (fun c => c.exportAgain) s

/-- SPEED_IN (R327). -/
def execSpeedIn (t : Nat) (p : Path) (id : Nat) (d : List Byte) (s : State) : Host.Outcome State Fault Refusal :=
  run .app t (fun c => c.speedMsg p id d) s

/-- VEH_TIME (R328). -/
def execVehTime (t : Nat) (k : Fin 3) (id sof : Nat) (d : List Byte) (s : State) : Host.Outcome State Fault Refusal :=
  run .app t (fun c => c.vehTimeMsg k id sof d) s

/-- OCCUPANCY_DISCARD (R329). -/
def execOccupancyDiscard (t : Nat) (s : State) : Host.Outcome State Fault Refusal := run .app t (fun c => c.occDiscard) s

/-- JOB_END (R241): the job on a cluster ends at its LAST descriptor. -/
def execJobEnd (t : Nat) (clu : Fin 4) (s : State) : Host.Outcome State Fault Refusal := run .app t (fun c => c.jobEndAll clu) s

end Sys2Proof.Machine
end

