-- ==== Sys2Proof/Machine/Pair.lean ====
section
/-! DEFINITION. The lichen pair: pair frames, the lease, the election, the mirror, health, switchover and handover (spec/15 R335 to R361,
with the mirror's part of spec/16 R373 to R375 and of spec/06 R139). -/

namespace Sys2Proof.Machine

/-! ### The link (R335) -/

/-- Whether the chip runs as one of a pair (PAIR_CFG.EN). -/
def Chip.paired (c : Chip) : Bool := c.is PAIR_CFG_EN

/-- A lane dropped: its traffic moves to the other lane, and F0302 is raised (R335). -/
def Chip.dropLane (c : Chip) (k : Nat) : Chip :=
  if (c.pair.dropped[k]?).getD true then c
  else
    (({ c with pair := { c.pair with dropped := modAt c.pair.dropped k (fun _ => true) } } : Chip).put PAIR_STAT_ONE_LANE true).raise 0x0302

/-- A pair frame arrives: a bad one is discarded and counted, 16 in a row drop the lane; a valid one keeps the link up and restores the
lane (R335; log 60). The second answer tells whether the frame is taken. -/
def Chip.pairFrame (c : Chip) (h : PairHdr) : Chip × Bool :=
  let k : Nat := h.lane
  if c.paired = false then (c, false)
  else if h.crcOk = false then
    let n := (c.pair.crcRun[k]?).getD 0 + 1
    let c := ({ c with pair := { c.pair with crcRun := modAt c.pair.crcRun k (fun _ => min n 16) } } : Chip).incSat PAIR_LINK_CNT_CRC
    (if 16 ≤ n then c.dropLane k else c, false)
  else
    let c : Chip := { c with pair := { c.pair with crcRun := modAt c.pair.crcRun k (fun _ => 0),
                                                   dropped := modAt c.pair.dropped k (fun _ => false), frameAt := c.now } }
    let c := c.put PAIR_STAT_ONE_LANE (c.pair.dropped.any (fun d => d))
    if c.is PAIR_STAT_LINK then (c, true) else ((c.put PAIR_STAT_LINK true).endCondition 0x0301, true)

/-- The chip with a pair frame sent. -/
def Chip.sendPair (c : Chip) (type : Nat) (payload : List Byte) : Chip := if c.paired then c.emit (.pair type payload) else c

/-- The tick of this chip's TB_LOCAL at a tick of the peer's, by the pair offset: the peer's time less this chip's (R336). -/
def Chip.ownTick (c : Chip) (peer : Nat) : Int := (peer : Int) - signedOf 64 (c.get64 PAIR_OFFSET_LO_OFS PAIR_OFFSET_HI_OFS)

/-! ### Health (R349, Table 15-3) -/

/-- The checks of Table 15-3 that fail, by row. -/
def Chip.healthChecks (c : Chip) : Nat :=
  let sb := c.isStandby
  let readHere : Nat → Bool := fun n =>
    c.is (FBK_CH_CFG_ENABLE n) && c.get (FBK_CH_STAT_CABLE n) == 0 && c.is (FBK_CH_STAT_POS_VALID n)
  let blind : Bool := match c.pair.shadow with
    | some b => (List.range 6).any (fun n => (match b.fbk[n]? with | some p => p.2 | none => false) && !readHere n)
    | none => false
  let cfg : Bool := match c.pair.shadow with
    | some b => b.cfgCrc != c.cfg.crc || b.copyCrcs != (c.copyCrc 0, c.copyCrc 1)
    | none => false
  ofBits [!c.r74, c.get VOTE_STAT_MODE == 2 || c.inForce 0x0403, c.get VOTE_STAT_MODE == 1, c.is SUP_STATUS_HOLD, c.is SUP_STATUS_WARN,
    sb && blind, sb && decide (10 ≤ c.pair.posDiff), sb && decide (10 ≤ c.pair.inDiff),
    sb && (c.is PAIR_STAT_MIRROR_STALE || c.sup.waiting.any (fun w => w.arg == 4096)), sb && cfg, c.gridOld 0 || c.gridOld 1]

/-- The worst result of the checks: 0 HEALTHY, 1 DEGRADED, 2 UNFIT; UNFIT too after a release by R338 (R355). -/
def Chip.healthOf (c : Chip) (checks : Nat) : Nat :=
  if c.pair.unfit ∨ bitAt checks 0 ∨ bitAt checks 1 ∨ bitAt checks 3 then 2
  else if bitsOf checks 2 1 = 1 ∨ bitsOf checks 4 6 ≠ 0 then 1 else 0

/-- The chip with its own health shown. -/
def Chip.healthShow (c : Chip) : Chip :=
  let k := c.healthChecks
  (c.set PAIR_HEALTH_CHECKS k).set PAIR_STAT_OWN_HEALTH (c.healthOf k)

/-- The comparisons of a standby with its active over one control cycle (Table 15-3). -/
def Chip.healthCycle (c : Chip) : Chip :=
  match (if c.isStandby then c.pair.shadow else none) with
  | none => ({ c with pair := { c.pair with posDiff := 0, inDiff := 0 } } : Chip).healthShow
  | some b =>
    let far := (List.range 6).any (fun n => match b.fbk[n]? with
      | some (p, true) => c.is (FBK_CH_STAT_POS_VALID n) && decide (2 * c.pitch n < (c.interpNm n - p).natAbs)
      | _ => false)
    let differ := b.sin != c.sinMajority ||
      Nat.land b.vote 0b1011 != Nat.land (c.rd VOTE_STAT_REG).toNat 0b1011
    ({ c with pair := { c.pair with posDiff := if far then min 10 (c.pair.posDiff + 1) else 0,
                                    inDiff := if differ then min 10 (c.pair.inDiff + 1) else 0 } } : Chip).healthShow

/-! ### The handover's refusals and results (R356, Table 15-6) -/

/-- The cause of Table 15-6 that stands against a handover; 0 for none. -/
def Chip.hoRefusal (c : Chip) : Nat :=
  if c.isActive = false ∨ ¬ c.is PAIR_STAT_LINK ∨ c.is PAIR_STAT_ALONE ∧ ¬ c.is WQM_STAT_RESYNC ∨ c.get PAIR_STAT_PEER_HEALTH = 3 then 1
  else if c.is WQM_STAT_RESYNC ∨ c.is PAIR_HO_STAT_BUSY ∨ c.pair.claimAt.isSome ∨ c.pair.taking then 3
  else if c.get PAIR_STAT_PEER_HEALTH ≠ 0 then 2
  else if [0, 1, 2, 3].any (fun n => c.get (MOT_AX_STAT_SEG n) == 9 || c.get (MOT_AX_STAT_SEG n) == 10) then 4
  else 0

/-- The end of a handover request: its result, and the completion of the console command that asked for it (R356, R427). -/
def Chip.hoFinish (c : Chip) (cause : Nat) : Chip :=
  let c := (c.put PAIR_HO_STAT_BUSY false).set PAIR_HO_STAT_RESULT cause
  match c.pair.hoEntry with
  | some slot =>
    ({ c with pair := { c.pair with hoSince := none, hoEntry := none } } : Chip).complete slot (if cause = 0 then 0 else 519 + cause) ""
  | none => { c with pair := { c.pair with hoSince := none } }

/-- A planned handover requested: HO_REQ sent, or refused with a cause (R356, R357). -/
def Chip.hoBegin (c : Chip) : Chip × Nat :=
  let r := c.hoRefusal
  if r ≠ 0 then ((if c.is PAIR_HO_STAT_BUSY then c else c.set PAIR_HO_STAT_RESULT r), r)
  else
    ((({ c with pair := { c.pair with hoSince := some c.now } } : Chip).put PAIR_HO_STAT_BUSY true).sendPair 5 [], 0)

/-- The handover that the active offers itself with AUTO_HO (R356). -/
def Chip.autoHandover (c : Chip) : Chip := if c.isActive ∧ c.is PAIR_CFG_AUTO_HO then c.hoBegin.1 else c

/-! ### Roles -/

/-- The chip in MONITOR mode on CAN0 and CAN1 with every pending request there cancelled (R268, R355). -/
def Chip.canStandBy (c : Chip) : Chip :=
  [0, 1].foldl (fun c k => ((c.txCancelAll k 32).set (CAN_CTRL_MODE k) 1).canTakeMode k) c

/-- The chip as standby: the lease timer runs from here, no state has been mirrored yet (R339, R343, R346). -/
def Chip.becomeStandby (c : Chip) : Chip :=
  let c := ((c.set PAIR_STAT_ROLE 2).put PAIR_STAT_MIRROR_STALE true).put PAIR_STAT_ALONE false
  let c : Chip := { c with pair := { c.pair with renewRx := some c.now, shadow := none, electSince := none, work := [] },
                           tsyn := { c.tsyn with gptp := {}, can := {}, suspend := none },
                           wqm := { c.wqm with resyncSince := none, entries := c.wqm.entries.map (fun e => { e with visible := false }) } }
  ((((c.put TSYN_STAT_Q_GPTP false).put TSYN_STAT_Q_CAN false).put WQM_STAT_RESYNC false).canStandBy).pairRoleNote

/-- The outputs of a chip that ceases to hold the lease: LEASE_OUT static, the gates off, every axis in a hard stop, the pins undriven
(R338, R355). -/
def Chip.dropLease (c : Chip) : Chip :=
  let c := ({ c with pins := { c.pins with leaseOut := false }, pair := { c.pair with claimAt := none, taking := false, firstOut := false,
                                                                                      steerHigh := 0 } } : Chip).put PAIR_STAT_HELD false
  let c := [0, 1, 2, 3].foldl (fun c n => (c.gatesOff n).hardStop n true) c
  let c := (List.range 64).foldl (fun c n => if c.armed n then c.disarm n else c) c
  let c : Chip := { c with wqm := { c.wqm with entries := c.wqm.entries.map (fun e => { e with visible := false, taken := false }) },
                           msg := { c.msg with exp := none, expLost := none } }
  (c.put LEDG_STAT_EXPORT false).votedPins

/-- The lease released (R338, R355): the standby role, UNFIT where R338 released it. -/
def Chip.release (c : Chip) (byR338 : Bool) : Chip :=
  let c := c.dropLease.becomeStandby
  { c with pair := { c.pair with unfit := c.pair.unfit || byR338 } }

/-- The pair-level safe state (R360): SAFE sent where asked, LEASE_OUT static, and the chip never claims. -/
def Chip.enterPairSafe (c : Chip) (send : Bool) : Chip :=
  if c.get PAIR_STAT_ROLE = 3 then c
  else
    let c := if send then c.sendPair 8 [] else c
    let held := c.is PAIR_STAT_HELD
    let c := c.dropLease
    let c := if held then c.canStandBy else c
    ((c.set PAIR_STAT_ROLE 3).put PAIR_STAT_ALONE false).pairRoleNote

/-- A split-brain refusal: F0305, SPLIT, and the wait of R358. -/
def Chip.splitWait (c : Chip) : Chip := (c.put PAIR_STAT_SPLIT true).raise 0x0305

/-- SPLIT cleared, and F0305 with it (Table 21-5). -/
def Chip.splitOver (c : Chip) : Chip := if c.is PAIR_STAT_SPLIT then (c.put PAIR_STAT_SPLIT false).endCondition 0x0305 else c

/-! ### The mirrored state (R346, Table 15-2) -/

/-- The registers whose words DOOR writes as it runs: slots 0 to 31 but their status, motion sets 0 to 31, profile 15, the trip registers. -/
def isProg (a : Nat) : Bool :=
  (within a (DOM_SLOT_CFG_REG 0) (DOM_SLOT_CFG_REG 32) && decide ((a - DOM_SLOT_CFG_REG 0) % 0x20 < 0x18)) ||
  within a (MOT_MS_TGT_REG 0) (MOT_MS_TGT_REG 32) || within a (MOT_PRF_VSTART_REG 15) (MOT_PRF_VSTART_REG 16) ||
  inRow a (MOT_AX_TRIP_REG 0) 4 0x100

/-- What the frame carries of an axis. -/
def Chip.mirAxis (c : Chip) (n : Nat) : MirAxis :=
  let a := c.ax n
  { xpos := c.xpos n, elec := c.get (MOT_AX_ELEC_ELEC n), elecOff := c.get (MOT_AX_ELEC_ELEC_OFF n), tgt := c.getI (MOT_AX_TGT_VALUE n),
    prof := a.prof, seg := c.get (MOT_AX_STAT_SEG n), dirNeg := c.is (MOT_AX_STAT_DIR n), v := a.v,
    revHold := (match a.stopAt with | some s => if c.get (MOT_AX_STAT_SEG n) = 8 then c.now - s else 0 | none => 0),
    steploss := c.is (MOT_AX_STAT_STEPLOSS_POSSIBLE n) }

/-- What a full resynchronisation sends (R375): every journal entry not completed, every window entry, every ledger record above the
standby's highest sequence. -/
def Chip.resyncStores (c : Chip) : List (Nat × List Byte) :=
  let high : Nat := match c.pair.peer with | some p => p.1.seq | none => 0
  (c.wqm.entries.filter (fun e => e.cstate == 0 && e.stored)).map (fun e => (jrnAddr e.slot, c.rdBytes (jrnAddr e.slot) 64)) ++
  c.wqm.windows.map (fun w => (winAddr w.set w.place, c.rdBytes (winAddr w.set w.place) 32)) ++
  (c.ledg.ring.filter (fun r => decide (high ≤ r.seq))).map (fun r => (ringAddr r.slot, c.rdBytes (ringAddr r.slot) 64))

/-- The MIRROR frame's state as it stands at a boundary (Table 15-2). -/
def Chip.mirBody (c : Chip) : MirBody :=
  let re := c.pair.needSnap && c.is WQM_STAT_RESYNC
  { snapshot := c.pair.needSnap, resync := re, door := (c.rd DOOR_STATUS_REG).toNat, doorElapsed := c.now - c.doorSince,
    doorCycle := c.get DOOR_CYCLE_COUNT, axes := [0, 1, 2, 3].map (fun n => c.mirAxis n),
    slots := ((List.range 64).filter (fun n => c.armed n || c.get (DOM_SLOT_STAT_FIRE_CNT n) != 0 || c.get (DOM_SLOT_STAT_MISSED n) != 0)).map
      (fun n => (n, c.armed n, c.slotTarget n, c.get (DOM_SLOT_STAT_FIRE_CNT n), c.get (DOM_SLOT_STAT_MISSED n))),
    progs := c.regs.filter (fun p => isProg p.1), d4 := (c.domVal 4).toNat,
    fbk := (List.range 6).map (fun n => (c.interpNm n, c.is (FBK_CH_STAT_POS_VALID n))),
    vote := (c.rd VOTE_STAT_REG).toNat, sin := c.sinMajority, stores := (if re then c.resyncStores else []) ++ c.pair.work,
    expSeq := c.ledg.expSeq, expPath := c.msg.exp.map (fun x => x.path), nextSeq := c.ledg.nextSeq,
    faults := c.flt.inForce.map (fun e => (e.code, e.sev)), tbVeh := c.tbVeh, y := c.getI TSYN_FREQ_Y, epochSet := c.is TSYN_STAT_SET,
    qual := c.get TSYN_STAT_QUAL, bound := c.timeBound,
    nos := c.nos.cams.map (fun x => match x.fn with | some f => (f, x.fidx) | none => (65536, 0)), cfgCrc := c.cfg.crc,
    copyCrcs := (c.copyCrc 0, c.copyCrc 1), cfg := c.cfg.mirror }

/-- The active's MIRROR frame of a control cycle (R346). -/
def Chip.mirrorSend (c : Chip) : Chip :=
  if c.isActive ∧ c.paired ∧ c.is PAIR_STAT_LINK then
    let c := c.emit (.mirror (.state c.mirBody))
    { c with pair := { c.pair with work := [], needSnap := false }, cfg := { c.cfg with mirror := none } }
  else c

/-- A standby's time from the mirror (R348): the epoch set once from the active's, then a slew to it with DONE 100 ns. -/
def Chip.mirTime (c : Chip) (tb : Nat) (b : MirBody) : Chip :=
  if b.epochSet = false then c
  else
    let own := c.ownTick (tb / 50000 * 50000)
    let show_ : Bool → Chip → Chip := fun slew c =>
      let bound := b.bound + 100
      (((c.set TSYN_STAT_SRC (b.qual % 4)).put TSYN_STAT_SLEWING slew).set TSYN_BOUND_BOUND (satNat 32 bound)).set TSYN_STAT_QUAL
        (b.qual % 4 + 4 * cond slew 1 0 + 16 * qualClass bound)
    if c.is TSYN_STAT_SET then
      let th := (b.tbVeh : Int) - c.vehAt own.toNat
      let k : Int := c.get TSYN_SERVO_SLEW * 1000
      let c := (c.setI TSYN_FREQF_YF (clampY b.y)).setSatI TSYN_THETA_THETA th
      show_ (decide (100 < th.natAbs)) (c.setY (if th.natAbs ≤ 100 then b.y else if 0 < th then b.y + k else b.y - k))
    else
      let v := (b.tbVeh : Int) + divNear (((c.now : Int) - own) * (10 ^ 11 + b.y)) (10 ^ 11)
      let th := v - c.tbVeh
      let c : Chip := { c with tbVeh := v.toNat, vehRest := 0 }
      let c := show_ false (((c.setI TSYN_FREQF_YF (clampY b.y)).setY b.y).put TSYN_STAT_SET true)
      (c.timeRecord 0 0xFF (b.qual % 4) 6 0 th).domRecheck 7

/-- A standby's journal, windows and ring made to hold nothing that the active does not (R375). -/
def Chip.resyncClear (c : Chip) (next : Nat) : Chip :=
  let c := c.wqm.entries.foldl (fun c e => c.wrBytes (jrnAddr e.slot) (List.replicate 64 0)) c
  let c := c.wqm.windows.foldl (fun c w => c.wrBytes (winAddr w.set w.place) (List.replicate 32 0)) c
  let late := c.ledg.ring.filter (fun r => decide (next ≤ r.seq))
  let c := late.foldl (fun c r => c.wrBytes (ringAddr r.slot) (List.replicate 64 0)) c
  { c with wqm := { c.wqm with entries := [], windows := [] },
           ledg := { c.ledg with ring := c.ledg.ring.filter (fun r => decide (r.seq < next)), nextSeq := next } }

/-- The acknowledgement of a standby (R349, R368, R379). -/
def Chip.mirrorAck (c : Chip) (tb : Nat) : Chip :=
  let idx := (c.get WQM_JRN_HEAD_SLOT + 4095) % 4096
  let c := c.emit (.mirror (.ack { index := some idx, applied := tb, health := c.get PAIR_STAT_OWN_HEALTH, checks := c.get PAIR_HEALTH_CHECKS,
                                   recs := c.ledg.holdback }))
  ({ c with ledg := { c.ledg with holdback := [] } } : Chip).set LEDG_HOLD_HELD 0

/-- A standby applies a MIRROR frame whole (R346): the shadow state, the stores, time, frame indices, the export state, DOOR's state (R163)
and a configuration. Where the energy gate is closed the stores wait (R369). -/
def Chip.mirrorApply (c : Chip) (h : PairHdr) (b : MirBody) : Chip :=
  let c := if b.resync then c.resyncClear b.nextSeq else c
  let gated := b.stores != [] && !c.gateOpen .accept
  let c := if gated then c.deferStore .accept 4096 b.stores else b.stores.foldl (fun c w => c.applyStore w) c
  let c : Chip := { c with
    pair := { c.pair with shadow := some { b with stores := [] }, mirAt := c.now, mirTb := h.tb }
    ledg := { c.ledg with expSeq := b.expSeq, nextSeq := max c.ledg.nextSeq b.nextSeq }
    nos := { c.nos with cams := (List.range 2).map (fun k =>
      let x := (c.nos.cams[k]?).getD {}
      { x with peer := match b.nos[k]? with | some p => if p.1 < 65536 then some p else none | none => none }) }
    cfg := { c.cfg with fromMirror := match b.cfg with | some l => some l | none => c.cfg.fromMirror } }
  let c := if b.snapshot then c.put PAIR_STAT_MIRROR_STALE false else c
  let c := ((c.set DOOR_STATUS_STATE (bitsOf b.door 0 4)).set DOOR_STATUS_CAUSE (bitsOf b.door 4 4)).set64 DOOR_STATE_TS_LO_TS
    DOOR_STATE_TS_HI_TS (c.now - b.doorElapsed)
  let c := (c.mirTime h.tb b).ledgShow
  (c.healthShow).mirrorAck h.tb

/-- A record that arose on the standby, sequenced by the active (R379). -/
def Chip.takeRec (c : Chip) (r : LRec) : Chip :=
  let n := c.ledg.nextSeq
  let c := ({ c with ledg := { c.ledg with nextSeq := (n + 1) % 2 ^ 48 } } : Chip).set64 LEDG_SEQ_LO_SEQ LEDG_SEQ_HI_SEQ ((n + 1) % 2 ^ 48)
  if c.ledg.queue.length < 256 then { c with ledg := { c.ledg with queue := c.ledg.queue ++ [{ r with seq := n }] } }
  else (({ c with ledg := { c.ledg with lost := satNat 32 (c.ledg.lost + 1), cellDirty := true } } : Chip).incSat LEDG_LOST_N).raise 0x0E07

/-- The standby's health as the active learns it; anything but HEALTHY aborts a handover (R349, R357). -/
def Chip.peerHealth (c : Chip) (health checks : Nat) : Chip :=
  let was := c.get PAIR_STAT_PEER_HEALTH
  let c := (c.set PAIR_STAT_PEER_HEALTH health).set PAIR_PEER_HEALTH_CHECKS checks
  let c := if was = health then c else c.pairNote
  if c.is PAIR_HO_STAT_BUSY ∧ health ≠ 0 then c.hoFinish 2 else c

/-- The active takes a standby's acknowledgement: confirmations in order, completed entries freed, records sequenced, and a snapshot for a
standby whose mirror is stale (R346, R365, R368, R379). -/
def Chip.mirrorAcked (c : Chip) (a : MirAck) : Chip :=
  let c := match a.index with | some k => c.confirmUpTo k | none => c
  let c := a.recs.foldl (fun c r => c.takeRec r) (c.freeDone a.applied)
  let c := if bitAt a.checks 8 then { c with pair := { c.pair with needSnap := true } } else c
  c.peerHealth a.health a.checks

/-! ### Start of resynchronisation (R375) -/

/-- The active begins to bring a standby up to date from the beginning. -/
def Chip.resyncBegin (c : Chip) : Chip :=
  ({ c with pair := { c.pair with needSnap := true, work := [] }, wqm := { c.wqm with resyncSince := some c.now } } : Chip).put
    WQM_STAT_RESYNC true

/-- The end of a resynchronisation: ALONE clears, and what was accepted unmirrored is mirrored now (R345, R375). -/
def Chip.resyncEnd (c : Chip) : Chip :=
  if c.isActive ∧ c.is WQM_STAT_RESYNC ∧ c.is PAIR_STAT_LINK ∧ c.pair.needSnap = false then
    let c : Chip := { c with wqm := { c.wqm with resyncSince := none, resyncBreaks := 0,
                                                 entries := c.wqm.entries.map (fun e => { e with doneMirrored := true }) } }
    let c := (c.put WQM_STAT_RESYNC false).put PAIR_STAT_ALONE false
    c.wqmShow 0
  else c

/-- An active with no usable standby (R345). -/
def Chip.goAlone (c : Chip) : Chip := if c.is PAIR_STAT_ALONE then c else (c.put PAIR_STAT_ALONE true).raise 0x0303

/-! ### Takeover (R351, R352, R354, R139, R374) -/

/-- An axis as the mirror shows it (R139). -/
def Chip.takeAxis (c : Chip) (n : Nat) (m : MirAxis) : Chip :=
  let u := c.unit n
  let c := ((((c.setI (MOT_AX_XPOS_VALUE n) m.xpos).set (MOT_AX_ELEC_ELEC n) m.elec).set (MOT_AX_ELEC_ELEC_OFF n) m.elecOff).setI
    (MOT_AX_TGT_VALUE n) m.tgt).set (MOT_AX_STAT_SEG n) m.seg
  let c := ((c.put (MOT_AX_STAT_DIR n) m.dirNeg).put (MOT_AX_STAT_STEPLOSS_POSSIBLE n) m.steploss).setI (MOT_AX_POS_UM_VALUE n)
    (xposToUm m.xpos (c.get (MOT_AX_LEAD_LEAD_NM n)))
  let c := c.setAx n (fun a => { a with v := m.v, acc := 0, pos := m.xpos * u, prof := m.prof,
                                        stopAt := if m.seg = 8 then some (c.now - m.revHold) else a.stopAt })
  c.showSpeed n

/-- The re-reference of a moving axis in flight (R139), or HALTED where its channel's position is not valid. -/
def Chip.flightReref (c : Chip) (n : Nat) : Chip :=
  if (c.ax n).v = 0 then c
  else if c.is (FBK_CH_STAT_POS_VALID n) then
    let x := umToXpos (c.getI (FBK_CH_POS_POS_UM n)) (c.get (MOT_AX_LEAD_LEAD_NM n))
    let e := (x + c.get (MOT_AX_ELEC_ELEC_OFF n)) % 1024
    let s := (c.getI (FBK_CH_SPEED_SPEED_UM n)).natAbs
    let v := if s = 0 then (c.ax n).prof.vStop * 1000 else s * 1000
    let u := c.unit n
    let c := ((c.setI (MOT_AX_XPOS_VALUE n) x).set (MOT_AX_ELEC_ELEC n) e.toNat).setI (MOT_AX_POS_UM_VALUE n)
      (xposToUm x (c.get (MOT_AX_LEAD_LEAD_NM n)))
    let c := (c.setAx n (fun a => { a with v := v, pos := x * u })).showSpeed n
    ((c.put (MOT_AX_STAT_STEPLOSS_POSSIBLE n) false).put (MOT_AX_STAT_REFD n) true).showPhases n
  else (c.standIn n 10).put (MOT_AX_STAT_STEPLOSS_POSSIBLE n) true

/-- A slot as the mirror shows it. -/
def Chip.takeSlotState (c : Chip) (b : MirBody) (n : Nat) : Chip :=
  match b.slots.find? (fun x => x.1 == n) with
  | none => if c.armed n then c.disarm n else c
  | some (_, armed, target, cnt, missed) =>
    let c := (c.set (DOM_SLOT_STAT_FIRE_CNT n) cnt).set (DOM_SLOT_STAT_MISSED n) missed
    if armed then
      let c := (c.put (DOM_SLOT_STAT_ARMED n) true).setTarget n target
      if c.domValid (c.slotDom n) then c else { c with dom := { c.dom with waiting := c.dom.waiting ++ [n] } }
    else if c.armed n then c.disarm n else c

/-- The shadow state taken as the state in force (step 5 of Table 15-4). What a door cycle had measured is not mirrored and starts anew. -/
def Chip.takeShadow (c : Chip) (b : MirBody) : Chip :=
  let keep := (c.rd DOOR_STATUS_REG).toNat
  let word := [20, 21, 22].foldl (fun w k => setBit w k (bitAt keep k)) b.door
  let c := (c.wr DOOR_STATUS_REG (BitVec.ofNat 32 word)).set64 DOOR_STATE_TS_LO_TS DOOR_STATE_TS_HI_TS (c.pair.mirAt - b.doorElapsed)
  let c := c.set DOOR_CYCLE_COUNT b.doorCycle
  let busy := c.doorState != 0 && c.doorState != 10
  let c : Chip := { c with door := { inCycle := busy, start := c.now } }
  let c : Chip := { c with regs := (b.progs.foldl (fun r p => swrite resetWord r p.1 p.2) (c.regs.filter (fun p => !isProg p.1))) }
  let c := [0, 1, 2, 3].foldl (fun c n => match b.axes[n]? with | some m => c.takeAxis n m | none => c) c
  let c := c.domSet 4 b.d4
  (List.range 64).foldl (fun c n => c.takeSlotState b n) c

/-- The mirrored journal taken over (R374). -/
def Chip.takeJournal (c : Chip) : Chip :=
  let es := c.wqm.entries.foldl (fun l e => insertEntry { e with visible := true, mirrored := true } l) []
  let c : Chip := { c with wqm := { c.wqm with entries := es } }
  (List.range 128).foldl (fun c q => c.wqmShow q) c

/-- A cold takeover (R352). -/
def Chip.coldTake (c : Chip) : Chip :=
  let c := [0, 1, 2, 3].foldl (fun c n =>
    let c := if (c.ax n).v ≠ 0 then c.standIn n 10 else c
    c.put (MOT_AX_STAT_STEPLOSS_POSSIBLE n) true) c
  (c.doorEnter 11 5).raise 0x030A

/-- Time references on becoming active: holdover until one qualifies (R348). -/
def Chip.timeTake (c : Chip) : Chip :=
  if c.is TSYN_STAT_SET then
    let b := c.get TSYN_BOUND_BOUND
    let c : Chip := { c with tsyn := { c.tsyn with hoAt := c.now, hoBound := b, lastMeas := none, via := 0xFF, aborted := false } }
    (((c.set TSYN_STAT_SRC 1).put TSYN_STAT_SLEWING false).setY (c.getI TSYN_FREQF_YF)).timeShow
  else c

/-- A claim (R342): LEASE_OUT starts and the lease is held, with no output yet. Kinds: 0 unplanned, 1 planned, 3 by the election; an
unplanned or planned one without a current mirror is cold (R352). -/
def Chip.claim (c : Chip) (kind : Nat) : Chip :=
  let shadow := c.pair.shadow
  let cold := kind != 3 && (c.is PAIR_STAT_MIRROR_STALE || shadow.isNone)
  let c : Chip := { c with
    pins := { c.pins with leaseOut := true }
    pair := { c.pair with claimAt := some c.now, claimKind := if cold then 2 else kind, taking := true, firstOut := false, steerHigh := 0,
                          triedAt := some c.now, electSince := none, renewTx := c.now, okCycles := 2, needSnap := true, work := [] } }
  let c := (((c.put PAIR_STAT_HELD true).set PAIR_STAT_ROLE 1).put PAIR_STAT_MIRROR_STALE false).pairRoleNote
  let c := [0, 1].foldl (fun c k => (c.set (CAN_CTRL_MODE k) 0).canTakeMode k) c
  let c := if c.is PAIR_STAT_LINK ∧ c.paired then (if kind = 1 then c.resyncBegin else c.goAlone) else c.goAlone
  if kind = 3 then c
  else
    let c := match shadow with | some b => c.takeShadow b | none => c
    let c := (if cold then c.coldTake else c).timeTake
    let c := c.takeJournal
    if kind = 1 then c else c.raise 0x030B

/-- The microseconds from the arrival of the last MIRROR frame to now (PAIR_LAST_GAP). -/
def Chip.gapUs (c : Chip) : Nat := satNat 16 ((c.now - c.pair.mirAt) / 1000)

/-- The first output cycle of a new active (step 7 of Table 15-4): moving axes re-referenced in flight, every armed slot re-checked, the
pulse hold, the announcements of R318 and R333, the SWITCHOVER record and the counts. -/
def Chip.firstOutput (c : Chip) : Chip :=
  let kind := c.pair.claimKind
  let c := ({ c with pair := { c.pair with claimAt := none, firstOut := true, pulseHold := 3 } } : Chip).splitOver
  let c := if c.get VM_DOOR_IP_VALUE ≠ 0 ∧ c.hostUp then c.emit (.arp 2 0xFFFFFFFFFFFF (c.get VM_DOOR_IP_VALUE)) else c
  if kind = 3 then { c with pair := { c.pair with pulseHold := 0 } }
  else
    let c := [0, 1, 2, 3].foldl (fun c n => c.flightReref n) c
    let c := [0, 1, 2, 3, 4, 5, 6, 7].foldl (fun c d => c.domRecheck d) c
    let c := match (match c.pair.shadow with | some b => b.expPath | none => none) with | some p => c.sendEnd p 4 | none => c
    let g := c.gapUs
    let taken := (c.wqm.entries.filter (fun e => e.cstate == 0)).length
    let high : Nat := match c.pair.shadow with | some b => b.nextSeq - 1 | none => 0
    let c := c.record 6 [(20, leBytes 1 kind), (21, leBytes 1 (c.get PAIR_STAT_SIDE)), (22, leBytes 2 g),
      (24, leBytes 4 (c.get PAIR_EPOCH_EPOCH)), (28, leBytes 6 high), (34, leBytes 2 taken), (36, leBytes 2 (c.get PAIR_PEER_HEALTH_CHECKS))]
    (((c.set PAIR_LAST_GAP_GAP_US g).put PAIR_LAST_GAP_PLANNED (decide (kind = 1))).put PAIR_LAST_GAP_COLD
      (decide (kind = 2))).incSat PAIR_CNT_TAKEOVERS

/-- The steering at a boundary (R342): the claim confirmed by STEER_FB low brings the first output cycle, and the cycle after it ends the
taking over; an active that reads STEER_FB high in two cycles raises F0307 and releases. -/
def Chip.steering (c : Chip) (high : Bool) : Chip :=
  let c := ({ c with pins := { c.pins with steerFb := high } } : Chip).put PAIR_STAT_STEER (!high)
  if c.isActive = false then c
  else if c.pair.claimAt.isSome then (if high then c else c.firstOutput)
  else
    let c : Chip := if c.pair.firstOut then { c with pair := { c.pair with firstOut := false, taking := false } } else c
    let n := if high then c.pair.steerHigh + 1 else 0
    let c : Chip := { c with pair := { c.pair with steerHigh := min n 2 } }
    if 2 ≤ n then (c.raise 0x0307).release false else c

/-! ### The start-up election (R343, R344) -/

/-- The first 64 bytes of the running APP's container (Table 20-2). -/
def Chip.appHead (c : Chip) : List Byte := c.norBytes (slotOfs 1 (c.bootSel 1 % 2)) 64

/-- This chip's HELLO (R343, R344, R469). -/
def Chip.helloInfo (c : Chip) : HelloInfo :=
  { candidate := c.get PAIR_STAT_ROLE == 0, meets := c.r74,
    commit := c.wqm.entries.foldl (fun m e => max m e.tAcc) 0, serial := c.fuses.serial, seq := c.ledg.nextSeq,
    proto := leAt c.appHead 24 2, protoMin := leAt c.appHead 26 2, echo := c.pair.helloRx.map (fun p => (p.1, c.now - p.2)) }

/-- Whether this chip wins rule 2 against the peer's last HELLO; `peerSide` is the peer's SIDE (R343, R344). -/
def Chip.winsElection (c : Chip) (i : HelloInfo) (peerSide : Bool) : Bool :=
  let me := c.helloInfo
  if me.meets != i.meets then me.meets
  else if me.commit ≠ i.commit then decide (i.commit < me.commit)
  else if c.is PAIR_STAT_SIDE = peerSide then decide (me.serial < i.serial)
  else !c.is PAIR_STAT_SIDE

/-- Whether HELLO has shown both chips on one side. -/
def Chip.sameSide (c : Chip) : Bool := match c.pair.peer with | some (_, s) => s == c.is PAIR_STAT_SIDE | none => false

/-- ELECTION (R343, R344): the rules in order; a chip that does not meet R74 apart from the lease never claims. -/
def Chip.elect (c : Chip) : Chip :=
  match c.pair.electSince with
  | none => c
  | some since =>
    if c.get PAIR_STAT_ROLE ≠ 0 then c
    else if c.paired = false then (if c.r74 then c.claim 3 else c)
    else if c.is PAIR_STAT_LEASE_IN then c.becomeStandby
    else
      let wait := c.get PAIR_CFG_ELECT_WAIT * 10000000
      let idle := c.now - max since c.pair.idleSince
      let cand : Option (HelloInfo × Bool) := if c.is PAIR_STAT_LINK then c.pair.peer.filter (fun p => p.1.candidate) else none
      match cand with
      | some (i, side) => if c.winsElection i side then (if c.r74 then c.claim 3 else c) else c.becomeStandby
      | none =>
        let due : Bool :=
          if c.sameSide then decide (wait + 100000000 + 1000000 * (c.fuses.serial % 10) ≤ idle)
          else !c.is PAIR_STAT_LINK && decide (wait + (if c.is PAIR_STAT_SIDE then 100000000 else 0) ≤ c.now - since)
        if due ∧ c.r74 then c.claim 3 else c

/-! ### Frames and events -/

/-- RENEW (R337, R339, R359). -/
def Chip.renew (c : Chip) (h : PairHdr) : Chip :=
  let (c, ok) := c.pairFrame h
  if ok = false then c
  else if c.is PAIR_STAT_HELD then c.raise 0x0309
  else if c.isStandby ∧ (c.get PAIR_PEER_EPOCH_EPOCH = 0 ∨
      serialNewer 32 h.epoch (c.get PAIR_PEER_EPOCH_EPOCH)) then
    let c := (c.set PAIR_PEER_EPOCH_EPOCH h.epoch).set PAIR_EPOCH_EPOCH h.epoch
    ({ c with pair := { c.pair with renewRx := some c.now, epochAt := c.now } } : Chip).splitOver
  else c

/-- HEALTH (R349). -/
def Chip.healthFrame (c : Chip) (h : PairHdr) (state checks : Nat) : Chip :=
  let (c, ok) := c.pairFrame h
  if ok ∧ c.isActive then c.peerHealth (min state 2) checks else c

/-- The pair offset from a HELLO that echoes one of this chip's own (R336). -/
def Chip.pairOffset (c : Chip) (h : PairHdr) (i : HelloInfo) : Chip :=
  match i.echo with
  | none => c
  | some (stamp, held) =>
    let rtt : Nat := c.now - stamp - held
    c.set64I PAIR_OFFSET_LO_OFS PAIR_OFFSET_HI_OFS ((h.tb : Int) + (rtt / 2 : Nat) - c.now)

/-- HELLO (R336, R343 to R345). -/
def Chip.hello (c : Chip) (h : PairHdr) (i : HelloInfo) : Chip :=
  let (c, ok) := c.pairFrame h
  if ok = false then c
  else
    let was := c.sameSide
    let c := c.pairOffset h i
    let c : Chip := { c with pair := { c.pair with peer := some (i, h.side), helloRx := some (h.tb, c.now) } }
    let c := if c.sameSide ∧ was = false then c.raise 0x0306 else c
    if c.get PAIR_STAT_ROLE = 0 then c.elect
    else if c.isActive ∧ c.is PAIR_STAT_ALONE ∧ ¬ c.is WQM_STAT_RESYNC ∧ i.candidate = false ∧ h.holds = false then c.resyncBegin
    else c

/-- HO_REQ at the standby (R357): it checks itself and answers, or reports that it is not HEALTHY. -/
def Chip.hoReqFrame (c : Chip) (h : PairHdr) : Chip :=
  let (c, ok) := c.pairFrame h
  if ok = false ∨ c.isStandby = false then c
  else
    let c := c.healthShow
    if c.get PAIR_STAT_OWN_HEALTH = 0 then c.sendPair 6 []
    else c.sendPair 3 (leBytes 1 (c.get PAIR_STAT_OWN_HEALTH) ++ leBytes 2 (c.get PAIR_HEALTH_CHECKS))

/-- HO_ACK at the active (step 3 of Table 15-7): the last MIRROR frame, TRANSFER, and the release. -/
def Chip.hoAckFrame (c : Chip) (h : PairHdr) : Chip :=
  let (c, ok) := c.pairFrame h
  if ok = false ∨ ¬ c.is PAIR_HO_STAT_BUSY then c
  else if c.get PAIR_STAT_PEER_HEALTH ≠ 0 then c.hoFinish 2
  else
    let c := ((c.incSat PAIR_CNT_HANDOVERS).hoFinish 0).mirrorSend
    (c.sendPair 7 []).release false

/-- TRANSFER at the standby: it claims at once (step 4 of Table 15-7). -/
def Chip.transferFrame (c : Chip) (h : PairHdr) : Chip :=
  let (c, ok) := c.pairFrame h
  if ok ∧ c.isStandby ∧ c.get PAIR_STAT_OWN_HEALTH ≠ 2 then c.claim 1 else c

/-- SAFE (R360). -/
def Chip.safeFrame (c : Chip) (h : PairHdr) : Chip :=
  let (c, ok) := c.pairFrame h
  if ok then c.enterPairSafe false else c

/-- LEASE_RENEWAL (R338): RENEW, or the release where the conditions failed over the two cycles. -/
def Chip.leaseRenewal (c : Chip) : Chip :=
  if c.is PAIR_STAT_HELD ∧ 100000 ≤ c.now - c.pair.renewTx then
    if 2 ≤ c.pair.okCycles ∧ ¬ c.flt.inForce.any (fun e => e.sev == 5) then
      ({ c with pair := { c.pair with renewTx := c.now } } : Chip).sendPair 1 []
    else c.release true
  else c

/-- LEASE_RELEASE (R338): 300 us without a renewal. -/
def Chip.leaseRelease (c : Chip) : Chip :=
  if c.is PAIR_STAT_HELD ∧ 300000 ≤ c.now - c.pair.renewTx then c.release true else c

/-- Whether the lease has expired at a standby (R339). -/
def Chip.leaseOver (c : Chip) : Bool :=
  c.isStandby && (match c.pair.renewRx with | some r => decide (400000 ≤ c.now - r) | none => false)

/-- LEASE_EXPIRY (R351, R358). -/
def Chip.leaseExpiry (c : Chip) : Chip :=
  if c.leaseOver = false ∨ c.is PAIR_STAT_SPLIT then c
  else if c.is PAIR_STAT_LEASE_IN then c.splitWait
  else if c.get PAIR_STAT_OWN_HEALTH ≤ 1 then c.claim 0
  else c

/-- SPLIT_RETRY (R358). -/
def Chip.splitRetry (c : Chip) : Chip :=
  let rested : Bool := match c.pair.triedAt with | some a => decide (10000000 ≤ c.now - a) | none => true
  if c.leaseOver ∧ c.is PAIR_STAT_SPLIT ∧ ¬ c.is PAIR_STAT_LEASE_IN ∧ 1000000 ≤ c.now - c.pair.idleSince ∧ rested ∧
      c.get PAIR_STAT_OWN_HEALTH ≤ 1 then c.claim 0
  else c

/-- LEASE_IN_TOGGLING (R340). -/
def Chip.leaseInOn (c : Chip) : Chip := c.put PAIR_STAT_LEASE_IN true

/-- LEASE_IN_STOPPED (R340). -/
def Chip.leaseInOff (c : Chip) : Chip :=
  if c.is PAIR_STAT_LEASE_IN then
    ({ c with pair := { c.pair with idleSince := c.now } } : Chip).put PAIR_STAT_LEASE_IN false
  else c

/-- STEER_TIMEOUT (R342): STEER_FB still high when T_STEER has run after a claim. -/
def Chip.steerTimeout (c : Chip) : Chip :=
  match c.pair.claimAt with
  | some a =>
    if c.get PAIR_CFG_T_STEER * 1000 ≤ c.now - a ∧ c.pins.steerFb then (c.release false).splitWait else c
  | none => c

/-- PAIR_LINK_DOWN (R335, R345, R375). -/
def Chip.pairLinkDown (c : Chip) : Chip :=
  if c.is PAIR_STAT_LINK ∧ 200000 ≤ c.now - c.pair.frameAt then
    let c := (((c.put PAIR_STAT_LINK false).set PAIR_STAT_PEER_HEALTH 3).raise 0x0301).pairNote
    let c : Chip := { c with pair := { c.pair with work := [] } }
    if c.isActive then
      let broken := c.is WQM_STAT_RESYNC
      let c := (c.put WQM_STAT_RESYNC false).goAlone
      if broken then
        let n := c.wqm.resyncBreaks + 1
        let c : Chip := { c with wqm := { c.wqm with resyncSince := none, resyncBreaks := if n = 3 then 0 else n } }
        if n = 3 then c.raise 0x0E08 else c
      else c
    else c
  else c

/-- The payload of a HELLO (log 72). -/
def Chip.helloBytes (c : Chip) : List Byte :=
  let i := c.helloInfo
  let e := i.echo.getD (0, 0)
  leBytes 1 (cond i.candidate 1 0 + 2 * cond i.meets 1 0 + 4 * cond i.echo.isSome 1 0) ++ leBytes 8 i.commit ++ leBytes 8 i.serial ++
    leBytes 6 i.seq ++ leBytes 2 i.proto ++ leBytes 2 i.protoMin ++ leBytes 8 e.1 ++ leBytes 8 e.2

/-- HELLO_SEND (R336); a chip in PAIR_SAFE counts as absent (R360). -/
def Chip.helloSend (c : Chip) : Chip := if c.get PAIR_STAT_ROLE = 3 then c else c.sendPair 4 c.helloBytes

/-- HEALTH_SEND (R349). -/
def Chip.healthSend (c : Chip) : Chip :=
  if c.isStandby then
    let c := c.healthShow
    c.sendPair 3 (leBytes 1 (c.get PAIR_STAT_OWN_HEALTH) ++ leBytes 2 (c.get PAIR_HEALTH_CHECKS))
  else c

/-- PAIR_HEALTH (R350): a standby's message on CAN2. -/
def Chip.pairHealthMsg (c : Chip) : Chip :=
  if c.isStandby ∧ c.is (CAN_CTRL_EN 2) then
    let n := c.pair.alive
    let b := leBytes 1 (c.get PAIR_STAT_OWN_HEALTH + 4 * c.get PAIR_STAT_SIDE) ++ leBytes 2 (c.get PAIR_HEALTH_CHECKS) ++ leBytes 1 n ++
      leBytes 4 (c.get PAIR_EPOCH_EPOCH)
    ({ c with pair := { c.pair with alive := (n + 1) % 256 } } : Chip).sendCan 2 0xC0 b
  else c

/-- MIRROR_MISSED (R346): no frame a cycle and the 20 us of its queueing after the last, from an active that still holds the lease. -/
def Chip.mirrorMissed (c : Chip) : Chip :=
  if c.isStandby ∧ c.is PAIR_STAT_LEASE_IN ∧ 70000 ≤ c.now - c.pair.mirAt then
    ((c.incSat PAIR_LINK_CNT_MISSED).put PAIR_STAT_MIRROR_STALE true).raise 0x0304
  else c

/-- HO_ACK_TIMEOUT (R356): no HO_ACK within 1 ms. -/
def Chip.hoAckLate (c : Chip) : Chip :=
  match c.pair.hoSince with
  | some a => if c.is PAIR_HO_STAT_BUSY ∧ 1000000 ≤ c.now - a then c.hoFinish 5 else c
  | none => c

/-- MIRROR_CONFIRM_TIMEOUT (R370): no confirmation 1.8 ms after the command reached its stack. -/
def Chip.confirmLate (c : Chip) (slot : Nat) : Chip :=
  match c.entryAt slot with
  | some e =>
    if e.stored ∧ e.visible = false ∧ c.isActive ∧ 1800000 ≤ c.now - e.tArr then (c.voidEntry slot 2 503).raise 0x0E02 else c
  | none => c

/-- What the boundary notes for the renewal (R338): two channels in time, DOOR's cycle done, the safety clock running, no S5. -/
def Chip.leaseCycle (c : Chip) (late : Nat) : Chip :=
  let lates := ((List.range 3).filter (fun k => bitAt late k)).length
  let ok := decide (lates ≤ 1) && c.door.ran && c.is SYS_CLK_STAT_SAFE_CLK_OK && !c.flt.inForce.any (fun e => e.sev == 5)
  { c with pair := { c.pair with okCycles := if ok then min 2 (c.pair.okCycles + 1) else 0 }, door := { c.door with ran := false } }

end Sys2Proof.Machine
end

