-- ==== Sys2Proof/Machine/Update.lean ====
section
/-! DEFINITION. Image slots: their records, download, verification, activation's checks, the loader, confirmation, revert, and the service
image of the boot ROM (spec/20 R451 to R473). Slots are numbered i = 2 x image + slot; functions and their resets follow in Frst. -/

namespace Sys2Proof.Machine

/-! ### Slots and their records (R455; log 80) -/

/-- The state of slot `i` (Table 20-3). -/
def Chip.slotState (c : Chip) (i : Nat) : Nat := c.get (UPD_SLOT_STAT_STATE i)

/-- The other slot of the same image. -/
def otherSlot (i : Nat) : Nat := 2 * (i / 2) + (1 - i % 2)

/-- The NOR offset of slot `i`. -/
def slotAt (i : Nat) : Nat := slotOfs (i / 2) (i % 2)

/-- The address of the record that holds write count `n` of slot `i`. -/
def slotRecAddr (i n : Nat) : Nat := 0x102E0100 + 64 * i + 32 * (n % 2)

/-- The seconds of service in TRIAL up to now (R467). -/
def Chip.trialSecs (c : Chip) : Nat :=
  c.upd.secs + (match c.upd.since with | some a => (c.now - a) / 1000000000 | none => 0)

/-- The 32 bytes of a slot's record with write count `n`; VERIFYING is held in SRAM only and reads LOADED. -/
def Chip.slotRecBytes (c : Chip) (i n : Nat) : List Byte :=
  let st := c.slotState i
  let b := leBytes 4 n ++ leBytes 1 (if st = 3 then 2 else st) ++ leBytes 1 0 ++ leBytes 2 (c.get (UPD_SLOT_STAT_MARK i)) ++
    leBytes 4 (lookupD c.upd.size i 0) ++ leBytes 4 (c.get (UPD_SLOT_VER_VERSION i)) ++
    leBytes 2 (if st = 6 then c.upd.secs else 0) ++ List.replicate 10 0
  b ++ leBytes 4 (crc32 b)

/-- The chip with the record of slot `i` stored; under the energy gate the store waits (R52, R455). -/
def Chip.slotStore (c : Chip) (i : Nat) : Chip :=
  let n := lookupD c.upd.count i 0 + 1
  let b := c.slotRecBytes i n
  let c : Chip := { c with upd := { c.upd with count := insertD c.upd.count i n } }
  if c.gateOpen .mark then c.mramOwn (slotRecAddr i n) b else c.deferStore .mark (8192 + i) [(slotRecAddr i n, b)]

/-- Images in PENDING or TRIAL, as bits (UPD_TRIAL). -/
def Chip.trialImages (c : Chip) : Nat :=
  ofBits ((List.range 9).map (fun k => [2 * k, 2 * k + 1].any (fun i => c.slotState i == 5 || c.slotState i == 6)))

/-- The slots in TRIAL. -/
def Chip.trialSlots (c : Chip) : List Nat := (List.range 18).filter (fun i => c.slotState i == 6)

/-- The chip with the registers of UPD that follow from slots and cells. -/
def Chip.updShow (c : Chip) : Chip :=
  let sels := match c.bootCur with | some x => x.2.2 | none => List.replicate 9 0
  let trial := c.trialSlots
  let boots := match trial with | i :: _ => (sels[i / 2]?).getD 0 / 16 | [] => 0
  let c := ((c.set UPD_TRIAL_IMAGES c.trialImages).set UPD_TRIAL_TRIAL_BOOTS boots).set UPD_TRIAL_SECONDS (satNat 10 c.trialSecs)
  let c := (c.put UPD_STAT_TRIAL (trial != [])).put UPD_STAT_BUSY (c.upd.verify.isSome || c.upd.act.isSome)
  let c := c.put UPD_STAT_PENDING_RST ([0, 1, 2, 3].any (fun i => c.slotState i == 5) || c.inForce 0x0F05)
  (c.set UPD_PTR_SEL (ofBits (sels.map (fun s => bitAt s 0)))).set UPD_PTR_SEQ_SEQ (match c.bootCur with | some x => x.2.1 | none => 0)

/-- The chip with slot `i` in a state: its version shown, its record stored. -/
def Chip.setSlot (c : Chip) (i st : Nat) : Chip :=
  let c := c.set (UPD_SLOT_STAT_STATE i) st
  let c := c.set (UPD_SLOT_VER_VERSION i) (if st < 2 then 0 else leAt (c.norBytes (slotAt i + 12) 4) 0 4)
  (c.slotStore i).updShow

/-- The chip with a boot-pointer cell stored that changes the SEL bytes (R462). -/
def Chip.cellStore (c : Chip) (f : List Nat → List Nat) : Chip :=
  let w := c.bootNext f
  (c.mramOwn w.1 w.2).updShow

/-- The SEL bytes with image `k`'s byte replaced. -/
def setSel (k v : Nat) (l : List Nat) : List Nat := modAt l k (fun _ => v)

/-- The names of the images (R430). -/
def imgName (k : Nat) : String :=
  (["SAFE", "APP", "MOTU", "NOSF", "TENT.2", "CANS", "ETHS", "CONS", "TENT.3", "SVC"][k]?).getD ""

/-- The names of the events of an UPDATE record (Table 16-10; log 81). -/
def evName (n : Nat) : String :=
  (["", "STARTED", "LOADED", "VERIFIED", "ACTIVATED", "TRIAL_BOOT", "CONFIRMED", "REVERTED", "REFUSED", "RESET"][n]?).getD ""

/-- An UPDATE record of an image event, with its notification (Table 16-10, Table 17-4). -/
def Chip.updEvent (c : Chip) (i ev ecode : Nat) : Chip :=
  let k := if i / 2 = 8 then 4 else i / 2
  let c := c.record 8 [(20, leBytes 1 k), (21, leBytes 1 (i % 2)), (22, leBytes 1 ev), (24, leBytes 4 (leAt (c.norBytes (slotAt i + 12) 4) 0 4)),
    (28, leBytes 4 (c.get (UPD_SLOT_VER_VERSION (otherSlot i)))), (32, leBytes 2 ecode)]
  c.notify .update ("update img=" ++ imgName (i / 2) ++ " slot=" ++ (if i % 2 = 0 then "A" else "B") ++ " ev=" ++ evName ev)

/-! ### Checks that every command makes -/

/-- An image or slot that is unknown or absent (E601, R451). -/
def Chip.slotUnknown (c : Chip) (img slot : Nat) : Bool := decide (8 < img) || decide (1 < slot) || !c.slotPresent img slot

/-- A slot that a download or an abort must not touch: E606 in VERIFYING, E602 by R456, 0 where it may. -/
def Chip.slotHeld (c : Chip) (i : Nat) : Nat :=
  let st := c.slotState i
  let o := c.slotState (otherSlot i)
  if st = 3 then 606
  else if st = 5 ∨ st = 6 ∨ st = 7 ∨ (st = 8 ∧ (o = 5 ∨ o = 6)) then 602
  else 0

/-! ### Download (R457 to R459) -/

/-- UPDATE_BEGIN: LOADING with MARK 0 and SIZE (R457). -/
def Chip.updBegin (c : Chip) (img slot size : Nat) : Chip × Nat :=
  let i := 2 * img + slot
  if 8 < img ∨ 1 < slot then (c, 601)
  else if c.fuses.partN ∧ (img = 3 ∨ img = 4 ∨ img = 8) then (c, 203)
  else if c.slotUnknown img slot then (c, 601)
  else if c.slotHeld i ≠ 0 then (c, c.slotHeld i)
  else if size < 200 ∨ imgMax img < size then (c, 603)
  else
    let c : Chip := { c with upd := { c.upd with cur := some i, block := [], size := insertD c.upd.size i size } }
    (((c.set (UPD_SLOT_STAT_MARK i) 0).setSlot i 1).updEvent i 1 0, 0)

/-- The open block with a line written at place `j`. -/
def putLine (b : List (List Byte)) (j : Nat) (line : List Byte) : List (List Byte) :=
  if j < b.length then modAt b j (fun _ => line) else b ++ [line]

/-- A sector that has failed its read-back twice holds what the device was left with: free values (R458). -/
def Chip.sectorBad (c : Chip) (at_ : Nat) : Chip :=
  let n := c.free
  (c.norWrite at_ ((List.range 4096).map (fun k => BitVec.ofNat 8 (Config.freeWord (4096 * n + k))))).tickFree

/-- A complete block stored: the sector, then the record with MARK + 1; the last one makes the slot LOADED (R458, R459). -/
def Chip.storeBlock (c : Chip) (i size : Nat) (block : List (List Byte)) (fails : Nat) : Chip × Nat :=
  let m := c.get (UPD_SLOT_STAT_MARK i)
  let at_ := slotAt i + 4096 * m
  if 2 ≤ fails then (({ c with upd := { c.upd with block := [] } } : Chip).sectorBad at_, 608)
  else
    let data := (block.flatten).take (size - 4096 * m)
    let c := c.norWrite at_ (data ++ List.replicate (4096 - data.length) 0xFF)
    let c := ({ c with upd := { c.upd with block := [] } } : Chip).set (UPD_SLOT_STAT_MARK i) (m + 1)
    if size ≤ 4096 * (m + 1) then ((c.setSlot i 2).updEvent i 2 0, 0) else (c.slotStore i, 0)

/-- UPDATE_DATA: one line of the open block; `fails` tells how often the block's read-back failed (R431, R458). -/
def Chip.updData (c : Chip) (off : Nat) (bytes : List Byte) (fails : Nat) : Chip × Nat :=
  match c.upd.cur with
  | none => (c, 606)
  | some i =>
    let size := lookupD c.upd.size i 0
    let m := c.get (UPD_SLOT_STAT_MARK i)
    let j := off % 4096 / 128
    if c.slotHeld i ≠ 0 then (c, c.slotHeld i)
    else if c.slotState i ≠ 1 then (c, 606)
    else if off % 128 ≠ 0 ∨ off / 4096 ≠ m ∨ size ≤ off ∨ c.upd.block.length < j then (c, 604)
    else
      let b := putLine c.upd.block j (sliceBytes bytes 0 128)
      if b.length = 32 ∨ size ≤ 4096 * m + 128 * b.length then
        (if c.gateOpen .mark then c.storeBlock i size b fails else (c, 504))
      else ({ c with upd := { c.upd with block := b } }, 0)

/-! ### Verification (R460, R461) -/

/-- The blown bits of a thermometer field (R454). -/
def blown (n : Nat) : Nat := ((List.range 32).filter (fun k => bitAt n k)).length

/-- The checks of an image container of image `k` in `b`, in the order of R460; 0 where all pass. -/
def Chip.containerErr (c : Chip) (k size : Nat) (b : List Byte) : Nat :=
  match imgHdr (b.take 64) with
  | none => 608
  | some h =>
    if h.image ≠ k ∨ h.length ≠ size then 608
    else if c.sigCause (imgKeys k) (b.take (size - 136)) ((b.drop (size - 136)).take 136) ≠ 0 then 607
    else if (k = 0 ∧ h.svn < blown c.fuses.svnSafe) ∨ (k = 1 ∧ h.svn < blown c.fuses.svnApp) then 609
    else if c.imgForPart h = false then 610
    else if k < 9 ∧ (if k = 1 then h.version else c.imgVersion 1) < h.minApp then 610
    else 0

/-- The checks of a tenant container in slot `i` (R238 to R240, R460). -/
def Chip.tenantErr (c : Chip) (i size : Nat) : Nat :=
  if leAt (c.norBytes (slotAt i + 8) 4) 0 4 ≠ size then 608
  else
    match c.containerCheck (if i / 2 = 4 then 2 else 3) (slotAt i) with
    | .ok _ => 0
    | .error e => if e.1 = 1 ∨ e.1 = 2 then 607 else 608

/-- The first failed check of slot `i`, as its E6xx; 0 where all pass (R460). -/
def Chip.imgErr (c : Chip) (i : Nat) : Nat :=
  let size := lookupD c.upd.size i 0
  if i / 2 = 4 ∨ i / 2 = 8 then c.tenantErr i size else c.containerErr (i / 2) size (c.norBytes (slotAt i) size)

/-- UPDATE_VERIFY of a slot in LOADED or VERIFIED, for the entry of a journal slot (R460). -/
def Chip.updVerify (c : Chip) (img slot js : Nat) : Chip :=
  let i := 2 * img + slot
  if c.slotUnknown img slot then c.complete js 601 ""
  else if c.slotState i ≠ 2 ∧ c.slotState i ≠ 4 then c.complete js 606 ""
  else
    let c := if c.slotState i = 4 then c.setSlot i 2 else c
    let c := c.set (UPD_SLOT_STAT_STATE i) 3
    (({ c with upd := { c.upd with verify := some (i, js) } } : Chip).setEntry js (fun e => { e with taken := true })).updShow

/-- VERIFICATION_END (R460). -/
def Chip.verifyEnd (c : Chip) : Chip :=
  match c.upd.verify with
  | none => c
  | some (i, js) =>
    let e := c.imgErr i
    let c : Chip := { c with upd := { c.upd with verify := none } }
    if e = 0 then ((c.setSlot i 4).updEvent i 3 0).complete js 0 "" else ((c.setSlot i 2).raise 0x0F02).complete js e ""

/-! ### Activation's checks (R463 to R465, R469) -/

/-- Whether the pair-link protocols of a new image and of the peer's running APP meet (R469). -/
def Chip.protoMeets (c : Chip) (h : ImgHdr) : Bool :=
  match (if c.is PAIR_STAT_LINK then c.pair.peer else none) with
  | some (p, _) => decide (h.protoMin ≤ p.proto) && decide (p.protoMin ≤ h.proto)
  | none => true

/-- The refusal of an activation; 0 where it may go on. -/
def Chip.actErr (c : Chip) (img slot : Nat) : Nat :=
  let i := 2 * img + slot
  if c.slotUnknown img slot then 601
  else if c.slotState i ≠ 4 then 606
  else if (List.range 9).any (fun k => bitAt c.trialImages k && !(decide (k < 2) && decide (img < 2))) then 616
  else if img < 2 ∧ c.isActive ∧ c.get DOOR_STATUS_STATE ≠ 10 then 611
  else if img = 4 ∨ img = 8 then 0
  else
    match imgHdr (c.norBytes (slotAt i) 64) with
    | none => 608
    | some h =>
      if c.imgForPart h = false ∨ (if img = 1 then h.version else c.imgVersion 1) < h.minApp then 610
      else if img < 2 ∧ c.protoMeets h = false then 610
      else 0

/-- The per-function resets at which an in-service image takes effect (Table 20-1). -/
def actFuncs (img : Nat) : List Nat :=
  match img with
  | 2 => [1] | 3 => [2] | 4 => [3] | 5 => [5, 6, 7] | 6 => [8] | 7 => [9] | 8 => [4] | _ => []

/-- The images that the reset of a function loads (Table 20-1; a NOS reset loads the tenants too). -/
def funcImages (f : Nat) : List Nat :=
  match f with
  | 1 => [2] | 2 => [3, 4, 8] | 3 => [4] | 4 => [8] | 5 => [5] | 6 => [5] | 7 => [5] | 8 => [6] | 9 => [7] | _ => []

/-- The new cell of an activation, the slot PENDING, and the image that ran PREVIOUS (R463). -/
def Chip.actCell (c : Chip) (i : Nat) : Chip :=
  let c := c.cellStore (setSel (i / 2) (i % 2 + 2))
  let c := c.setSlot i 5
  if c.slotState (otherSlot i) = 7 then c.setSlot (otherSlot i) 8 else c

/-- The activation of SAFE or APP: PENDING until a chip-level reset, and the self-reset's delay (R463, R465). -/
def Chip.actGroup (c : Chip) (i js : Nat) : Chip :=
  let c := (c.actCell i).updEvent i 4 0
  let c : Chip := if c.is UPD_CFG_RST_EN then
      { c with upd := { c.upd with resetAt := some (c.now + c.get UPD_CFG_RST_DLY * 1000000000) } }
    else c
  c.complete js 0 ""

/-! ### The loader (R463, R467) -/

/-- The other slot runs again, where it held the image that ran before (R463, R467). -/
def Chip.backRunning (c : Chip) (i : Nat) : Chip := if c.slotState (otherSlot i) = 8 then c.setSlot (otherSlot i) 7 else c

/-- A slot in TRIAL back to VERIFIED, the other slot selected and running (R467). -/
def Chip.revert (c : Chip) (i : Nat) : Chip :=
  let c := c.cellStore (setSel (i / 2) (otherSlot i % 2))
  let c : Chip := { c with upd := { c.upd with secs := 0, since := none } }
  let c := (c.setSlot i 4).backRunning i
  (c.raise 0x0F01).updEvent i 7 0

/-- The images of the SAFE and APP group reverted together (R467). -/
def Chip.revertGroup (c : Chip) : Chip :=
  let is := c.trialSlots.filter (fun i => i / 2 < 2)
  is.foldl (fun c i => c.revert i) c

/-- The end of an activation: its entry completed. -/
def Chip.actDone (c : Chip) (i ecode : Nat) : Chip :=
  match c.upd.act with
  | some (k, js) =>
    if k = i then ((({ c with upd := { c.upd with act := none } } : Chip).updShow).complete js ecode "") else c
  | none => c

/-- The first load of a PENDING image: in TRIAL with one boot, or the previous selection again where the load check fails (R463). -/
def Chip.firstLoad (c : Chip) (i ev : Nat) : Chip :=
  let e := c.imgErr i
  if e = 0 then
    let c := c.cellStore (setSel (i / 2) (i % 2 + 2 + 16))
    let c : Chip := { c with upd := { c.upd with secs := 0, since := some c.now } }
    ((c.setSlot i 6).updEvent i ev 0).actDone i 0
  else
    let code := if i / 2 = 4 ∨ i / 2 = 8 then 614 else 607
    let c := c.cellStore (setSel (i / 2) (otherSlot i % 2))
    let c := (c.setSlot i 2).backRunning i
    (((c.raise 0x0F03).updEvent i 8 code).actDone i code)

/-- One more boot of an image in TRIAL, or its revert at the fourth (R467). -/
def Chip.trialBoot (c : Chip) (i : Nat) : Chip :=
  let b := c.bootSel (i / 2) / 16
  if 4 ≤ b + 1 then c.revert i
  else
    let c := c.cellStore (setSel (i / 2) (i % 2 + 2 + 16 * (b + 1)))
    let c : Chip := { c with upd := { c.upd with since := some c.now } }
    c.updEvent i 5 0

/-- Whether the load of an image needs a boot-pointer store first (R467). -/
def Chip.loadStores (c : Chip) (k : Nat) : Bool :=
  let st := c.slotState (2 * k + c.bootSel k % 2)
  st == 5 || st == 6

/-- The loader at the release of a function: the image in the slot selected (R463, R467). An activation that asked for several resets loads at the
last of them. -/
def Chip.loadImage (c : Chip) (k : Nat) : Chip :=
  let i := 2 * k + c.bootSel k % 2
  if c.slotState i = 5 then
    (if (actFuncs k).any (fun f => c.bit SYS_FRST_STAT_BUSY f) then c else c.firstLoad i 4)
  else if c.slotState i = 6 then c.trialBoot i
  else c

/-! ### TRIAL, confirmation, abort (R467, R468, R430) -/

/-- TRIAL_TIME_STORE: every 10 s the count of service seconds is stored (R467). -/
def Chip.trialStore (c : Chip) : Chip :=
  match c.upd.since with
  | none => c
  | some a =>
    if c.trialSlots ≠ [] ∧ 10000000000 ≤ c.now - a then
      let c : Chip := { c with upd := { c.upd with secs := satNat 10 c.trialSecs, since := some c.now } }
      (c.trialSlots.foldl (fun c i => c.slotStore i) c).updShow
    else c

/-- The security version raised to that of a confirmed image (R454). -/
def Chip.raiseSvn (c : Chip) (i : Nat) : Chip :=
  match imgHdr (c.norBytes (slotAt i) 64) with
  | none => c
  | some h =>
    let up : Nat → Nat := fun n => if blown n < min h.svn 32 then Nat.lor n (2 ^ (min h.svn 32) - 1) else n
    if bitAt h.flags 2 = false then c
    else if i / 2 = 0 then { c with fuses := { c.fuses with svnSafe := up c.fuses.svnSafe } }
    else if i / 2 = 1 then { c with fuses := { c.fuses with svnApp := up c.fuses.svnApp } }
    else c

/-- UPDATE_CONFIRM: TRIAL cleared, for SAFE and APP in both (R468). -/
def Chip.updConfirm (c : Chip) (img : Nat) : Chip × Nat :=
  let mine := c.trialSlots.filter (fun i => if img < 2 then i / 2 < 2 else i / 2 = img)
  if 8 < img then (c, 601)
  else if mine = [] then (c, if bitAt c.trialImages img then 606 else 612)
  else
    let c := c.cellStore (fun l => mine.foldl (fun l i => setSel (i / 2) (i % 2) l) l)
    let c : Chip := { c with upd := { c.upd with secs := 0, since := none } }
    let c := mine.foldl (fun c i =>
      let c := c.setSlot i 7
      let o := otherSlot i
      let c := if c.slotState o = 0 ∨ c.slotState o = 1 then c else c.setSlot o 8
      (c.raiseSvn i).updEvent i 6 0) c
    (if img < 2 then c.put SYS_BOOT_STAT_TRIAL false else c, 0)

/-- UPDATE_ABORT: the slot to EMPTY (R430, R456). -/
def Chip.updAbort (c : Chip) (img slot : Nat) : Chip × Nat :=
  let i := 2 * img + slot
  if c.slotUnknown img slot then (c, 601)
  else if c.slotHeld i ≠ 0 then (c, c.slotHeld i)
  else
    let c : Chip := { c with upd := { c.upd with cur := if c.upd.cur = some i then none else c.upd.cur
                                                 block := if c.upd.cur = some i then [] else c.upd.block
                                                 size := eraseD c.upd.size i } }
    ((c.set (UPD_SLOT_STAT_MARK i) 0).setSlot i 0, 0)

/-! ### Start-up: the slot records read back (R455) -/

/-- The record of slot `i` with the higher write count among the valid ones. -/
def Chip.slotRecOf (c : Chip) (i : Nat) : Option (List Byte) :=
  let ok : List Byte → Bool := fun b => leAt b 0 4 != 0 && leAt b 28 4 == crc32 (b.take 28)
  let a := c.rdBytes (slotRecAddr i 0) 32
  let b := c.rdBytes (slotRecAddr i 1) 32
  match ok a, ok b with
  | true, true => if leAt a 0 4 < leAt b 0 4 then some b else some a
  | true, false => some a
  | false, true => some b
  | false, false => none

/-- One slot read back; EMPTY with F0F04 where no record is valid. -/
def Chip.slotRead (c : Chip) (i : Nat) : Chip :=
  match c.slotRecOf i with
  | none => ((((c.set (UPD_SLOT_STAT_STATE i) 0).set (UPD_SLOT_STAT_MARK i) 0).set (UPD_SLOT_VER_VERSION i) 0)).raise 0x0F04
  | some b =>
    let c : Chip := { c with upd := { c.upd with count := insertD c.upd.count i (leAt b 0 4), size := insertD c.upd.size i (leAt b 8 4)
                                                 secs := if leAt b 4 1 = 6 then leAt b 16 2 else c.upd.secs } }
    ((c.set (UPD_SLOT_STAT_STATE i) (leAt b 4 1)).set (UPD_SLOT_STAT_MARK i) (leAt b 6 2)).set (UPD_SLOT_VER_VERSION i) (leAt b 12 4)

/-- The slot records read at start-up; the download that a host may resume is that of the first slot in LOADING (R455, R459; log 82). A slot
that reads PENDING though the cell in use does not name it is VERIFIED again, and one that the cell names in TRIAL is PENDING (R462, 20.11). -/
def Chip.updScan (c : Chip) : Chip :=
  let c : Chip := { c with upd := {} }
  let c := (List.range 18).foldl (fun c i => c.slotRead i) c
  let c : Chip := { c with upd := { c.upd with cur := (List.range 18).find? (fun i => c.slotState i == 1) } }
  let c := (List.range 18).foldl (fun c i =>
    let named := decide (c.bootSel (i / 2) % 2 = i % 2)
    if c.slotState i = 5 ∧ named = false then c.setSlot i 4
    else if c.slotState i = 4 ∧ named = true ∧ bitAt (c.bootSel (i / 2)) 1 then c.setSlot i 5
    else c) c
  c.updShow

/-! ### The service image (R470, R471) -/

/-- The least and largest service image, bytes. -/
def svcMax : Nat := 1536 * 1024

/-- A service image begun. -/
def Chip.svcBegin (c : Chip) (size : Nat) : Chip × Nat :=
  if size < 200 ∨ svcMax < size then (c, 603)
  else ({ c with upd := { c.upd with svc := { c.upd.svc with size := size, got := 0, verified := false } } }, 0)

/-- Bytes of a service image at an offset: the next ones, or a rewrite of a line of the 4 KiB block that is open. -/
def Chip.svcData (c : Chip) (off : Nat) (bytes : List Byte) (rewrite : Bool) : Chip × Nat :=
  let s := c.upd.svc
  if s.size = 0 then (c, 606)
  else if off % bytes.length ≠ 0 ∨ s.size ≤ off ∨ s.got < off ∨ (off ≠ s.got ∧ (rewrite = false ∨ off / 4096 ≠ s.got / 4096)) then (c, 604)
  else
    let b := bytes.take (s.size - off)
    ({ c.wrBytes (0x20000000 + off) b with
       upd := { c.upd with svc := { s with got := if off = s.got then off + b.length else s.got, verified := false } } }, 0)

/-- A service image verified: all bytes received, then the checks of R460 that apply to it. -/
def Chip.svcVerify (c : Chip) : Chip × Nat :=
  let s := c.upd.svc
  if s.size = 0 ∨ s.got < s.size then (c, 606)
  else
    let e := c.containerErr 9 s.size (c.rdBytes 0x20000000 s.size)
    ({ c with upd := { c.upd with svc := { s with verified := decide (e = 0) } } }, e)

/-- The reply of the boot ROM on CAN0 (Table 20-6): to 0x7E8 + SIDE. -/
def Chip.bootReply (c : Chip) (op seq status : Nat) : Chip :=
  let r := leBytes 1 op ++ leBytes 1 seq ++ leBytes 2 status ++ leBytes 4 c.upd.svc.got
  ({ c with upd := { c.upd with svc := { c.upd.svc with last := some (seq, r) } } } : Chip).emit
    (.can 0 (0x7E8 + c.get SYS_STRAP_SIDE) false true r)

/-- One request of the boot download on CAN0: a repeated SEQ is answered again without being acted on (R471). -/
def Chip.bootRequest (c : Chip) (op seq : Nat) (f : Chip → Chip × Nat) : Chip :=
  if c.sys.bootWait = false ∨ c.get SYS_BOOT_STAT_SOURCE ≠ 3 then c
  else
    let again : Option (List Byte) := match c.upd.svc.last with | some (n, r) => (if n = seq then some r else none) | none => none
    match again with
    | some r => c.emit (.can 0 (0x7E8 + c.get SYS_STRAP_SIDE) false true r)
    | none => (f c).1.bootReply op seq (f c).2

end Sys2Proof.Machine
end

