-- ==== Sys2Proof/Machine/Frst.lean ====
section
/-! DEFINITION. Per-function resets and the image operations that use them (spec/03 R65 to R67, spec/01 R25, spec/20 R463 to R467). -/

namespace Sys2Proof.Machine

/-! ### A block's registers through its reset (Table 00-3, R66, R138) -/

/-- The word of a register after its block's per-function reset and the reload of its configuration: the RWS fields and the parameters of `w`,
every other field at its reset value. -/
def keptWord (a : Nat) (w : Word) : Word :=
  match regRowAt a with
  | none => resetWord a
  | some r =>
    BitVec.ofNat 32 ((r.fields.filter (fun f => f.acc == .rws || (f.acc == .rw && !notParam a f))).foldl
      (fun n f => putBits n f.lo f.w (bitsOf w.toNat f.lo f.w)) (resetWord a).toNat)

/-- The chip with the registers of a range reset and reloaded, and the snapshots of its words gone (R494). -/
def Chip.resetBlock (c : Chip) (lo hi : Nat) : Chip :=
  { c with regs := c.regs.filterMap (fun p =>
             if within p.1 lo hi then (if keptWord p.1 p.2 = resetWord p.1 then none else some (p.1, keptWord p.1 p.2)) else some p)
           snaps := c.snaps.filter (fun p => !within (p.1 / 8) lo hi) }

/-- The chip with some fields as another chip has them. -/
def Chip.keepFields (c old : Chip) (fs : List Fld) : Chip := fs.foldl (fun c f => c.set f (old.get f)) c

/-! ### The functions (Table 03-8) -/

/-- FBK (R66): counts from 0, no position valid, the pass-through and the inputs as they are. -/
def Chip.resetFbk (c : Chip) : Chip :=
  let old := c
  let c := (List.range 6).foldl (fun c n => if c.is (FBK_CH_STAT_POS_VALID n) then c.posLost n else c) c
  let c := c.resetBlock 0x40050000 0x40060000
  let c := c.keepFields old ((List.range 6).map (fun n => FBK_CH_STAT_CABLE n))
  let c : Chip := { c with fbk := c.fbk.map (fun x => { raw := x.raw, hallRaw := x.hallRaw }), wheel := {} }
  let c := (List.range 6).foldl (fun c n => if c.is (FBK_CH_CFG_ENABLE n) then c.fbkEnable n else c) c
  [0, 1, 2, 3].foldl (fun c n => c.put (MOT_AX_STAT_STEPLOSS_POSSIBLE n) true) c

/-- MOT (R138): XPOS, ELEC, ELEC_OFF, STEPLOSS_POSSIBLE and the phase targets are kept. -/
def Chip.resetMot (c : Chip) : Chip :=
  let old := c
  let c := c.resetBlock 0x40070000 0x40080000
  let c := [0, 1, 2, 3].foldl (fun c n => c.keepFields old [MOT_AX_XPOS_VALUE n, MOT_AX_ELEC_ELEC n, MOT_AX_ELEC_ELEC_OFF n,
    MOT_AX_STAT_STEPLOSS_POSSIBLE n, MOT_AX_PHASE_I_A n, MOT_AX_PHASE_I_B n, MOT_AX_POS_UM_VALUE n]) c
  { c with axes := c.axes.map (fun a => { pos := a.pos }) }

/-- The tenants loaded and started again as the configuration has them (R240). -/
def Chip.nosRestart (c : Chip) : Chip :=
  if c.is NOS_CTRL_ENABLE then
    let c := [0, 1, 2, 3].foldl (fun c n => if c.bit NOS_CTRL_TEN_EN n then c.loadTenant n else c) c
    if c.is VMC_STAT_DDR_READY then [0, 1, 2, 3].foldl (fun c n => c.tenantStart n) (c.put NOS_STAT_RUNNING true) else c
  else c

/-- NOS (R264, Table 11-7, R244). -/
def Chip.resetNos (c : Chip) : Chip :=
  let c := (c.nosStop.sharedFlush none).partFlush 4
  let c := [0, 1, 2, 3].foldl (fun c p => c.partDrop p) c
  let c := c.resetBlock 0x50000000 0x51000000
  let c : Chip := { c with vmc := { c.vmc with l1 := [] }, nos := { cams := c.nos.cams.map (fun x => { peer := x.peer }) } }
  let c := [0, 1].foldl (fun c k => if c.is (NOS_CAM_CFG_EN k) then (c.camStart k).camShow k false else c) c
  c.nosRestart.endCondition 0x0A08

/-- Tenant T2 or T3 (Table 11-7, R240). -/
def Chip.resetTenant (c : Chip) (n : Nat) : Chip :=
  let c := ((c.tenantStop n).sharedFlush (some n)).partDrop n
  let c := c.resetBlock (NOS_TEN_CFG_REG n) (NOS_TEN_CFG_REG (n + 1))
  let c := (c.putBit NOS_STAT_LOADED n false)
  if c.is NOS_CTRL_ENABLE ∧ c.bit NOS_CTRL_TEN_EN n then (c.loadTenant n).tenantStart n else c

/-- A CAN controller (R293, R289): every register reset, the message RAM 0, then the configuration; on a standby CAN0 and CAN1 in MONITOR. -/
def Chip.resetCan (c : Chip) (k : Nat) : Chip :=
  let c := (c.canTimeLost k).resetBlock (CAN_CTRL_REG k) (CAN_CTRL_REG k + 0x8000)
  let go := !c.is (CAN_CTRL_INIT k)
  let c := (c.canClearRam k).setCc k (fun _ => {})
  let c := c.put (CAN_CTRL_INIT k) true
  let c := if c.isActive = false ∧ c.get PAIR_STAT_ROLE ≠ 0 ∧ k < 2 then c.set (CAN_CTRL_MODE k) 1 else c
  let c := if go then (c.canClearInit k).1 else c
  (c.canTakeMode k).endCondition (0x0C01 + 16 * k)

/-- ETH with the TSYN stack (R308): TB_VEH, y and y_f go on. -/
def Chip.resetEth (c : Chip) : Chip :=
  let old := c
  let c := c.resetBlock 0x400D0000 0x400E0000
  let c := [0, 1].foldl (fun c p => c.keepFields old [ETH_PORT_STAT_LINK p, ETH_PORT_STAT_SPEED p]) c
  { c with eth := {} }

/-- CON (R390, R409, R420, R433): every session closes and con0 and con1 open again; the working copy is lost. -/
def Chip.resetCon (c : Chip) : Chip :=
  let c := [0, 1, 2, 3, 4, 5].foldl (fun c s => (c.roleFall s "reset").sessCloses s "reset") c
  let c := c.resetBlock 0x40110000 0x40120000
  let c : Chip := { c with sess := [{}, {}, {}, {}, {}, {}], cfg := { c.cfg with work := c.running } }
  (c.set CON_SESS_STAT_OPEN 0).consOpen

/-- The reset of a function (R65 step 4). -/
def Chip.resetFunc (c : Chip) (f : Nat) : Chip :=
  match f with
  | 0 => c.resetFbk
  | 1 => c.resetMot
  | 2 => c.resetNos
  | 3 => c.resetTenant 2
  | 4 => c.resetTenant 3
  | 5 => c.resetCan 0
  | 6 => c.resetCan 1
  | 7 => c.resetCan 2
  | 8 => c.resetEth
  | _ => c.resetCon

/-! ### Requests (R65, R67, R25) -/

/-- Whether a function is being reset; a tenant's reset is absorbed into that of NOS (R67). -/
def Chip.fnBusy (c : Chip) (f : Nat) : Bool := c.bit SYS_FRST_STAT_BUSY f || ((f == 3 || f == 4) && c.bit SYS_FRST_STAT_BUSY 2)

/-- Every axis at standstill. -/
def Chip.allStill (c : Chip) : Bool := [0, 1, 2, 3].all (fun n => decide ((c.ax n).v = 0) && !c.is (MOT_AX_STAT_BUSY n))

/-- The start condition of FBK (Table 03-8). -/
def Chip.fbkMayReset (c : Chip) : Bool := c.allStill && (c.doorState == 10 || c.doorState == 11)

/-- The conditions of R25 for MOTU. -/
def Chip.motuMay (c : Chip) : Bool := c.allStill && (c.doorState == 0 || c.doorState == 3 || c.doorState == 10)

/-- The answer to the queued command of a request, if there is one. -/
def Chip.fnAnswer (c : Chip) (slot : Option Nat) (ecode : Nat) (note : String) : Chip :=
  match slot with | some s => c.complete s ecode note | none => c

/-- A per-function reset begins: SYS asks the function to go idle (step 1 of R65). -/
def Chip.fnBegin (c : Chip) (r : FnReset) : Chip :=
  let c := ({ c with sys := { c.sys with frst := c.sys.frst ++ [{ r with since := c.now }] } } : Chip).putBit SYS_FRST_STAT_BUSY r.func true
  let c := match r.slot with | some s => c.setEntry s (fun e => { e with taken := true }) | none => c
  if r.func = 8 then (c.tcpClose "reset").ethsTime else c

/-- A deferred MOTU operation begins once the conditions hold (R25, R463). -/
def Chip.motuTry (c : Chip) : Chip :=
  match c.sys.motuDeferred with
  | none => c
  | some (r, activation) =>
    if c.motuMay ∧ ¬ c.fnBusy 1 ∧ (activation = false ∨ c.gateOpen .pointer) then
      let c : Chip := { c with sys := { c.sys with motuDeferred := none } }
      if activation then
        match c.upd.act with
        | some (i, _) => (c.actCell i).fnBegin { r with slot := none }
        | none => c
      else c.fnBegin r
    else c

/-- A per-function reset requested (R65, R67): in progress already, refused by its start condition, deferred, or begun. -/
def Chip.fnRequest (c : Chip) (f : Nat) (slot : Option Nat) (byFault : Bool) : Chip :=
  let r : FnReset := { func := f, since := c.now, slot := slot, byFault := byFault, acked := false }
  if 10 ≤ f then c
  else if c.fnBusy f ∨ (f = 1 ∧ c.sys.motuDeferred.isSome) then c.fnAnswer slot 0 "BUSY"
  else if f = 0 then (if c.fbkMayReset then c.fnBegin r else c.fnAnswer slot 310 "")
  else if f = 1 ∧ byFault = false then
    let c := match slot with | some s => c.setEntry s (fun e => { e with taken := true }) | none => c
    ({ c with sys := { c.sys with motuDeferred := some (r, false) } } : Chip).motuTry
  else c.fnBegin r

/-- MOTU_DEFERRAL_TIMEOUT: 60 s; the running image stays in force (R25). -/
def Chip.motuLate (c : Chip) : Chip :=
  match c.sys.motuDeferred with
  | some (r, activation) =>
    if 60000000000 ≤ c.now - r.since then
      let c : Chip := { c with sys := { c.sys with motuDeferred := none } }
      if activation then (match c.upd.act with | some (i, _) => c.actDone i 605 | none => c) else c.fnAnswer r.slot 605 ""
    else c
  | none => c

/-! ### The end of a reset (R65, R486) -/

/-- The S3 faults of a released function: cleared, or handled once more where they were raised again before the release (R486). -/
def Chip.s3Release (c : Chip) (r : FnReset) : Chip :=
  (c.flt.inForce.filter (fun e => e.sev == 3 && e.func == some r.func && !e.limited)).foldl (fun c e =>
    if e.again then
      { c with flt := { c.flt with
        inForce := c.flt.inForce.filter (fun x => x.code != e.code)
        inbox := c.flt.inbox ++ [{ code := e.code, at_ := c.now, sev := 3, esc := e.esc, func := e.func, detail := e.detail }] } }
    else c.dropFault e.code) c

/-- The image of a function as its UPDATE record names it; 0xFF for FBK, which has none (log 83). -/
def funcImage (f : Nat) : Nat := ([0xFF, 2, 3, 4, 4, 5, 5, 5, 6, 7][f]?).getD 0xFF

/-- The function reset, released and loaded (step 4 of R65, R467), its record written and its command answered (R432). -/
def Chip.fnRelease (c : Chip) (r : FnReset) : Chip :=
  let f := r.func
  let tmo := c.is (SYS_FRST_LOG_LAST_TMO f)
  let c := c.resetFunc f
  let c := ({ c with sys := { c.sys with frst := c.sys.frst.filter (fun x => x.func != f) } } : Chip).putBit SYS_FRST_STAT_BUSY f false
  let c := c.incSat (SYS_FRST_LOG_COUNT f)
  let k := if f = 4 then 8 else funcImage f
  let v := if k < 9 then c.imgVersion k else 0
  let c := c.record 8 [(20, leBytes 1 (funcImage f)), (21, leBytes 1 (if k < 9 then c.bootSel k % 2 else 0)), (22, leBytes 1 9),
    (23, leBytes 1 f), (24, leBytes 4 v), (28, leBytes 4 v), (34, leBytes 1 (cond tmo 1 0))]
  let c := (funcImages f).foldl (fun c k => c.loadImage k) c
  (c.s3Release r).fnAnswer r.slot 0 (if tmo then "TMO" else "")

/-- The function is idle or its timeout has run: it is reset, or it waits for the loader's boot-pointer store under the energy gate (R467). -/
def Chip.fnEnd (c : Chip) (r : FnReset) (tmo : Bool) : Chip :=
  let c := c.put (SYS_FRST_LOG_LAST_TMO r.func) tmo
  let c := if tmo then (c.incSat (SYS_FRST_LOG_TMO_COUNT r.func)).raiseArg 0x0210 0 r.func else c
  if (funcImages r.func).any (fun k => c.loadStores k) ∧ c.gateOpen .pointer = false then
    ({ c with sys := { c.sys with frst := c.sys.frst.map (fun x => if x.func = r.func then { x with acked := true } else x) } } : Chip).put
      SUP_STATUS_STORE_GATED true
  else c.fnRelease r

/-- The reset of a function in progress whose idle point is still awaited. -/
def Chip.fnWaiting (c : Chip) (f : Nat) : Option FnReset := c.sys.frst.find? (fun r => r.func == f && !r.acked)

/-- IDLE_ACKNOWLEDGE (R65 step 2). -/
def Chip.idleAck (c : Chip) (f : Nat) : Chip :=
  match c.fnWaiting f with
  | some r => c.fnEnd r false
  | none => c

/-- FUNCTION_RESET_TIMEOUT (R65 step 3): F0210 and the reset regardless. -/
def Chip.fnTimeout (c : Chip) (f : Nat) : Chip :=
  match c.fnWaiting f with
  | some r => if c.get (SYS_FRST_TMO_TMO f) * 100000 ≤ c.now - r.since then c.fnEnd r true else c
  | none => c

/-- The functions that waited for a boot-pointer store go on once it may start (R467). -/
def Chip.fnGated (c : Chip) : Chip :=
  if c.gateOpen .pointer then (c.sys.frst.filter (fun r => r.acked)).foldl (fun c r => c.fnRelease r) c else c

/-! ### Activation, revert by service time, self-reset (R463 to R467) -/

/-- Whether an activation must wait for a reset of its function in progress (R464). -/
def Chip.actWaits (c : Chip) (img : Nat) : Bool := (actFuncs img).any (fun f => c.fnBusy f) || (img == 2 && c.sys.motuDeferred.isSome)

/-- UPDATE_ACTIVATE for the entry of a journal slot (R463). -/
def Chip.updActivate (c : Chip) (img slot js : Nat) : Chip :=
  let i := 2 * img + slot
  let e := c.actErr img slot
  if e ≠ 0 then c.complete js e ""
  else if img < 2 then c.actGroup i js
  else
    let c := (({ c with upd := { c.upd with act := some (i, js) } } : Chip).setEntry js (fun x => { x with taken := true })).updShow
    if img = 2 then
      let r : FnReset := { func := 1, since := c.now, slot := none, byFault := false, acked := false }
      ({ c with sys := { c.sys with motuDeferred := some (r, true) } } : Chip).motuTry
    else (actFuncs img).foldl (fun c f => c.fnRequest f none false) (c.actCell i)

/-- A handover before the self-reset of a reverted group: refused, F0F05; done, the delay (R467). -/
def Chip.revertHandover (c : Chip) : Chip :=
  if c.upd.awaitHo ∧ ¬ c.is PAIR_HO_STAT_BUSY then
    let c : Chip := { c with upd := { c.upd with awaitHo := false } }
    if c.isActive then (c.raise 0x0F05).updShow
    else { c with upd := { c.upd with resetAt := some (c.now + c.get UPD_CFG_RST_DLY * 1000000000) } }
  else c

/-- What follows a revert of SAFE and APP: the standby's self-reset, or the active's handover first (R467). -/
def Chip.groupReset (c : Chip) : Chip :=
  if ¬ c.is UPD_CFG_RST_EN then (c.raise 0x0F05).updShow
  else if c.isActive then
    let r := c.hoBegin
    if r.2 = 0 then { r.1 with upd := { r.1.upd with awaitHo := true } } else (r.1.raise 0x0F05).updShow
  else { c with upd := { c.upd with resetAt := some (c.now + c.get UPD_CFG_RST_DLY * 1000000000) } }

/-- The revert at 600 s of service: an in-service image by its reset, SAFE and APP by the next chip-level reset (R467). -/
def Chip.trialOver (c : Chip) : Chip :=
  let is := c.trialSlots
  if is.any (fun i => decide (i / 2 < 2)) then c.revertGroup.groupReset
  else is.foldl (fun c i => (actFuncs (i / 2)).foldl (fun c f => c.fnRequest f none false) (c.revert i)) c

/-- Whether a confirmation of an image in TRIAL has been accepted and waits for its cell store: it stands before a later revert (20.11). -/
def Chip.confirmWaits (c : Chip) : Bool :=
  c.wqm.entries.any (fun e => e.visible && e.cstate == 0 && e.cmd.op == .updConfirm &&
    c.trialSlots.any (fun i => i / 2 == e.cmd.a || (decide (i / 2 < 2) && decide (e.cmd.a < 2))))

/-- TRIAL_TIME_LIMIT (R467): under the energy gate the revert's cell waits. -/
def Chip.trialLimit (c : Chip) : Chip :=
  if c.trialSlots ≠ [] ∧ 600 ≤ c.trialSecs then
    (if c.gateOpen .pointer then c.trialOver
     else if c.sup.waiting.any (fun w => w.kind == .pointer) ∨ c.confirmWaits then c else c.deferStore .pointer 8191 [])
  else c

/-- SELF_RESET_PULSE (R465): RST_GPIO low for 10 us, where the console owns it. -/
def Chip.selfReset (c : Chip) : Chip :=
  match c.upd.resetAt with
  | some a =>
    if a ≤ c.now then
      let c : Chip := { c with upd := { c.upd with resetAt := none } }
      if c.domOwns (c.get UPD_CFG_RST_GPIO) then c else c.emit (.pulse (c.get UPD_CFG_RST_GPIO) 10)
    else c
  | none => c

end Sys2Proof.Machine
end

