-- ==== Sys2Proof/Machine/Faults.lean ====
section
/-! DEFINITION. The fault manager: taking, handling, preempting, queueing, coalescing and escalating faults, the actions of the severities,
and clearing (spec/21 R474 to R487). -/

namespace Sys2Proof.Machine

/-- The chip with the fault manager's registers shown. -/
def Chip.fltStat (c : Chip) : Chip :=
  let c := match c.flt.cur with
    | some h => (c.set FLT_STAT_CUR h.code).set FLT_STAT_CUR_SEV h.sev
    | none => (c.set FLT_STAT_CUR 0).set FLT_STAT_CUR_SEV 0
  ((c.set FLT_STAT_LEVEL c.flt.fifo.length).set FLT_STAT_SUSP
    (ofBits ([1, 2, 3, 4].map (fun k => c.flt.susp.any (fun h => h.sev == k))))).fltShow

/-- The order in which raises are taken: by arrival, within a tick by descending severity, then by ascending code (R476). -/
def raiseBefore (a b : Raise) : Bool :=
  if a.at_ ≠ b.at_ then decide (a.at_ < b.at_) else if a.sev ≠ b.sev then decide (b.sev < a.sev) else decide (a.code < b.code)

/-- The raise to take next. -/
def Chip.nextRaise (c : Chip) : Option Raise :=
  c.flt.inbox.foldl (fun (m : Option Raise) r => match m with
    | none => some r
    | some x => if raiseBefore r x then some r else m) none

/-! ### Coalescing (R479) -/

/-- Whether a code matches the fault being handled, a suspended one, a FIFO entry or one in force. -/
def Chip.fltKnown (c : Chip) (code : Nat) : Bool :=
  (match c.flt.cur with | some h => h.code == code | none => false) || c.flt.susp.any (fun h => h.code == code) ||
    c.flt.fifo.any (fun h => h.code == code) || c.inForce code

/-- A raise of instant `at_` coalesced: counted with the entry of its code. -/
def Chip.coalesce (c : Chip) (code at_ : Nat) : Chip :=
  let up : Handling → Handling := fun h => if h.code = code then { h with count := satNat 16 (h.count + 1), last := at_ } else h
  let c : Chip := { c with flt := { c.flt with
    cur := c.flt.cur.map up, susp := c.flt.susp.map up, fifo := c.flt.fifo.map up,
    inForce := c.flt.inForce.map (fun e =>
      if e.code = code then { e with count := satNat 16 (e.count + 1), last := at_, since := satNat 16 (e.since + 1), again := e.again || e.sev == 3 }
      else e) } }
  if c.inForce code then c
  else
    let (n, next) := lookupD c.flt.coal code (0, 0)
    { c with flt := { c.flt with coal := insertD c.flt.coal code (satNat 16 (n + 1), next) } }

/-- COALESCED_RECORD: at most once every 10 s for a code (R479). -/
def Chip.coalRecord (c : Chip) (code : Nat) : Chip :=
  match c.flt.inForce.find? (fun e => e.code == code) with
  | some e =>
    if 0 < e.since ∧ e.lastRec ≤ c.now then
      let c : Chip := { c with flt := { c.flt with inForce := c.flt.inForce.map (fun x =>
        if x.code = code then { x with since := 0, lastRec := c.now + 10000000000 } else x) } }
      c.faultRecord code e.sev 8 e.since e.detail
    else c
  | none =>
    let (n, next) := lookupD c.flt.coal code (0, 0)
    if 0 < n ∧ next ≤ c.now then
      let c : Chip := { c with flt := { c.flt with coal := insertD c.flt.coal code (0, c.now + 10000000000) } }
      c.faultRecord code (severityOf code 0) 8 n 0
    else c

/-! ### Handling (R475, R482 to R484) -/

/-- The in-force table with an entry put in, in order of first raise (FLT_LIST_IDX). -/
def intoForce (e : InForce) (l : List InForce) : List InForce :=
  l.takeWhile (fun x => decide (x.first ≤ e.first)) ++ e :: l.dropWhile (fun x => decide (x.first ≤ e.first))

/-- A fault entered in the in-force table, with its record and notification. -/
def Chip.enterForce (c : Chip) (h : Handling) : Chip :=
  let (n, next) := lookupD c.flt.coal h.code (0, 0)
  let e : InForce := { code := h.code, sev := h.sev, esc := h.esc, count := h.count, first := h.since, last := h.last, since := n, lastRec := next,
                       func := h.func, detail := h.detail, limited := false, again := false }
  let c : Chip := { c with flt := { c.flt with inForce := intoForce e (c.flt.inForce.filter (fun x => x.code != h.code))
                                               coal := eraseD c.flt.coal h.code } }
  ((c.faultRecord h.code h.sev (if h.esc then 5 else 1) h.count h.detail).notifyFault h.code h.sev (if h.esc then "esc" else "raised")
    h.count).fltShow

/-- The resets of a function that S3 handling has started in the last 60 s (R482). -/
def Chip.resetsOf (c : Chip) (f : Nat) : Nat := (c.flt.resets.filter (fun r => r.1 == f && decide (c.now < r.2 + 60000000000))).length

/-- A reset of a function started by S3 handling. -/
def Chip.s3Start (c : Chip) (f : Nat) : Chip :=
  let keep := c.flt.resets.filter (fun r => decide (c.now < r.2 + 60000000000))
  ({ c with flt := { c.flt with resets := keep ++ [(f, c.now)] } } : Chip).fnRequest f none true

/-- The S3 action (R482, R483): the reset in progress, F0211 in place of a fourth reset within 60 s, a wait for standstill, or the reset. -/
def Chip.s3Action (c : Chip) (h : Handling) (f : Nat) : Chip :=
  if c.fnBusy f then c
  else if 3 ≤ c.resetsOf f then
    ({ c with flt := { c.flt with inForce := c.flt.inForce.map (fun x => if x.code = h.code then { x with limited := true } else x) } } :
      Chip).raiseArg 0x0211 0 f
  else if f = 1 ∧ c.allStill = false then { c with flt := { c.flt with motWait := c.flt.motWait ++ [(h.code, h.since)] } }
  else c.s3Start f

/-- The severity at which a fault is handled: an S3 fault of a block without a reset, or of FBK outside its start condition, as S4 (R483). -/
def Chip.handledAs (c : Chip) (h : Handling) : Handling :=
  if h.sev = 3 ∧ (h.func = none ∨ (h.func = some 0 ∧ c.fnBusy 0 = false ∧ c.fbkMayReset = false)) then { h with sev := 4, esc := true } else h

/-- The handling of a fault starts: its record, its entry in force, and the action of its severity (Table 21-2). -/
def Chip.handle (c : Chip) (h0 : Handling) : Chip :=
  let h := c.handledAs h0
  let c : Chip := { c with flt := { c.flt with cur := some h } }
  let c := if h.sev ≤ 1 then (c.faultRecord h.code h.sev (if h.esc then 5 else 1) h.count h.detail).notifyFault h.code h.sev "raised" h.count
    else c.enterForce h
  let c := match h.func with
    | some f => if h.sev = 3 then c.s3Action h f else c
    | none => c
  let c := if h.sev = 5 then c.enterPairSafe true else c
  let c := if h.sev = 2 ∧ c.flt.ended.contains h.code then
      ({ c with flt := { c.flt with ended := c.flt.ended.filter (fun k => k != h.code) } } : Chip).dropFault h.code
    else c
  c.fltStat

/-- F0230 (R481): it preempts unless an S4 or S5 handling is under way, when it is only entered as in force. -/
def Chip.overflowFault (c : Chip) : Chip :=
  let c := (c.markSeen 0x0230).incWrap FLT_RAISED_N
  let h : Handling := { code := 0x0230, sev := 4, esc := false, func := none, since := c.now, last := c.now, count := 1, detail := 0 }
  if c.fltKnown 0x0230 then c.coalesce 0x0230 c.now
  else
    match c.flt.cur with
    | some x =>
      if 4 ≤ x.sev then c.enterForce h
      else ({ c with flt := { c.flt with susp := x :: c.flt.susp } } : Chip).handle h
    | none => c.handle h

/-- FAULT_TAKE (R476 to R481): the next raise is coalesced, handled, preempts, enters the FIFO, or overflows it. -/
def Chip.faultTake (c : Chip) : Chip :=
  match c.nextRaise with
  | none => c
  | some r =>
    let c : Chip := { c with flt := { c.flt with inbox := c.flt.inbox.erase r } }
    let c := c.incWrap FLT_RAISED_N
    let h : Handling := { code := r.code, sev := r.sev, esc := r.esc, func := r.func, since := r.at_, last := r.at_, count := 1, detail := r.detail }
    if c.fltKnown r.code then c.coalesce r.code r.at_
    else
      match c.flt.cur with
      | none => c.handle h
      | some x =>
        if x.sev < h.sev then ({ c with flt := { c.flt with susp := x :: c.flt.susp } } : Chip).handle h
        else if c.flt.fifo.length < 16 then ({ c with flt := { c.flt with fifo := c.flt.fifo ++ [h] } } : Chip).fltStat
        else
          let c := c.faultRecord h.code h.sev (if h.esc then 5 else 1) 1 h.detail
          let c := (c.set FLT_OVF_CODE h.code).incSat FLT_OVF_COUNT
          c.overflowFault.fltStat

/-- Whether a handling has reached its end (Table 21-2). -/
def Chip.handlingOver (c : Chip) (h : Handling) : Bool :=
  match h.sev with
  | 3 =>
    !(match h.func with | some f => c.fnBusy f | none => false) && !c.flt.motWait.any (fun p => p.1 == h.code)
  | 4 => (c.allStill && c.pins.brgEnN) || decide (c.get VOTE_TIME_STOP_MAX_MS * 1000000 ≤ c.now - h.since)
  | 5 => false
  | _ => true

/-- FAULT_HANDLING_END (R477, R478): a suspended handling resumes, else the FIFO's head is taken. -/
def Chip.handlingEnd (c : Chip) : Chip :=
  match c.flt.cur with
  | none => c
  | some h =>
    if c.handlingOver h then
      let c : Chip := { c with flt := { c.flt with cur := none } }
      match c.flt.susp with
      | x :: rest => ({ c with flt := { c.flt with cur := some x, susp := rest } } : Chip).fltStat
      | [] =>
        match c.flt.fifo with
        | x :: rest => ({ c with flt := { c.flt with fifo := rest } } : Chip).handle x
        | [] => c.fltStat
    else c

/-! ### MOT's reset at standstill (R483) -/

/-- The S3 faults of MOT that wait for standstill, once every axis stands. -/
def Chip.motFaults (c : Chip) : Chip :=
  if c.flt.motWait ≠ [] ∧ c.allStill then
    let c : Chip := { c with flt := { c.flt with motWait := [] } }
    if c.fnBusy 1 then c else c.s3Start 1
  else c

/-- A fault raised to S4, in force and under handling, with its record (R483). -/
def Chip.toSafe (c : Chip) (code : Nat) : Chip :=
  let up : Handling → Handling := fun h => if h.code = code then { h with sev := 4, esc := true, since := c.now } else h
  let c : Chip := { c with flt := { c.flt with
    cur := c.flt.cur.map up, susp := c.flt.susp.map up,
    inForce := c.flt.inForce.map (fun e => if e.code = code then { e with sev := 4, esc := true } else e) } }
  match c.flt.inForce.find? (fun e => e.code == code) with
  | some e => (((c.faultRecord code 4 5 e.count e.detail).notifyFault code 4 "esc" e.count)).fltStat
  | none => c

/-- MOT_RESET_START_TIMEOUT: 2 s after the raise an axis still moves (R483). -/
def Chip.motResetLate (c : Chip) : Chip :=
  let late := c.flt.motWait.filter (fun p => decide (2000000000 ≤ c.now - p.2))
  let c : Chip := { c with flt := { c.flt with motWait := c.flt.motWait.filter (fun p => !late.contains p) } }
  late.foldl (fun c p => c.toSafe p.1) c

/-! ### Clearing (R486, R487) -/

/-- EVENT_FAULT_CLEAR: 10 s after the latest raise of an S2 event fault. -/
def Chip.eventClear (c : Chip) (code : Nat) : Chip :=
  match c.flt.inForce.find? (fun e => e.code == code) with
  | some e => if e.sev = 2 ∧ isCondition code = false ∧ 10000000000 ≤ c.now - e.last then c.dropFault code else c
  | none => c

/-- Whether the limit of R482 still holds for a fault: 60 s since the third reset and its last raise. -/
def Chip.limitHolds (c : Chip) (e : InForce) : Bool :=
  let lastReset := (c.flt.resets.filter (fun r => some r.1 == e.func)).foldl (fun m r => max m r.2) 0
  decide (c.now < max lastReset e.last + 60000000000)

/-- Whether the cause of an S4 fault is still present (R486; log 84 for the causes that no rule describes). -/
def Chip.causePresent (c : Chip) (e : InForce) : Bool :=
  match e.code with
  | 0x0102 => true
  | 0x0201 => true
  | 0x0402 => true
  | 0x0403 => true
  | 0x0211 => c.flt.inForce.any (fun x => x.limited && c.limitHolds x)
  | 0x0230 => decide (16 ≤ c.flt.fifo.length)
  | 0x0307 => c.isActive && c.pins.steerFb
  | 0x0404 => c.vote.rbBad != 0
  | 0x0407 => c.vote.tpoBad != 0
  | 0x0803 => [0, 1, 2, 3].any (fun n => !(c.cu n).adcOk)
  | 0x0902 => c.door.ovs.any (fun k => decide (10 ≤ k))
  | 0x0907 => !c.is VOTE_STAT_LOCKED && c.doorwayClosed
  | code => isCondition code && !c.flt.ended.contains code

/-- A fault acknowledged: 0 cleared, 1 cause present or not cleared so, 2 not in force (R486, R487). -/
def Chip.ackResult (c : Chip) (code : Nat) : Chip × Nat :=
  match c.flt.inForce.find? (fun e => e.code == code) with
  | none => (c, 2)
  | some e =>
    if e.sev ≠ 4 ∨ c.causePresent e then (c, 1)
    else if code = 0x0211 then
      ((c.flt.inForce.filter (fun x => x.limited)).foldl (fun c x => c.dropFault x.code) (c.dropFault code), 0)
    else (c.dropFault code, 0)

/-- An acknowledgement with its result shown. -/
def Chip.ackFault (c : Chip) (code : Nat) : Chip × Nat :=
  let r := c.ackResult code
  (r.1.set FLT_ACK_RES_RES r.2, r.2)

end Sys2Proof.Machine
end

