-- ==== Sys2Proof/Machine/Power.lean ====
section
/-! DEFINITION. Chip-level reset and the start-up sequence (spec/03 R49, R61 to R64, R68 to R74; spec/08 R163; spec/20 R462 to R471). -/

namespace Sys2Proof.Machine

/-- A command that acts whether or not a chip-level reset holds the chip. -/
def runAny (t : Nat) (f : Chip → Chip) (s : State) : Host.Outcome State Fault Refusal :=
  .next { s with chip := let c := s.chip.begin t; c.finish (f c) }

/-! ### What each level keeps (Table 03-7) -/

/-- Whether a chip-level reset of level `l` keeps the register at an address. -/
def keptAt (l a : Nat) : Bool :=
  (decide (1 ≤ l) && (within a 0x40020000 0x40030000 || a == SYS_RST_CAUSE_REG || inRow a (SYS_FRST_LOG_REG 0) 10 4 || a == PAIR_EPOCH_REG)) ||
  (l == 2 && (a == SYS_CLK_STAT_REG || within a 0x40040000 0x40060000))

/-- The pins through a reset of level `l` (Table 02-8, R38, R39, R63). -/
def Chip.resetPins (c : Chip) (l : Nat) : Pins :=
  { steerFb := c.pins.steerFb, tractRel := l == 2 && c.pins.tractRel, lockDrv := l != 2 || c.pins.lockDrv,
    tpoOn := if l = 2 then c.pins.tpoOn else 0, oPair := if l = 0 then [0, 0, 0, 0, 0, 0] else c.pins.oPair }

/-- The chip put into a reset of level `l`: 0 L0, 1 L1, 2 L2. -/
def Chip.chipReset (c : Chip) (l : Nat) : Chip :=
  let now := if l = 0 then 0 else c.now
  let k : Chip :=
    { now := now, tbVeh := now, regs := c.regs.filter (fun p => keptAt l p.1), mem := c.mem.filter (fun p => within p.1 0x10000000 0x10400000),
      nor := c.nor, norSize := c.norSize, fuses := c.fuses, pins := c.resetPins l,
      sup := if l = 0 then {} else { c.sup with waiting := [] },
      sys := { held := some l, resetNLevel := c.sys.resetNLevel, refClosed := l == 2 && c.sys.refClosed,
               fromNor := l == 2 && c.sys.fromNor, selfTest := l == 2 && c.sys.selfTest },
      fbk := if l = 2 then c.fbk else c.fbk.map (fun x => { raw := x.raw, hallRaw := x.hallRaw }),
      wheel := if l = 2 then c.wheel else {},
      vote := if l = 2 then { c.vote with l2Lease := c.is PAIR_STAT_HELD } else {},
      pair := { epochAt := if l = 0 then 0 else c.pair.epochAt }, free := c.free, out := c.out, tickRegs := c.tickRegs,
      snaps := c.snaps.filter (fun p => keptAt l (p.1 / 8)) }
  let k := k.keepFields c [VOTE_STAT_MODE, VOTE_STAT_SUSPECT]
  let k := if l = 1 then k.keepFields c ((List.range 6).map (fun n => FBK_CH_CFG_PT_MODE n)) else k
  k.set SYS_RST_CAUSE_LAST_LEVEL l

/-- A reset asserted at level `l` from a source: the deeper of two levels holds, and the cause is recorded (R64). -/
def Chip.resetAsserted (c : Chip) (l : Nat) (cause : Chip → Chip) : Chip :=
  match c.sys.held with
  | some h => if l < h then cause (if l = 0 then (c.chipReset 0).wr SYS_RST_CAUSE_REG 0 else c.chipReset l) else cause c
  | none => cause (if l = 0 then (c.chipReset 0).wr SYS_RST_CAUSE_REG 0 else c.chipReset l)

/-- POWER_ON_RESET: an L0 reset, its bit and those of the rails that fell (R49, R62, R64). -/
def Chip.powerOn (c : Chip) (rails : Nat) : Chip :=
  if rails = 0 then c
  else (((c.chipReset 0).wr SYS_RST_CAUSE_REG 0).put SYS_RST_CAUSE_POR true).set SYS_RST_CAUSE_POR_RAIL rails

/-- RESET_N_RESET: a low level of 1 us or more; from 100 ns to 1 us the outcome is free (R40, R62). -/
def Chip.resetN (c : Chip) (width : Nat) : Chip :=
  let unsure := decide (100 ≤ width) && decide (width < 1000)
  let goes := decide (1000 ≤ width) || (unsure && Config.resetPulse c.free)
  let c := if unsure then c.tickFree else c
  if goes then c.resetAsserted c.sys.resetNLevel (fun c => c.put SYS_RST_CAUSE_RESETN true) else c

/-! ### Step 2: the release (R62, R64) -/

/-- Internal reset released: the level of RESET_N is read from the fuses, SYS_BOOT_COUNT goes one up, TB_VEH starts at TB_LOCAL. -/
def Chip.released (c : Chip) : Chip :=
  let level := match c.fuses.rstmap with | some l => (if l = 3 then 0 else l) | none => 0
  let c : Chip := { c with sys := { c.sys with held := none, resetNLevel := level }, tbVeh := c.now, vehRest := 0 }
  let c := (c.set FUSE_RSTMAP_RESETN_LEVEL (c.fuses.rstmap.getD 0)).put FUSE_RSTMAP_PROGRAMMED c.fuses.rstmap.isSome
  let n := (c.rdLe 0x102E0880 4 + 1) % 2 ^ 32
  (c.mramOwn 0x102E0880 (leBytes 4 n)).set SYS_BOOT_COUNT_COUNT n

/-! ### Steps 3 and 4: straps and reference (R68 to R70) -/

/-- STRAP_SAMPLE: the levels latched; those of a strap that changes in its window are free (R68, R513). -/
def Chip.straps (c : Chip) (levels : Nat) (stable : Bool) : Chip :=
  if c.sys.started ∨ c.sys.bootWait ∨ c.sys.strapped then c
  else
    let v := if stable then levels else (Config.strapSample c.free).toNat
    let c := if stable then c else c.tickFree
    let c : Chip := { c with sys := { c.sys with strapped := true } }
    ((c.set SYS_STRAP_BOOT v).set SYS_STRAP_CLKMODE (v / 4)).set SYS_STRAP_SIDE (v / 16)

/-- SAFE_CLK_OK: the clock mode permits safety functions and the reference is qualified. -/
def Chip.clkShow (c : Chip) : Chip :=
  c.put SYS_CLK_STAT_SAFE_CLK_OK (c.is SYS_CLK_STAT_REF_OK && c.get SYS_STRAP_CLKMODE != 3)

/-- REFERENCE_QUALIFY: 1,024 periods within 0.5 %; taken up only by the end of step 4 (R69, R70). -/
def Chip.refQualify (c : Chip) : Chip :=
  if c.sys.started ∨ c.sys.bootWait ∨ c.sys.refClosed ∨ c.get SYS_STRAP_CLKMODE = 3 then c else (c.put SYS_CLK_STAT_REF_OK true).clkShow

/-- The end of step 4: both PLLs locked, to the reference or to the internal oscillator (R69). -/
def Chip.refEnd (c : Chip) (ok : Bool) : Chip :=
  let c := (c.put SYS_CLK_STAT_PLL_MAIN_LOCK true).put SYS_CLK_STAT_PLL_TB_LOCK true
  let good := (ok || c.is SYS_CLK_STAT_REF_OK) && !c.sys.refClosed && c.get SYS_STRAP_CLKMODE != 3
  ({ c with sys := { c.sys with refClosed := !good } } : Chip).put SYS_CLK_STAT_REF_OK good |>.clkShow

/-- REFERENCE_FAULT: the reference is rejected until the next L0 or L1 reset (R70). -/
def Chip.refFault (c : Chip) : Chip :=
  if c.is SYS_CLK_STAT_REF_OK then
    let c : Chip := { c with sys := { c.sys with refClosed := true } }
    ((c.put SYS_CLK_STAT_REF_OK false).clkShow).raise 0x0201
  else c

/-! ### Steps 5 and 6: images (R71, R463 to R467) -/

/-- The check of an image in a NOR slot by the boot ROM (R71); its length is the one its header gives. -/
def Chip.bootErr (c : Chip) (k slot : Nat) : Nat :=
  match imgHdr (c.norBytes (slotOfs k slot) 64) with
  | none => 608
  | some h => if imgMax k < h.length ∨ ¬ c.slotPresent k slot then 608 else c.containerErr k h.length (c.norBytes (slotOfs k slot) h.length)

/-- Whether the starter image in MRAM is valid (R71; log 85). -/
def Chip.starterOk (c : Chip) : Bool :=
  match imgHdr (c.rdBytes 0x10000000 64) with
  | none => false
  | some h =>
    let b := c.rdBytes 0x10000000 h.length
    decide (h.length ≤ 0x80000) && c.imgForPart h && c.sigCause [0, 1] (b.take (h.length - 136)) (b.drop (h.length - 136)) == 0

/-- The slots of SAFE and APP that the cell names and that are PENDING or in TRIAL. -/
def Chip.groupSlots (c : Chip) : List Nat :=
  ([0, 1].map (fun k => 2 * k + c.bootSel k % 2)).filter (fun i => c.slotState i == 5 || c.slotState i == 6)

/-- The loader for the SAFE and APP group: the first start of what is PENDING, one more boot of what is in TRIAL, or the revert; an L2 reset
starts no group that contains SAFE and does not count as its boot (R463, R465, R467). Where one image of a PENDING group fails its load check
the other one is not started either (R462). -/
def Chip.loadGroup (c : Chip) (l2 : Bool) : Chip :=
  let is := c.groupSlots
  let pend := is.filter (fun i => c.slotState i == 5)
  let trial := is.filter (fun i => c.slotState i == 6)
  if l2 ∧ is.any (fun i => decide (i < 2)) then c
  else
    let bad := pend.any (fun i => c.imgErr i != 0)
    let c := pend.foldl (fun c i =>
      if bad ∧ c.imgErr i = 0 then ((c.cellStore (setSel (i / 2) (otherSlot i % 2))).setSlot i 4).backRunning i
      else c.firstLoad i 5) c
    if trial.any (fun i => decide (3 ≤ c.bootSel (i / 2) / 16)) then c.revertGroup else trial.foldl (fun c i => c.trialBoot i) c

/-- The slot that the boot ROM takes an image from: the one the cell names, or the running one where an L2 reset does not start a group. -/
def Chip.bootSlot (c : Chip) (k : Nat) : Nat :=
  let i := 2 * k + c.bootSel k % 2
  if c.slotState i = 5 then otherSlot i % 2 else i % 2

/-- BOOT_IMAGE_CHECK (R71, Table 03-10): the source booted, and F0203 for a fallback. -/
def Chip.bootSource (c : Chip) : Chip :=
  let b := c.get SYS_STRAP_BOOT
  let nor := b == 0 && c.bootErr 0 (c.bootSlot 0) == 0 && c.bootErr 1 (c.bootSlot 1) == 0
  let src := if nor then 0 else if 2 ≤ b then b else if c.starterOk then 1 else 2
  let c := (c.set SYS_BOOT_STAT_SOURCE src).put SYS_BOOT_STAT_FALLBACK (src != b)
  let c := c.put SYS_BOOT_STAT_TRIAL (nor && c.slotState (2 + c.bootSlot 1) == 6)
  let c : Chip := { c with sys := { c.sys with fromNor := src == 0, bootWait := decide (2 ≤ src) } }
  if src = b then c else c.raise 0x0203

/-! ### Step 7: the island (R73, R184, R192) -/

/-- ISLAND_SELF_TEST: a pass ends the mode OPEN and every suspect marking; the channels read the inputs. -/
def Chip.islandStart (c : Chip) (pass : Bool) (inputs : Nat) : Chip :=
  let c : Chip := { c with sys := { c.sys with selfTest := pass } }
  let c := if pass then (c.set VOTE_STAT_MODE 0).set VOTE_STAT_SUSPECT 0 else c.raise 0x0403
  c.setReadings (fun _ x => { x with closed := inputs, good := inputs })

/-! ### Steps 8 to 11 -/

/-- The configuration layers loaded with no admission, under the starter or a downloaded image (R72). -/
def Chip.configPlain (c : Chip) : Chip :=
  let l : List (Nat × Word) := match c.copyAt 0, c.copyAt 1 with
    | some a, some b => if serialNewer 32 b.seq a.seq then b.layer else a.layer
    | some a, none => a.layer
    | none, some b => b.layer
    | none, none => []
  let c := (c.putLayer l).setAdm false
  { c with cfg := { c.cfg with work := c.running } }

/-- DOOR_CYCLE from the latest cycle summary in the ledger (R163). -/
def Chip.cycleRestore (c : Chip) : Chip :=
  match (c.ledg.ring.filter (fun r => r.type == 1)).getLast? with
  | some r => c.set DOOR_CYCLE_COUNT (c.rdLe (ringAddr r.slot + 20) 4)
  | none => c

/-- DOOR_START_STATE (R163, R164, R72). In a pair the state that the mirror carries then takes its place, from the first MIRROR frame on. -/
def Chip.doorStart (c : Chip) : Chip :=
  let c := if c.uncommissioned then c.cycleRestore.raise 0x0901 else c.cycleRestore
  if c.uncommissioned ∨ c.is VOTE_STAT_ISOL ∨ c.sys.fromNor = false ∨ c.r74 = false then c.doorEnter 10 0
  else if c.closedLocked then c.doorEnter 0 0
  else c.doorEnter 11 5

/-- Steps 8 to 12: journal and ledger scanned, configuration loaded and admitted, sessions open, images started, LPDDR4X trained, the election
begun, DOOR in its start state. -/
def Chip.appStart (c : Chip) (ddr : Bool) : Chip :=
  let nor := c.sys.fromNor
  let c := [0, 1, 2, 3].foldl (fun c n => (c.put (MOT_AX_STAT_STEPLOSS_POSSIBLE n) true).put (MOT_AX_STAT_REFD n) false) c
  let c := if nor then c.configLoad else c.configPlain
  let c := c.consOpen
  let c := if nor then (List.range 7).foldl (fun c k => c.loadImage (k + 2)) c else c
  let c := if nor then c.ddrTrained ddr (if ddr then 1 else 3) else c
  let c : Chip := { c with pair := { c.pair with electSince := some c.now, idleSince := c.now }, sys := { c.sys with started := true } }
  (c.voterCycle 0).doorStart

/-- RESET_RELEASE: the release and the whole of Table 03-11, or up to the wait for a download (R73). It follows a chip-level reset, or stands
for the release that the state after reset has before it (log 4). -/
def Chip.startUp (c : Chip) (e : StartUp) : Chip :=
  if c.sys.held.isNone ∧ (c.sys.started ∨ c.sys.bootWait) then c
  else
    let l := c.sys.held.getD 0
    let c : Chip := if l = 0 then { c with now := 0, tbVeh := 0 } else c
    let c := ((c.released).straps e.straps.toNat e.strapStable)
    let c := if l = 2 then c.clkShow else c.refEnd e.refOk
    let c := (c.journalScan.ledgerScan).updScan
    let c := (c.loadGroup (l == 2)).bootSource
    if c.sys.bootWait then
      (if c.get SYS_BOOT_STAT_SOURCE = 2 then (c.putBit CON_SESS_STAT_OPEN 0 true).putBit CON_SESS_STAT_GEN 0 true else c)
    else
      let c := if c.sys.fromNor ∧ l ≠ 2 then c.islandStart e.selfTest e.inputs.toNat else c
      c.appStart e.ddrTrains

/-- The service image started (R470, R471): the start-up goes on without steps 7, 9 and 11, and DOOR stays in ISOLATED (R72). -/
def Chip.svcRun (c : Chip) : Chip × Nat :=
  if c.upd.svc.verified then
    let c : Chip := { c with upd := { c.upd with svc := { c.upd.svc with running := true } }, sys := { c.sys with bootWait := false } }
    (c.appStart false, 0)
  else (c, 606)

/-! ### The supply (R58, R59, Table 03-5) -/

/-- SUPPLY_HOLD: the warning has stood for 200 ms (R59). -/
def Chip.supplyHold (c : Chip) : Chip :=
  if c.is SUP_STATUS_WARN ∧ ¬ c.is SUP_STATUS_HOLD ∧ 200000000 ≤ c.now - c.sup.warnSince then
    let c := (c.put SUP_STATUS_HOLD true).raise 0x0102
    if c.live .app then
      let c := [0, 1, 2, 3].foldl (fun c n => if (c.ax n).v = 0 then c else (c.put (MOT_AX_TRIP_RET_EN n) false).emergency n none) c
      c.autoHandover
    else c
  else c

/-- RSTMAP programmed once; the fuses count from the next release on (R62). -/
def Chip.rstmapProgram (c : Chip) (level : Nat) : Chip :=
  match c.fuses.rstmap with
  | some _ => c
  | none => { c with fuses := { c.fuses with rstmap := some level } }

end Sys2Proof.Machine
end

