-- ==== Sys2Proof/Machine/Exec.lean ====
section
/-! DEFINITION. The executors of the work queues: which entry runs, when, and what each queued operation does (spec/16 R362, R371, R372,
spec/17 R410, R411, spec/18 R413 to R432). -/

namespace Sys2Proof.Machine

/-- Whether an operation is permitted on a chip that is not the active: it acts on the chip itself (R410, R414). -/
def QOp.ownChip (q : QCmd) : Bool :=
  match q.op with
  | .updBegin | .updVerify | .updActivate | .updConfirm | .updAbort | .configSave | .causeClear => true
  | .fnReset => decide (3 ≤ q.a)
  | _ => false

/-- Whether the head of a queue runs now: its executor is not DOOR, the chip's role permits it, and nothing it waits for is in progress
(R57, R25, R53, R441, R460, R464). -/
def Chip.mayRun (c : Chip) (e : Entry) : Bool :=
  !e.cmd.op.isDoor && (c.mayServe e || QOp.ownChip e.cmd) && !c.entryHeld e &&
  (match e.cmd.op with
   | .configApply | .configSave => c.cfg.install.isNone
   | .updVerify => c.upd.verify.isNone
   | .updConfirm => c.gateOpen .pointer && !c.sup.waiting.any (fun w => w.kind == .pointer)
   | .updActivate => c.gateOpen .pointer && !c.actWaits e.cmd.a && c.upd.act.isNone
   | _ => true)

/-- The first entry that runs now. -/
def Chip.nextRun (c : Chip) : Option Entry :=
  c.wqm.entries.find? (fun e => e.visible && e.cstate == 0 && !e.taken &&
    (match c.queueHead e.queue with | some h => h.slot == e.slot | none => false) && c.mayRun e)

/-- AXIS_START (R424): a motion set 32 to 63 on axis 2 or 3, at standstill, while DOOR is in OPEN. -/
def Chip.axisStart (c : Chip) (n m : Nat) : Chip × Nat :=
  if n < 2 ∨ m < 32 then (c, 402)
  else if c.doorState ≠ 3 ∨ c.axMoving n then (c, 308)
  else
    let k := ({ c with door := { c.door with conMove := some n } } : Chip).doorOutputs
    let r := k.applySet n m .console
    match r.2 with
    | none => (r.1, 0)
    | some e => (({ r.1 with door := { r.1.door with conMove := c.door.conMove } } : Chip).doorOutputs, if e = 0 then 308 else e)

/-- FORCE_CAL: the fit of an axis armed; a fit that waits already is replaced, and its command completes (R158, 18.6). -/
def Chip.forceCal (c : Chip) (n : Nat) (slot : Option Nat) : Chip :=
  let old := c.wqm.entries.filter (fun e => e.taken && e.cstate == 0 && e.cmd.op == .curCal && e.cmd.a == n && some e.slot != slot)
  let c := old.foldl (fun c e => c.complete e.slot 0 "note=REPLACED") c
  let c := (c.put (CUR_AX_STAT_FCAL_DONE n) false).put (CUR_AX_STAT_CAL_FAIL n) false
  let c := c.setCu n (fun x => { x with fit := 1, fitOk := true, fitCruise := 0, sums := {} })
  match slot with | some s => c.setEntry s (fun e => { e with taken := true }) | none => c

/-- FORCE_FIT_END: the move that a fit collected has ended; the command that asked for the fit completes with it (R158, 18.6). -/
def Chip.forceFitEnd (c : Chip) (n : Nat) : Chip :=
  let was := (c.cu n).fit
  let c := c.fitEnd n
  if was = 2 ∧ (c.cu n).fit = 0 then
    (c.wqm.entries.filter (fun e => e.taken && e.cstate == 0 && e.cmd.op == .curCal && e.cmd.a == n)).foldl
      (fun c e => c.complete e.slot (if c.is (CUR_AX_STAT_CAL_FAIL n) then 244 else 0) "") c
  else c

/-- The refusal of a ledger acknowledgement (R428, R429); 0 for none. -/
def Chip.ledgerAckErr (c : Chip) (seq : Nat) : Nat :=
  if c.msg.exp.isSome then 705
  else if c.ledg.ring = [] ∨ c.newestSeq < seq then 703
  else match c.ledg.expSeq with
    | some e => if seq < e then 704 else 0
    | none => 0

/-- A handover for the entry of a slot (R356, R427). -/
def Chip.handoverRun (c : Chip) (slot : Nat) : Chip :=
  let r := c.hoBegin
  if r.2 ≠ 0 then r.1.complete slot (519 + r.2) ""
  else ({ r.1 with pair := { r.1.pair with hoEntry := some slot } } : Chip).setEntry slot (fun e => { e with taken := true })

/-- The note of a fault acknowledgement: NONE where no such fault is in force (R487). -/
def Chip.faultAckRun (c : Chip) (code slot : Nat) : Chip :=
  let r := c.ackFault code
  r.1.complete slot (if r.2 = 1 then 309 else 0) (if r.2 = 2 then "note=NONE" else "")

/-- Completion with an error number. -/
def Chip.doneWith (r : Chip × Nat) (slot : Nat) : Chip := r.1.complete slot r.2 ""

/-- One entry executed. -/
def Chip.runEntry (c : Chip) (e : Entry) : Chip :=
  let q := e.cmd
  let s := e.slot
  match q.op with
  | .post => c.complete s 0 ""
  | .axisStart => Chip.doneWith (c.axisStart q.a q.b) s
  | .axisReref => Chip.doneWith (c.motReref q.a) s
  | .curCal => c.forceCal q.a (some s)
  | .curClrofs => if c.is (MOT_AX_STAT_BUSY q.a) then c.complete s 302 "" else (c.clearOffsets q.a).complete s 0 ""
  | .fbkArm => (c.put (FBK_CH_STAT_ARMED q.a) true).complete s 0 ""
  | .fbkDisarm => (c.put (FBK_CH_STAT_ARMED q.a) false).complete s 0 ""
  | .fbkCount =>
    if c.is (FBK_CH_CFG_ENABLE q.a) ∧ ¬ c.is (FBK_CH_STAT_STANDSTILL q.a) then c.complete s 310 ""
    else (c.countWrite q.a q.v).complete s 0 ""
  | .domArm => Chip.doneWith (c.armAdmitted q.a) s
  | .domDisarm => if q.a < 32 then c.complete s 402 "" else (c.disarm q.a).complete s 0 ""
  | .domD4 => (c.domWrite 4 q.v).complete s 0 ""
  | .configApply => c.configApply s
  | .configSave => c.configSave s
  | .tenantStart => Chip.doneWith (c.tenantOn q.a) s
  | .tenantStop => Chip.doneWith (c.tenantOff q.a) s
  | .canMode => (c.set (CAN_CTRL_MODE q.a) q.b).complete s 0 ""
  | .canInit =>
    if q.b = 1 then (c.canSetInit q.a true).complete s 0 ""
    else
      let r := c.canClearInit q.a
      r.1.complete s (if r.2 then 0 else 251) ""
  | .handover => c.handoverRun s
  | .ledgerAck => if c.ledgerAckErr q.v = 0 then (c.ledgerAck q.v).complete s 0 "" else c.complete s (c.ledgerAckErr q.v) ""
  | .updBegin => Chip.doneWith (c.updBegin q.a q.b q.v) s
  | .updVerify => c.updVerify q.a q.b s
  | .updActivate => c.updActivate q.a q.b s
  | .updConfirm => Chip.doneWith (c.updConfirm q.a) s
  | .updAbort => Chip.doneWith (c.updAbort q.a q.b) s
  | .fnReset => c.fnRequest q.a (some s) false
  | .causeClear =>
    (c.wr SYS_RST_CAUSE_REG (c.rd SYS_RST_CAUSE_REG &&& ~~~(BitVec.ofNat 32 q.v &&& 0x0001FF03#32))).complete s 0 ""
  | .setRelHold => (c.put VOTE_HOLD_REL_HOLD (q.b == 1)).complete s 0 ""
  | .faultAck => c.faultAckRun q.a s
  | .doorOpen | .doorClose | .doorRelease | .doorUnrelease | .doorReset | .doorIsolate | .doorUnisolate => c

/-- The executors at work: every entry that may run does, in order of acceptance, up to a number of them. -/
def Chip.settleN : Nat → Chip → Chip
  | 0, c => c
  | n + 1, c =>
    match c.nextRun with
    | some e => Chip.settleN n (c.runEntry e)
    | none => c

/-- What follows of itself once a command has had its effect: the queues' executors and a revert that waited for its handover. -/
def Chip.settle (c : Chip) : Chip :=
  if c.live .app ∧ c.sys.started then (Chip.settleN (c.wqm.entries.length + 4) c).revertHandover else c

/-- A command whose effect may let entries run. -/
def runS (d : Domain) (t : Nat) (f : Chip → Chip) (s : State) : Host.Outcome State Fault Refusal := run d t (fun c => (f c).settle) s

end Sys2Proof.Machine
end

