-- ==== Sys2Proof/Machine/MotionCmd.lean ====
section
/-! DEFINITION. The commands of motion and coil current (spec/06_motion_profiles.md, spec/07_coil_current.md). -/

namespace Sys2Proof.Machine

/-- PROFILE_TICK: every axis moves on by 1 us, and the domains that follow a commanded position take it (R105, R131); between a claim and
the first output cycle the axes stand as the mirror showed them (R139, R342). -/
def Chip.profileTick (c : Chip) : Chip :=
  if c.pair.claimAt.isSome then c else [0, 1, 2, 3].foldl (fun c n => (c.tickAxis n).domMot n) c

/-- A START of a motion set by a register write (R128). -/
def Chip.motStart (c : Chip) (n m : Nat) : Chip := (c.applySet n m .door).1

/-- A HALT (R133, R135). -/
def Chip.motHalt (c : Chip) (n : Nat) : Chip := c.hardStop n true

/-- REV_HOLD_END: T_REV has passed, and the axis leaves in the other direction from V_START; an axis whose target has meanwhile become its
position is idle (R131). -/
def Chip.revHoldEnd (c : Chip) (n : Nat) : Chip :=
  if c.get (MOT_AX_STAT_SEG n) = 8 ∧ (c.ax n).v = 0 ∧ c.restOver n then
    (if c.getI (MOT_AX_TGT_VALUE n) ≠ c.xpos n then c.leave n else c.standIn n 0)
  else c

/-- FORCE_TRIP: the trip asserts to MOT after two cycles at or above F_LIM (R157). -/
def Chip.forceTrip (c : Chip) (n : Nat) : Chip :=
  if 2 ≤ (c.cu n).overs ∧ ¬ c.is (CUR_AX_STAT_FTRIP n) then (c.put (CUR_AX_STAT_FTRIP n) true).trip n 0 else c

/-- OVERCURRENT (R159): F0801. -/
def Chip.overcurrent (c : Chip) (n : Nat) : Chip := c.latchOff n (CUR_AX_FAULT_OCP_S n) 0x0801

/-- OPEN_PHASE (R159): F0802, where eight cycles in a row of the phase stayed below 5 % of the set current. -/
def Chip.openPhase (c : Chip) (n p : Nat) : Chip :=
  if 8 ≤ ((c.cu n).ph p).openCnt then
    (c.latchOff n (CUR_AX_FAULT_OPEN_S n) 0x0802).setCu n (fun x => x.setPh p (fun h => { h with openCnt := 0 }))
  else c

/-- ADC_CHECK (R159): the 10 ms check; a failure raises F0803 once and takes the outputs high, where no force trip can arise. -/
def Chip.adcCheck (c : Chip) (n : Nat) (offset : Int) (refErr : Nat) : Chip :=
  let ok := decide (offset.natAbs ≤ 1000) && decide (refErr ≤ 2000)
  let was := (c.cu n).adcOk
  let c := c.setCu n (fun x => { x with adcOk := ok })
  if ok then c
  else
    let c := c.bridgeLoss n
    if was then (c.put (CUR_AX_FAULT_ADC_S n) true).raiseArg 0x0803 0 n else c

/-- CURRENT_SAG (R159): F0804, where every cycle of the phase ended by ON_LIM for 20 control cycles. -/
def Chip.currentSag (c : Chip) (n p : Nat) : Chip :=
  if 20 ≤ ((c.cu n).ph p).sagCnt then
    ((c.put (CUR_AX_FAULT_SAG_S n) true).raiseArg 0x0804 0 n).setCu n (fun x => x.setPh p (fun h => { h with sagCnt := 0 }))
  else c

/-- PROFILE_TICK (R131). -/
def execProfileTick (t : Nat) (s : State) : Host.Outcome State Fault Refusal := run .app t (fun c => c.profileTick) s

/-- MOT_START (R128). -/
def execMotStart (t : Nat) (ax : Fin 4) (set : Fin 64) (s : State) : Host.Outcome State Fault Refusal := run .app t (fun c => c.motStart ax set) s

/-- MOT_STOP (R133). -/
def execMotStop (t : Nat) (ax : Fin 4) (s : State) : Host.Outcome State Fault Refusal := run .app t (fun c => (c.softStop ax).1) s

/-- MOT_EMERG (R134). -/
def execMotEmerg (t : Nat) (ax : Fin 4) (s : State) : Host.Outcome State Fault Refusal := run .app t (fun c => c.emergency ax none) s

/-- MOT_HALT (R135). -/
def execMotHalt (t : Nat) (ax : Fin 4) (s : State) : Host.Outcome State Fault Refusal := run .app t (fun c => c.motHalt ax) s

/-- MOT_REREF (R137). -/
def execMotReref (t : Nat) (ax : Fin 4) (s : State) : Host.Outcome State Fault Refusal := run .app t (fun c => (c.motReref ax).1) s

/-- TRIP_INPUT (R134). -/
def execTripInput (t : Nat) (ax src : Fin 4) (s : State) : Host.Outcome State Fault Refusal := run .app t (fun c => c.trip ax src) s

/-- REV_HOLD_END (R131). -/
def execRevHoldEnd (t : Nat) (ax : Fin 4) (s : State) : Host.Outcome State Fault Refusal := run .app t (fun c => c.revHoldEnd ax) s

/-- HOLD_SCALE (R140). -/
def execHoldScale (t : Nat) (ax : Fin 4) (s : State) : Host.Outcome State Fault Refusal := run .app t (fun c => c.holdScale ax) s

/-- STALL (R142). -/
def execStall (t : Nat) (ax : Fin 4) (s : State) : Host.Outcome State Fault Refusal := run .app t (fun c => c.stallAxis ax) s

/-- CHOPPER_CYCLE_START (R148). -/
def execChopperCycleStart (t : Nat) (ax : Fin 4) (ph : Fin 2) (s : State) : Host.Outcome State Fault Refusal :=
  run .app t (fun c => c.cycleStart ax ph) s

/-- BLANKING_END (R149). -/
def execBlankingEnd (t : Nat) (ax : Fin 4) (ph : Fin 2) (i : Int) (s : State) : Host.Outcome State Fault Refusal :=
  run .app t (fun c => c.blankEnd ax ph i) s

/-- ON_STATE_END (R151). -/
def execOnStateEnd (t : Nat) (ax : Fin 4) (ph : Fin 2) (i : Int) (s : State) : Host.Outcome State Fault Refusal :=
  run .app t (fun c => c.onEnd ax ph i) s

/-- OFF_PHASE_END (R152). -/
def execOffPhaseEnd (t : Nat) (ax : Fin 4) (ph : Fin 2) (i mean : Int) (s : State) : Host.Outcome State Fault Refusal :=
  run .app t (fun c => c.offEnd ax ph i mean) s

/-- FORCE_TRIP (R157). -/
def execForceTrip (t : Nat) (ax : Fin 4) (s : State) : Host.Outcome State Fault Refusal := run .app t (fun c => c.forceTrip ax) s

/-- FORCE_CAL (R158). -/
def execForceCal (t : Nat) (ax : Fin 4) (s : State) : Host.Outcome State Fault Refusal := runS .app t (fun c => c.forceCal ax none) s

/-- FORCE_FIT_END (R158). -/
def execForceFitEnd (t : Nat) (ax : Fin 4) (s : State) : Host.Outcome State Fault Refusal := runS .app t (fun c => c.forceFitEnd ax) s

/-- CLR_OFS (R153). -/
def execClrOfs (t : Nat) (ax : Fin 4) (s : State) : Host.Outcome State Fault Refusal := run .app t (fun c => c.clearOffsets ax) s

/-- BRIDGE_ENABLE_LOSS (R145). -/
def execBridgeEnableLoss (t : Nat) (ax : Fin 4) (s : State) : Host.Outcome State Fault Refusal := run .app t (fun c => c.bridgeLoss ax) s

/-- OVERCURRENT (R159). -/
def execOvercurrent (t : Nat) (ax : Fin 4) (_ph : Fin 2) (s : State) : Host.Outcome State Fault Refusal := run .app t (fun c => c.overcurrent ax) s

/-- OPEN_PHASE (R159). -/
def execOpenPhase (t : Nat) (ax : Fin 4) (ph : Fin 2) (s : State) : Host.Outcome State Fault Refusal := run .app t (fun c => c.openPhase ax ph) s

/-- ADC_CHECK (R159). -/
def execAdcCheck (t : Nat) (ax : Fin 4) (offset : Int) (refErr : Nat) (s : State) : Host.Outcome State Fault Refusal :=
  run .app t (fun c => c.adcCheck ax offset refErr) s

/-- CURRENT_SAG (R159). -/
def execCurrentSag (t : Nat) (ax : Fin 4) (ph : Fin 2) (s : State) : Host.Outcome State Fault Refusal := run .app t (fun c => c.currentSag ax ph) s

end Sys2Proof.Machine
end

