-- ==== Sys2Proof/Machine/Access.lean ====
section
/-! DEFINITION. What an access of a core or a safety channel does: reads, snapshots, register writes and bus errors (spec/00 R9, R10, R523;
spec/22 R491 to R496). -/

namespace Sys2Proof.Machine

/-! ### The address map (Table 22-1) -/

/-- Whether an address lies in a block's registers. -/
def inBlocks (a : Nat) : Bool := within a 0x40000000 0x40140000 || within a 0x50000000 0x52000000

/-- Whether an address lies in the NOS, VMC or LPDDR4X region, which read 0 and ignore writes on the CV-4410N. -/
def inVision (a : Nat) : Bool := within a 0x50000000 0x52000000 || within a 0x80000000 0x180000000

/-- Whether an address lies in LPDDR4X as fitted. -/
def Chip.inDdr (c : Chip) (a : Nat) : Bool := within a 0x80000000 (0x80000000 + c.ddrSize)

/-- The function of Table 03-8 whose reset holds the block of an address. -/
def holderOf (a : Nat) : Option Nat :=
  if within a 0x40050000 0x40060000 then some 0
  else if within a 0x40070000 0x40080000 then some 1
  else if within a 0x50000000 0x51000000 then some 2
  else if within a 0x400A0000 0x400D0000 then some (5 + (a - 0x400A0000) / 0x10000)
  else if within a 0x400D0000 0x400E0000 then some 8
  else if within a 0x40110000 0x40120000 then some 9
  else none

/-- Whether a reset holds the register at an address (R496). -/
def Chip.inReset (c : Chip) (a : Nat) : Bool :=
  (match c.sys.held with | some l => !keptAt l a | none => false) ||
  (match holderOf a with | some f => c.sys.frst.any (fun r => r.func == f && r.acked) | none => false)

/-! ### Reads -/

/-- The entry of the fault list that FLT_LIST_IDX names (21.7). -/
def Chip.listEntry (c : Chip) : Option InForce := c.flt.inForce[c.get FLT_LIST_IDX_IDX]?

/-- FLT_LIST_ENT. -/
def Chip.listWord (c : Chip) : Nat :=
  match c.listEntry with
  | some e => e.code + 2 ^ 16 * (e.sev % 8) + 2 ^ 19 * cond e.esc 1 0 + 2 ^ 24 * satNat 8 e.count
  | none => 0

/-- TB_LOCAL of the entry's first or latest raise. -/
def Chip.listTime (c : Chip) (last : Bool) : Nat :=
  match c.listEntry with
  | some e => if last then e.last else e.first
  | none => 0

/-- A word of a register that stands for running state beside the register file; none for every other register. -/
def Chip.computedWord (c : Chip) (a : Nat) : Option Nat :=
  if a = TSYN_TBL_LO_REG then some c.now
  else if a = TSYN_TBL_LO_REG + 4 then some (c.now / 2 ^ 32)
  else if a = TSYN_TBV_LO_REG then some c.tbVeh
  else if a = TSYN_TBV_LO_REG + 4 then some (c.tbVeh / 2 ^ 32)
  else if a = DOM_D_VAL_LO_REG 7 then some c.tbVeh
  else if a = DOM_D_VAL_HI_REG 7 then some (c.tbVeh / 2 ^ 32)
  else if inRow a (DOM_D_VAL_LO_REG 0) 4 8 ∧ c.domValid ((a - DOM_D_VAL_LO_REG 0) / 8) then
    some (unsignedOf 64 (c.domUnits ((a - DOM_D_VAL_LO_REG 0) / 8)))
  else if inRow a (DOM_D_VAL_HI_REG 0) 4 8 ∧ c.domValid ((a - DOM_D_VAL_HI_REG 0) / 8) then
    some (unsignedOf 64 (c.domUnits ((a - DOM_D_VAL_HI_REG 0) / 8)) / 2 ^ 32)
  else if inRow a (CAN_TSX_LO_REG 0) 3 0x10000 then some (c.now / 1000)
  else if inRow a (CAN_TSX_HI_REG 0) 3 0x10000 then some (c.now / 1000 / 2 ^ 32)
  else if a = FLT_LIST_ENT_REG then some c.listWord
  else if a = FLT_LIST_FIRST_LO_REG then some (c.listTime false)
  else if a = FLT_LIST_FIRST_HI_REG then some (c.listTime false / 2 ^ 32)
  else if a = FLT_LIST_LAST_LO_REG then some (c.listTime true)
  else if a = FLT_LIST_LAST_HI_REG then some (c.listTime true / 2 ^ 32)
  else if a = FUSE_SERIAL_LO_REG then some c.fuses.serial
  else if a = FUSE_SERIAL_HI_REG then some (c.fuses.serial / 2 ^ 32)
  else if a = FUSE_DBG_REG then some (cond c.fuses.dbgEn 1 0)
  else if a = FUSE_KEYSTAT_REG then some (c.fuses.keyProg % 256 + 256 * (c.fuses.keyRevoked % 256))
  else if a = FUSE_SVN_SAFE_REG then some c.fuses.svnSafe
  else if a = FUSE_SVN_APP_REG then some c.fuses.svnApp
  else if a = ETH_MAC_LO_REG then some c.fuses.mac
  else if a = ETH_MAC_HI_REG then some (c.fuses.mac / 2 ^ 32 % 2 ^ 16)
  else if within a 0x50002000 0x50003000 then some (c.rdLe a 4)
  else if within a 0x400A0000 0x400D0000 ∧ 0x8000 ≤ a % 0x10000 ∧ a % 0x10000 < 0xA000 then some (c.rdLe a 4)
  else if within a 0x400A0000 0x400D0000 ∧ 0x4000 ≤ a % 0x10000 ∧ a % 0x10000 < 0x5000 then
    some (c.bufWord ((a - 0x400A0000) / 0x10000) (a % 0x1000 / 0x80) (a % 0x80 / 4)).toNat
  else none

/-- The bits of a word that reads show: none of a write-only field. -/
def readMask (a : Nat) (w : Nat) : Nat :=
  match regRowAt a with
  | some r => (r.fields.filter (fun f => f.acc == .wo)).foldl (fun n f => putBits n f.lo f.w 0) w
  | none => 0

/-- The word a read of a register shows, with nothing taken along: unassigned offsets read 0 (R10), a channel in SSI mode shows its pair
as SSI clock (R99). -/
def Chip.readWord (c : Chip) (a : Nat) : Word :=
  if c.inReset a || (c.fuses.partN && inVision a) then 0
  else
    match c.computedWord a with
    | some n => BitVec.ofNat 32 n
    | none =>
      let n := readMask a (c.rd a).toNat
      if inRow a (FBK_CH_CFG_REG 0) 6 0x100 ∧ bitsOf n 1 2 = 2 then BitVec.ofNat 32 (putBits n 14 2 3) else BitVec.ofNat 32 n

/-- The words that a read of a word samples with it (R84, R494). -/
def companions (a : Nat) : List Nat :=
  if inRow a (FBK_CH_LATCH_TS_LO_REG 0) 6 0x100 then [a + 4, a + 8]
  else if inRow a (NOS_GRID_FIDX_LO_REG 0) 4 0x20 then [a + 4, a + 8, a + 12, a + 16, a + 20, a + 24, a + 28]
  else if a = TSYN_TBL_LO_REG ∨ a = FLT_LIST_FIRST_LO_REG then [a + 4, a + 8, a + 12]
  else if inRow a (DOM_D_VAL_LO_REG 0) 8 8 || inRow a (DOM_PRED_LO_REG 0) 64 8 || a == DOOR_STATE_TS_LO_REG ||
      inRow a (NOS_CAM_FIDX_LO_REG 0) 2 0x40 || inRow a (NOS_CAM_FS_TS_LO_REG 0) 2 0x40 || inRow a (VMC_PMC_LO_REG 0) 8 8 ||
      inRow a (CAN_TSX_LO_REG 0) 3 0x10000 || a == PAIR_OFFSET_LO_REG || a == LEDG_SEQ_LO_REG || a == LEDG_EXP_LO_REG ||
      a == LEDG_OLD_LO_REG then [a + 4]
  else []

/-- Whether a word is one that another word's read samples. -/
def isCompanion (a : Nat) : Bool := [4, 8, 12, 16, 20, 24, 28].any (fun k => decide (k ≤ a) && (companions (a - k)).contains a)

/-- A word read by a requester: a snapshot word from its own snapshot, any other live, its companions with it (R494). -/
def Chip.readBy (c : Chip) (who a : Nat) : Word × Chip :=
  if isCompanion a then (if c.inReset a || (c.fuses.partN && inVision a) then 0 else lookupD c.snaps (8 * a + who) 0, c)
  else
    (c.readWord a,
     if c.inReset a then c
     else { c with snaps := (companions a).foldl (fun l x => insertD l (8 * x + who) (c.readWord x)) c.snaps })

/-- The effects of a read of a CAN buffer window: word 0 takes the lock, the last word gives it back (R282). -/
def Chip.windowRead (c : Chip) (a : Nat) : Chip :=
  if within a 0x400A0000 0x400D0000 ∧ 0x4000 ≤ a % 0x10000 ∧ a % 0x10000 < 0x5000 ∧ c.inReset a = false then
    let k := (a - 0x400A0000) / 0x10000
    let b := a % 0x1000 / 0x80
    let w := a % 0x80 / 4
    if c.get (CAN_MRCFG1_NBUF k) ≤ b then c
    else if w = 0 then c.putBit (CAN_RXB_LOCK_BITS k) b true
    else if w = 2 + canSize (c.get (CAN_MRCFG2_SZBUF k)) / 4 then c.bufRelease k b
    else c
  else c

/-- The chip with the answer of a bus access. -/
def Chip.answer (c : Chip) (r : Option Word) : Chip := { c with resp := some r }

/-- A word read over the bus (R491 to R496). -/
def Chip.busRead (c : Chip) (who a : Nat) : Chip :=
  if a % 4 ≠ 0 then c.answer none
  else if inBlocks a then
    let r := c.readBy who a
    (r.2.windowRead a).answer (some r.1)
  else if within a 0x10000000 0x10400000 || within a 0x20000000 0x20200000 then c.answer (some (BitVec.ofNat 32 (c.rdLe a 4)))
  else if a < 0x10000 then c.tickFree.answer (some (BitVec.ofNat 32 (Config.freeWord c.free)))
  else if c.fuses.partN && inVision a then c.answer (some 0)
  else if c.inDdr a then
    let w := BitVec.ofNat 32 (leValue (c.viewBytes (a - 0x80000000) 4))
    let k := c.agentRead 4 (a - 0x80000000) 4
    if k.resp = none then k.answer (some w) else k
  else if inVision a then (c.vmcRefuse 4 (a - 0x80000000)).answer none
  else c.answer none

/-- SNAPSHOT_READ: every read of a word, whether or not it takes others along. -/
def execSnapshotRead (t : Nat) (who : Fin 7) (a : Nat) (s : State) : Host.Outcome State Fault Refusal := runAny t (fun c => c.busRead who a) s

/-! ### Bus errors -/

/-- Whether an access is answered with a bus error (R491, R493, R255). -/
def Chip.busFails (c : Chip) (a width : Nat) (write : Bool) : Bool :=
  !([1, 2, 4, 8].contains width) || a % width != 0 ||
  (if inBlocks a then width != 4 && !(c.fuses.partN && inVision a)
   else if within a 0x10000000 0x10400000 || within a 0 0x10000 then write
   else if within a 0x20000000 0x20200000 then false
   else if inVision a then !(c.fuses.partN || c.inDdr a)
   else true)

/-- BUS_ERROR_ACCESS: no effect but the answer; beyond the LPDDR4X that is fitted also F0B07 (R255). -/
def Chip.busErrorAccess (c : Chip) (a width : Nat) (write : Bool) : Chip :=
  if c.busFails a width write then
    (if inVision a && !inBlocks a && !c.fuses.partN && !c.inDdr a && c.live .app then c.vmcRefuse 4 (a - 0x80000000) else c).answer none
  else c

/-- BUS_ERROR_ACCESS (R493). -/
def execBusErrorAccess (t a width : Nat) (write : Bool) (s : State) : Host.Outcome State Fault Refusal :=
  runAny t (fun c => c.busErrorAccess a width write) s

/-! ### Writes of plain fields -/

/-- The WR_ERR bit that a write of a register sets when it is ignored. -/
def wrErrOf (a : Nat) : Option Fld :=
  let off := a % 0x10000
  if within a 0x40050000 0x40060000 then some (if off < 0x600 then FBK_CH_STAT_WR_ERR (off / 0x100) else FBK_WHL_STAT_WR_ERR)
  else if within a 0x40060400 0x40060C00 then some (DOM_SLOT_STAT_WR_ERR ((off - 0x400) / 0x20))
  else if within a 0x40070000 0x40070400 then some (MOT_AX_STAT_WR_ERR (off / 0x100))
  else if within a 0x40080000 0x40080400 then some (CUR_AX_STAT_WR_ERR (off / 0x100))
  else if within a 0x40090000 0x400A0000 then some DOOR_STATUS_WR_ERR
  else if within a 0x40040000 0x40050000 then some VOTE_FAULT_WR_ERR
  else if within a 0x400A0000 0x400D0000 then some (CAN_STAT_WR_ERR ((a - 0x400A0000) / 0x10000))
  else if within a 0x400D0000 0x400E0000 then some ETH_CFG_WR_ERR
  else if within a 0x400E0000 0x400F0000 then some TSYN_STAT_WR_ERR
  else if within a 0x40030000 0x40040000 then some PAIR_STAT_WR_ERR
  else if within a 0x400F0000 0x40100000 then some WQM_STAT_WR_ERR
  else if within a 0x40100000 0x40110000 then some LEDG_STAT_WR_ERR
  else if within a 0x40120000 0x40130000 then some UPD_STAT_WR_ERR
  else if within a 0x50000040 0x500000C0 then some (NOS_CAM_STAT_WR_ERR ((off - 0x40) / 0x40))
  else if within a 0x50000000 0x51000000 then some NOS_STAT_WR_ERR
  else if within a 0x51000000 0x52000000 then some VMC_STAT_WR_ERR
  else none

/-- The chip with that bit set. -/
def Chip.wrErr (c : Chip) (a : Nat) : Chip := match wrErrOf a with | some f => c.put f true | none => c

/-- Whether a field may not change now: it is ignored with WR_ERR (R154, R223, R267, R273, 06.9, 10.10, 13.10). -/
def Chip.fieldLocked (c : Chip) (a : Nat) (f : FieldRow) : Bool :=
  let off := a % 0x10000
  if within a 0x40070000 0x40070400 then
    ((off % 0x100 == 0 && f.lo == 16) || off % 0x100 == 4) && c.is (MOT_AX_CFG_ENABLE (off / 0x100))
  else if within a 0x40080000 0x40080400 then
    ((off % 0x100 == 0 && f.lo != 0) || (off % 0x100 == 4 && f.lo != 24)) && c.is (MOT_AX_STAT_BUSY (off / 0x100))
  else if within a 0x40060400 0x40060C00 then c.armed ((off - 0x400) / 0x20)
  else if within a 0x400A0000 0x400D0000 then
    let k := (a - 0x400A0000) / 0x10000
    ((off == 0 && (f.lo == 2 || f.lo == 3 || f.lo == 4)) || [0x10, 0x14, 0x18, 0x20, 0x30, 0x34, 0x38].contains off) &&
      !c.is (CAN_STAT_INIT_ACK k)
  else if a = ETH_CFG_REG then f.lo != 0 && c.is ETH_CFG_EN
  else if inRow a (ETH_PORT_CFG_REG 0) 2 0x10 then c.is ETH_CFG_EN
  else if inRow a (NOS_CAM_CFG_REG 0) 2 0x40 then f.lo != 0 && c.is (NOS_CAM_CFG_EN ((off - 0x40) / 0x40))
  else if inRow a (NOS_CAM_GEOM_REG 0) 2 0x40 || inRow a (NOS_CAM_RING_REG 0) 2 0x40 then c.is (NOS_CAM_CFG_EN ((off - 0x40) / 0x40))
  else if a == VMC_DDR_CFG_REG || within a (VMC_SHR_BASE_REG 0) (VMC_RING_BASE_REG 2) then c.is NOS_CTRL_ENABLE
  else false

/-- Whether a written value is ignored without a sign: the O pair of a channel in SSI mode, and the SSI clock as a choice (R99). -/
def Chip.fieldSilent (c : Chip) (a : Nat) (f : FieldRow) (v : Nat) : Bool :=
  inRow a (FBK_CH_CFG_REG 0) 6 0x100 && f.lo == 14 && (v == 3 || bitsOf (c.rd a).toNat 1 2 == 2)

/-- Whether the spec states an error number for a value out of range, which takes the place of WR_ERR. -/
def codedRange (a : Nat) (f : FieldRow) : Bool :=
  !(rangeCode a f == 201 || rangeCode a f == 241) || (inRow a (FBK_CH_CFG_REG 0) 6 0x100 && f.lo == 1)

/-- A written value as its field reads it. -/
def fieldInt (f : FieldRow) (v : Nat) : Int := if f.sgn then signedOf f.w v else v

/-- The word with the read-write fields of a write taken, and whether one was ignored with WR_ERR: a field is checked only where it changes
(R523). -/
def Chip.takeFields (c : Chip) (a v : Nat) (fs : List FieldRow) (w : Nat) : Nat × Bool :=
  fs.foldl (fun (p : Nat × Bool) (f : FieldRow) =>
    let x := bitsOf v f.lo f.w
    if x = bitsOf w f.lo f.w ∨ c.fieldSilent a f x then p
    else if c.fieldLocked a f then (p.1, true)
    else if fieldOk a f (fieldInt f x) then (putBits p.1 f.lo f.w x, p.2)
    else (p.1, p.2 || !codedRange a f)) (w, false)

/-- The word with the bits cleared that a 1 clears, but for those set since the word `w0` that it was when the present tick began (R495;
log 74). -/
def clearFields (v w0 : Nat) (fs : List FieldRow) (w : Nat) : Nat :=
  fs.foldl (fun n f => if f.acc = .w1c ∨ f.acc = .rws then
    putBits n f.lo f.w (Nat.land (bitsOf n f.lo f.w) (Nat.xor (Nat.land (bitsOf v f.lo f.w) (bitsOf w0 f.lo f.w)) (2 ^ f.w - 1))) else n) w

/-- Whether a changed configuration breaks a rule of its chapter that the present one meets (log 63). -/
def newlyBroken (c k : Chip) : Bool := (k.allRules.zip c.allRules).any (fun p => p.1.1 && !p.2.1)

/-- Whether DOOR's state refuses a write of the register with E302 (08.12, R217). -/
def Chip.stateRefuses (c : Chip) (a : Nat) : Bool :=
  let s := c.doorState
  (within a 0x40090000 0x40090040 && !(s == 0 || s == 3 || s == 10)) ||
  (within a 0x40040000 0x40050000 && a != VOTE_HOLD_REG && !(s == 0 || s == 10))

/-- A write of a register whose fields only hold what is written. -/
def Chip.plainWrite (c : Chip) (a v : Nat) : Chip :=
  match regRowAt a with
  | none => c
  | some r =>
    let w := (c.rd a).toNat
    let rw := r.fields.filter (fun f => f.acc == .rw)
    let t := if c.stateRefuses a then (w, false) else c.takeFields a v rw w
    let k := c.wr a (BitVec.ofNat 32 t.1)
    let refused := t.1 != w && newlyBroken c k
    let k := if refused then c else Chip.regsChanged c k
    let k := k.wr a (BitVec.ofNat 32 (clearFields v (sread resetWord c.tickRegs a).toNat r.fields (k.rd a).toNat))
    if t.2 then k.wrErr a else k

/-! ### Registers whose write acts -/

/-- MOT_AXn_CMD (06.9). -/
def Chip.motCmd (c : Chip) (n v : Nat) : Chip :=
  match bitsOf v 0 3 with
  | 1 => c.motStart n (bitsOf v 8 6)
  | 2 => (c.softStop n).1
  | 3 => c.emergency n none
  | 4 => c.motHalt n
  | 5 => (c.motReref n).1
  | _ => c

/-- CUR_AXn_CMD (R153, R158). -/
def Chip.curCmd (c : Chip) (n v : Nat) : Chip :=
  let c := if bitAt v 0 then c.forceCal n none else c
  if bitAt v 1 then c.clearOffsets n else c

/-- DOOR_CMD: a request of role service in the door register queue (08.12, Table 16-1). -/
def Chip.doorReg (c : Chip) (v : Nat) : Chip :=
  let op := match bitsOf v 0 4 with
    | 1 => some QOp.doorOpen | 2 => some QOp.doorClose | 3 => some QOp.doorRelease | 4 => some QOp.doorUnrelease
    | 5 => some QOp.doorReset | 6 => some QOp.doorIsolate | 7 => some QOp.doorUnisolate | _ => none
  match op, c.queueOf 17 128 with
  | some op, some q =>
    if c.isStandby = false then
      (c.offer q 17 0 0 (c.opMotion op) { op := op, a := bitsOf v 4 1, b := 0, v := 0 } .nobody).1
    else c
  | _, _ => c

/-- CANn_CTRL: the plain fields, then INIT (R271, R273). -/
def Chip.canCtrl (c : Chip) (k v : Nat) : Chip :=
  let was := c.is (CAN_CTRL_INIT k)
  let c := c.plainWrite (CAN_CTRL_REG k) (setBit v 1 was)
  if bitAt v 1 ∧ was = false then c.canSetInit k (c.is (CAN_STAT_BUSY k))
  else if was ∧ bitAt v 1 = false then (c.canClearInit k).1
  else c

/-- A word of a CAN message RAM: the filter areas only in INIT, an element never while its request is pending (R273, R283). A filter element that
an uncorrectable error had disabled works again once it is rewritten (R292). -/
def Chip.canRamWrite (c : Chip) (k off v : Nat) : Chip :=
  let tb := c.canArea k 5
  let size := 12 + canSize (c.get (CAN_MRCFG2_SZTX k))
  if (off < c.canArea k 2 ∧ ¬ c.is (CAN_STAT_INIT_ACK k)) ∨
      (tb ≤ off ∧ off < c.canArea k 6 ∧ c.bit (CAN_TX_PEND_BITS k) ((off - tb) / size)) then c.put (CAN_STAT_WR_ERR k) true
  else
    let e := if off < c.canArea k 1 then off / 4 else 64 + (off - c.canArea k 1) / 8
    let c := if off < c.canArea k 2 then c.setCc k (fun x => { x with badFilt := x.badFilt.filter (fun i => i != e) }) else c
    c.mwr k off v

/-- A write in a CAN controller's region. -/
def Chip.canWrite (c : Chip) (k off v : Nat) : Chip :=
  if 0x8000 ≤ off ∧ off < 0xA000 then c.canRamWrite k (off - 0x8000) v
  else if off = 0 then c.canCtrl k v
  else if off = 0x64 ∨ off = 0x6C then
    let m := (off - 0x64) / 8
    let c := c.set (CAN_RXF_REL_WM k m) (bitsOf v 8 6)
    c.fifoFree k (CAN_RXF_STAT_FILL k m) (CAN_RXF_STAT_GET k m) (CAN_RXF_STAT_FULL k m) (c.fifoDepth k m) (bitsOf v 0 6)
  else if off = 0xB4 then
    let c := c.set (CAN_TEV_REL_WM k) (bitsOf v 8 6)
    c.fifoFree k (CAN_TEV_STAT_FILL k) (CAN_TEV_STAT_GET k) (CAN_TEV_STAT_FULL k) (c.get (CAN_MRCFG1_NTEV k)) (bitsOf v 0 6)
  else if off = 0x7C then c.forBits v (fun c b => c.bufRelease k b) 32
  else if off = 0x94 then c.txGoWrite k v
  else if off = 0x98 then c.forBits v (fun c b => c.txAbortOne k b (c.is (CAN_STAT_BUSY k))) (c.get (CAN_MRCFG1_NTX k))
  else c.plainWrite (CAN_CTRL_REG k + off) v

/-- VMC_CMD (R267). -/
def Chip.vmcCmd (c : Chip) (v : Nat) : Chip :=
  let p := bitsOf v 0 3
  if 4 < p ∨ c.partIdle p = false then c
  else match bitsOf v 4 2 with
    | 1 => c.partClean p
    | 2 => c.partFlush p
    | _ => c

/-- A write of a register of a block (R9, R10). -/
def Chip.regWrite (c : Chip) (a v : Nat) : Chip :=
  let off := a % 0x10000
  if c.inReset a || (c.fuses.partN && inVision a) then c
  else if a = SYS_FRST_CTRL_REG then (if bitAt v 8 then (c.fnRequest (bitsOf v 0 4) none false).visionCheck else c)
  else if a = SUP_VSENSE_CFG_REG then c.threshWrite v
  else if a = PAIR_HO_CTRL_REG then (if bitAt v 0 then c.hoBegin.1 else c)
  else if inRow a (FBK_CH_COUNT_REG 0) 6 0x100 then c.countWrite (off / 0x100) v
  else if inRow a (FBK_CH_ICTL_REG 0) 6 0x100 then
    let c := if bitAt v 0 then c.put (FBK_CH_STAT_ARMED (off / 0x100)) true else c
    if bitAt v 1 then c.put (FBK_CH_STAT_ARMED (off / 0x100)) false else c
  else if inRow a (DOM_SLOT_CTL_REG 0) 64 0x20 then
    let n := (off - 0x418) / 0x20
    let c := if bitAt v 0 then (c.arm n).1 else c
    if bitAt v 1 then c.disarm n else c
  else if a = DOM_D4_SET_REG then c.domWrite 4 v
  else if a = DOM_LF_STAT_REG then
    let c := c.plainWrite a v
    if bitAt v 16 then ({ c with dom := { c.dom with lf := c.dom.lf.drop 1 } } : Chip).showLf else c
  else if inRow a (MOT_AX_CMD_REG 0) 4 0x100 then c.motCmd (off / 0x100) v
  else if inRow a (CUR_AX_CMD_REG 0) 4 0x100 then c.curCmd (off / 0x100) v
  else if a = DOOR_CMD_REG then c.doorReg v
  else if within a 0x400A0000 0x400D0000 then c.canWrite ((a - 0x400A0000) / 0x10000) off v
  else if a = VMC_CMD_REG then c.vmcCmd v
  else if inRow a (VMC_PART_CFG_REG 0) 5 0x10 then
    (if bitsOf v 0 17 = bitsOf (c.rd a).toNat 0 17 then c else c.partReconfig ((off - 0x100) / 0x10) v)
  else if inRow a (VMC_PMC_SEL_REG 0) 8 4 then c.pmcSelWrite ((a - VMC_PMC_SEL_REG 0) / 4) v
  else if a = FLT_ACK_REG then (c.ackFault (bitsOf v 0 16)).1
  else c.plainWrite a v

/-- A word written over the bus. -/
def Chip.busWrite (c : Chip) (a v : Nat) : Chip :=
  if a % 4 ≠ 0 then c.answer none
  else if inBlocks a then c.regWrite a v
  else if within a 0x20000000 0x20200000 then c.wrBytes a (leBytes 4 v)
  else if c.fuses.partN && inVision a then c
  else if c.inDdr a then c.l2Access { agent := 4, off := a - 0x80000000, len := 4, wr := some (leBytes 4 v) }
  else if inVision a then (c.vmcRefuse 4 (a - 0x80000000)).answer none
  else c.answer none

/-- REGISTER_WRITE (R9). -/
def execRegisterWrite (t a : Nat) (v : Word) (s : State) : Host.Outcome State Fault Refusal := runS .app t (fun c => c.busWrite a v.toNat) s

end Sys2Proof.Machine
end

