-- ==== Sys2Proof/Machine/ConLine.lean ====
section
/-! DEFINITION. What becomes of a console line: the session takes it, its form, role and place are checked, and a direct command is answered
or a queued one offered to the session's queue (spec/17 R392 to R411, spec/18 R413 to R416; spec/20 R470 for the boot ROM's console). -/

namespace Sys2Proof.Machine

/-! ### Replies -/

/-- Keys and values of a reply. -/
def kvs (l : List (String × String)) : String := String.intercalate " " (l.map (fun p => p.1 ++ "=" ++ p.2))

/-- A hexadecimal value of a reply, of `k` digits. -/
def hexVal (k n : Nat) : String := "0x" ++ hexStr k n

/-- A register field as a decimal number. -/
def Chip.num (c : Chip) (f : Fld) : String := toString (c.get f)

/-- A signed register field as a decimal number. -/
def Chip.numI (c : Chip) (f : Fld) : String := intStr (c.getI f)

/-- A 64-bit value over two fields as a decimal number. -/
def Chip.num64 (c : Chip) (lo hi : Fld) : String := toString (c.get64 lo hi)

/-- The reply `ok`. -/
def Chip.okay (c : Chip) (l : Ln) (text : String) : Chip :=
  c.reply l.sess l.tag (if text = "" then "ok" else if text.startsWith " " then "ok" ++ text else "ok " ++ text)

/-- The reply `err` with its detail (R401). -/
def Chip.fail (c : Chip) (l : Ln) (code : Nat) (detail : String) : Chip :=
  c.reply l.sess l.tag ("err " ++ errName code ++ (if detail = "" then "" else " " ++ detail))

/-- A reply of several lines and its end (R400). -/
def Chip.okLines (c : Chip) (l : Ln) (ls : List String) (last : String) : Chip :=
  (ls.foldl (fun c x => c.replyMore l.sess l.tag x) c).okay l last

/-! ### A line taken up -/

/-- A line has ended: notifications that waited go out, the line typed so far is taken, and a generated line sets its session to generated
mode (R394, R396). -/
def Chip.lineTaken (c : Chip) (s : Nat) (gen : Bool) : Chip :=
  let idle : Bool := match c.sess[s]? with | some x => decide (x.busyUntil ≤ c.now) | none => false
  let c := if idle then c.flushNotes s else c
  let c : Chip := { c with sess := modAt c.sess s (fun x => { x with lastLine := c.now, typed := [], esc := false }) }
  if gen then c.putBit CON_SESS_STAT_GEN s true else c

/-- A command line: what is wrong with its tag or values, the role it needs, whether it acts on the doorway (log 63 gives the order of the
checks), then its effect (R394, R398, R406, R410, R414, R415). -/
def Chip.conLine (c : Chip) (l : Ln) (bad role : Nat) (doorway : Bool) (f : Chip → Chip) : Chip :=
  let s : Nat := l.sess
  if c.sessOpen s then
    let c := c.lineTaken s l.tag.isSome
    if c.sessGen s ∧ l.tag = none then c.fail l 102 ""
    else if 65535 < l.tag.getD 0 then c.fail { l with tag := none } 110 ""
    else if bad ≠ 0 then c.fail l bad ""
    else if c.sessRole s < role then c.fail l 401 ""
    else if doorway ∧ c.isStandby then c.fail l 403 ""
    else f c
  else c

/-- A line to the boot ROM at boot source 10: only on UART0, only generated, roles not checked; any command it does not have is E101
(R470). -/
def Chip.romLine (c : Chip) (l : Ln) (f : Chip → Chip) : Chip :=
  if c.get SYS_BOOT_STAT_SOURCE = 2 ∧ l.sess = 0 then
    if l.tag = none then c.sendLine 0 (genLine "=? err E102")
    else if 65535 < l.tag.getD 0 then c.sendLine 0 (genLine "=? err E110")
    else f c
  else c

/-- A command that the boot ROM does not have. -/
def Chip.romUnknown (c : Chip) (l : Ln) : Chip := c.romLine l (fun c => c.fail l 101 "")

/-- A console command at instant `t`, with what the boot ROM does of it while it waits for a download. -/
def conRunWith (t : Nat) (rom f : Chip → Chip) (s : State) : Host.Outcome State Fault Refusal :=
  runAny t (fun c =>
    if c.sys.held.isSome then c
    else if c.sys.bootWait then rom c
    else if c.sys.started then (f c).settle else c) s

/-- A console command that the boot ROM does not have. -/
def conRun (t : Nat) (l : Ln) (f : Chip → Chip) (s : State) : Host.Outcome State Fault Refusal := conRunWith t (fun c => c.romUnknown l) f s

/-- E108 for an index that does not lie below `n` (R415), else 0. -/
def badIndex (i n : Nat) : Nat := if i < n then 0 else 108

/-- What stands against a vision command: E203 on the CV-4410N (R426), then its index. -/
def Chip.badVision (c : Chip) (i n : Nat) : Nat := if c.fuses.partN then 203 else badIndex i n

/-! ### Queued commands (R402, R403, R411) -/

/-- The stored reply of a command, sent again (R402, R403). -/
def Chip.replayLine (c : Chip) (l : Ln) (w : WinEntry) : Chip :=
  let status := leAt w.reply 0 1
  let flags := leAt w.reply 1 1
  if w.phase = 0 then c.reply l.sess l.tag (acceptText w.queue w.qseq true (bitAt flags 0) (bitAt flags 1))
  else if status = 0 then c.reply l.sess l.tag ("ok rpl=1 " ++ kvs [("q", toString w.queue), ("seq", toString w.qseq), ("code", "0")])
  else c.reply l.sess l.tag ("err rpl=1 " ++ errName w.ecode ++ " " ++ kvs [("q", toString w.queue), ("seq", toString w.qseq)])

/-- A queued command offered to the session's queue; where no queue is bound to the session, E505 (log 64). -/
def Chip.queueCmd (c : Chip) (l : Ln) (cmd : QCmd) : Chip :=
  let src := 9 + l.sess.val
  match c.queueOf src 128 with
  | none => c.fail l 505 ""
  | some q =>
    match c.offer q src (l.tag.getD 0) l.pcrc.toNat (c.opMotion cmd.op) cmd (.session l.sess l.tag) with
    | (c, .refused _ e) => c.fail l e ""
    | (c, .replay w) => c.replayLine l w
    | (c, _) => c

/-- Whether the tag of a queued line is known in its window set already, or its command still being accepted: such a line is replayed or
refused by R402 before anything else is looked at. -/
def Chip.knownLine (c : Chip) (l : Ln) : Bool :=
  let key := l.tag.getD 0
  let src := 9 + l.sess.val
  decide (key ≠ 0) && ((c.findWindow ((winSet src).getD 15) key).isSome ||
    c.wqm.entries.any (fun e => e.source == src && e.key == key && !e.visible && e.cstate == 0))

/-- A queued command of a resource that DOOR owns, refused at once with E402 (the example of 18.6; log 64). -/
def Chip.queueOwned (c : Chip) (l : Ln) (owned : Bool) (item : String) (cmd : QCmd) : Chip :=
  if owned ∧ c.knownLine l = false then c.fail l 402 ("item=" ++ item) else c.queueCmd l cmd

/-- A queued console command with its numbers. -/
def Chip.conQueued (c : Chip) (l : Ln) (bad role : Nat) (doorway : Bool) (op : QOp) (a b v : Nat) : Chip :=
  c.conLine l bad role doorway (fun c => c.queueCmd l { op := op, a := a, b := b, v := v })

end Sys2Proof.Machine
end

