-- ==== Sys2Proof/Machine/ConGrammar.lean ====
section
/-! DEFINITION. The commands of the console as text: their forms, the checks of a line that is not one of them, and help (spec/17 R392 to
R398, Tables 17-3 and 17-5; spec/18 R413, Tables 18-2 to 18-12). -/

namespace Sys2Proof.Machine

/-! ### Forms -/

/-- The form of a value. -/
inductive ValForm where
  | int
  | word (names : List String)
  | hex (digits : Nat)
  | grouped
  | fault
deriving DecidableEq, Repr

/-- One element of a command after its family. -/
inductive Elem where
  | lit (w : String)
  /-- An index below `n`. -/
  | index (n : Nat)
  | val (v : ValForm)
deriving DecidableEq, Repr

/-- One command: its family, its elements, its keywords with whether each is needed, its role (0 view, 1 operate, 2 service), whether it is
queued. -/
structure Form where
  family : String
  elems : List Elem
  keys : List (String × ValForm × Bool)
  role : Nat
  queued : Bool
deriving DecidableEq, Repr

/-- A form with literal verbs only. -/
def verbs (family : String) (role : Nat) (queued : Bool) (l : List String) : List Form :=
  l.map (fun w => ⟨family, if w = "" then [] else [.lit w], [], role, queued⟩)

/-- Forms `FAMILY N verb`. -/
def indexed (family : String) (n role : Nat) (queued : Bool) (l : List String) : List Form :=
  l.map (fun w => ⟨family, [.index n, .lit w], [], role, queued⟩)

/-- The names of the images (R430). -/
def imgNames : List String := ["SAFE", "APP", "MOTU", "NOSF", "TENT.2", "TENT.3", "CANS", "ETHS", "CONS"]

/-- The keys of the update commands. -/
def imgKeys2 : List (String × ValForm × Bool) := [("img", .word imgNames, true), ("slot", .word ["A", "B"], true)]

/-- Tables 18-2 and 18-3. -/
def formsA : List Form :=
  verbs "help" 0 false [""] ++
  [⟨"help", [.val (.word [])], [], 0, false⟩] ++ verbs "ping" 0 false [""] ++ verbs "mode" 0 false ["gen", "typed"] ++
  [⟨"sub", [.val (.word ["fault", "state", "pair", "adm", "update"]), .val (.word ["on", "off"])], [], 0, false⟩] ++
  verbs "role" 0 false ["view", "operate"] ++ [⟨"auth", [], [("resp", .grouped, false)], 0, false⟩] ++
  [⟨"get", [], [("pending", .int, false)], 0, false⟩, ⟨"set", [], [], 2, false⟩,
   ⟨"config", [.lit "show"], [("layer", .word ["FACTORY", "SAVED", "WORKING", "RUNNING"], false)], 0, false⟩] ++
  verbs "config" 0 false ["crc"] ++ verbs "config" 2 true ["apply", "save"] ++ verbs "config" 2 false ["revert", "factory"]

/-- Tables 18-4 and 18-5. -/
def formsB : List Form :=
  [⟨"door", [.lit "open"], [("ramp", .int, false)], 1, true⟩] ++ verbs "door" 1 true ["close", "release", "unrelease", "reset"] ++
  verbs "door" 2 true ["isolate", "unisolate"] ++ verbs "door" 0 false ["status", "meas"] ++
  indexed "axis" 4 0 false ["status"] ++ [⟨"axis", [.index 4, .lit "start"], [("set", .int, true)], 2, true⟩] ++
  indexed "axis" 4 1 false ["stop", "emerg"] ++ indexed "axis" 4 2 false ["halt"] ++ indexed "axis" 4 2 true ["reref"] ++
  indexed "cur" 4 0 false ["status"] ++ indexed "cur" 4 2 true ["cal", "clrofs"]

/-- Tables 18-6 to 18-8. -/
def formsC : List Form :=
  indexed "fbk" 6 0 false ["status"] ++ indexed "fbk" 6 2 true ["arm", "disarm"] ++
  [⟨"fbk", [.index 6], [("count", .int, true)], 2, true⟩] ++ verbs "fbk" 0 false ["wheel"] ++ verbs "dom" 0 false ["status"] ++
  [⟨"dom", [.lit "slot", .index 64], [], 0, false⟩, ⟨"dom", [.lit "arm", .index 64], [], 2, true⟩,
   ⟨"dom", [.lit "disarm", .index 64], [], 2, true⟩, ⟨"dom", [.lit "d4", .val .int], [], 2, true⟩, ⟨"dom", [.lit "lf"], [], 0, false⟩,
   ⟨"dom", [.lit "lf", .lit "pop"], [], 2, false⟩] ++
  verbs "vision" 0 false ["status"] ++
  [⟨"vision", [.lit "cam", .index 2], [], 0, false⟩, ⟨"vision", [.lit "tenant", .index 4], [], 0, false⟩,
   ⟨"vision", [.lit "grid", .index 2], [("tenant", .int, true)], 0, false⟩,
   ⟨"vision", [.lit "tenant", .index 4, .lit "start"], [], 2, true⟩, ⟨"vision", [.lit "tenant", .index 4, .lit "stop"], [], 2, true⟩] ++
  indexed "can" 3 0 false ["status"] ++
  [⟨"can", [.index 3, .lit "mode", .val (.word ["NORMAL", "MONITOR", "LOOP_INT"])], [], 2, true⟩,
   ⟨"can", [.index 3, .lit "init", .val .int], [], 2, true⟩] ++
  verbs "eth" 0 false ["status"] ++ [⟨"eth", [.lit "port", .index 2], [], 0, false⟩] ++ verbs "time" 0 false ["status", "now"]

/-- Tables 18-9 to 18-12. -/
def formsD : List Form :=
  verbs "pair" 0 false ["status", "health"] ++ verbs "pair" 2 true ["handover"] ++
  [⟨"queue", [.index 128], [("key", .int, false)], 0, false⟩] ++ verbs "fault" 0 false ["list"] ++
  [⟨"fault", [.lit "ack", .val .fault], [], 2, true⟩] ++ verbs "ledger" 0 false ["status"] ++
  [⟨"ledger", [.lit "read"], [("seq", .int, true), ("count", .int, false)], 0, false⟩,
   ⟨"ledger", [.lit "ack"], [("seq", .int, true)], 2, true⟩,
   ⟨"update", [.lit "status"], [("img", .word imgNames, false)], 0, false⟩,
   ⟨"update", [.lit "begin"], imgKeys2 ++ [("size", .int, true)], 2, true⟩,
   ⟨"update", [.lit "data"], [("off", .int, true), ("hex", .hex 256, true)], 2, false⟩,
   ⟨"update", [.lit "verify"], imgKeys2, 2, true⟩, ⟨"update", [.lit "activate"], imgKeys2, 2, true⟩,
   ⟨"update", [.lit "confirm"], [("img", .word imgNames, true)], 2, true⟩, ⟨"update", [.lit "abort"], imgKeys2, 2, true⟩] ++
  verbs "reset" 2 true ["fbk", "mot", "nos", "t2", "t3", "can0", "can1", "can2", "eth", "con"] ++ verbs "sys" 0 false ["info"] ++
  [⟨"sys", [.lit "cause"], [], 0, false⟩, ⟨"sys", [.lit "cause"], [("clear", .int, true)], 2, true⟩] ++
  verbs "sys" 0 false ["frst", "supply"]

/-- Every command. -/
def forms : List Form := formsA ++ formsB ++ formsC ++ formsD

/-- The families, in the order of the tables. -/
def families : List String := ["help", "ping", "mode", "sub", "role", "auth", "get", "set", "config", "door", "axis", "cur", "fbk", "dom",
  "vision", "can", "eth", "time", "pair", "queue", "fault", "ledger", "update", "reset", "sys"]

/-! ### Text of a form -/

/-- An element as `help` shows it. -/
def Elem.text : Elem → String
  | .lit w => w
  | .index _ => "N"
  | .val _ => "V"

/-- A command as `help` shows it. -/
def Form.text (f : Form) : String := String.intercalate " " (f.family :: f.elems.map Elem.text)

/-- Its verb, for the list of a family. -/
def Form.verb (f : Form) : String :=
  match f.elems.filterMap (fun e => match e with | .lit w => some w | _ => none) with
  | [] => f.family
  | l => String.intercalate "_" l

/-- The name of a role. -/
def roleWord (n : Nat) : String := (["VIEW", "OPERATE", "SERVICE"][n]?).getD "VIEW"

/-- HELP: a line per family with its commands, or a line per command of one family (Table 18-2). -/
def Chip.helpReply (c : Chip) (l : Ln) (family : Option String) : Chip :=
  match family with
  | none =>
    c.okLines l (families.map (fun f =>
      kvs [("family", f), ("cmds", String.intercalate "," ((forms.filter (fun x => x.family == f)).map Form.verb).eraseDups)]))
      ("n=" ++ toString families.length)
  | some f =>
    let f := f.toLower
    if families.contains f then
      let fs := forms.filter (fun x => x.family == f)
      c.okLines l (fs.map (fun x => kvs [("cmd", "\"" ++ x.text ++ "\""), ("role", roleWord x.role), ("kind", if x.queued then "Q" else "D")]))
        ("n=" ++ toString fs.length)
    else c.fail l 101 ""

/-! ### The checks of a line (Table 17-3) -/

/-- Whether a character is a decimal digit. -/
def isDec (ch : Char) : Bool := decide ('0' ≤ ch ∧ ch ≤ '9')

/-- Whether a character is a hexadecimal digit. -/
def isHexCh (ch : Char) : Bool := isDec ch || decide ('a' ≤ ch ∧ ch ≤ 'f') || decide ('A' ≤ ch ∧ ch ≤ 'F')

/-- The value of a hexadecimal digit. -/
def hexOf (ch : Char) : Nat := if isDec ch then ch.toNat - 48 else if ch.toNat < 97 then ch.toNat - 55 else ch.toNat - 87

/-- Whether characters make an integer. -/
def isIntText (cs : List Char) : Bool :=
  match cs with
  | '0' :: 'x' :: r => decide (1 ≤ r.length ∧ r.length ≤ 16) && r.all isHexCh
  | '-' :: r => decide (1 ≤ r.length ∧ r.length ≤ 20) && r.all isDec
  | r => decide (1 ≤ r.length ∧ r.length ≤ 20) && r.all isDec

/-- The value of an unsigned integer text; a value too large to be an index for any other. -/
def natOfText (cs : List Char) : Nat :=
  match cs with
  | '0' :: 'x' :: r => r.foldl (fun n ch => 16 * n + hexOf ch) 0
  | '-' :: _ => 2 ^ 64
  | r => r.foldl (fun n ch => 10 * n + hexOf ch) 0

/-- Whether characters make a value of a form. -/
def valOk (v : ValForm) (cs : List Char) : Bool :=
  match v with
  | .int => isIntText cs
  | .word [] => !cs.isEmpty
  | .word ns => ns.any (fun n => n.toLower == (String.ofList cs).toLower)
  | .hex k => cs.length == k && cs.all isHexCh
  | .grouped => cs.length == 39 && (List.range 39).all (fun i => match cs[i]? with
      | some ch => if i % 5 = 4 then ch == '-' else isHexCh ch | none => false)
  | .fault => match cs with
    | f :: r => (f == 'F' || f == 'f') && r.length == 4 && r.all isHexCh
    | [] => false

/-- The elements of a line, which spaces separate outside strings; and with `cmt` without a comment. -/
def splitLine (cmt : Bool) : List Char → Bool → Bool → List Char → List (List Char)
  | [], _, _, cur => if cur = [] then [] else [cur.reverse]
  | ch :: r, inStr, esc, cur =>
    if inStr then splitLine cmt r (esc || ch != '"') (!esc && ch == '\\') (ch :: cur)
    else if ch = '"' then splitLine cmt r true false (ch :: cur)
    else if cmt ∧ ch = '#' then (if cur = [] then [] else [cur.reverse])
    else if ch = ' ' then (if cur = [] then splitLine cmt r false false [] else cur.reverse :: splitLine cmt r false false [])
    else splitLine cmt r false false (ch :: cur)

/-- A keyword argument split at its "="; none for any other element. -/
def keyOf (cs : List Char) : Option (String × List Char) :=
  if cs.contains '=' then some ((String.ofList (cs.takeWhile (fun ch => ch != '='))).toLower, (cs.dropWhile (fun ch => ch != '=')).drop 1) else none

/-- The error of the keyword arguments of a line against those of a form; 0 for none. -/
def keysErr (keys : List (String × ValForm × Bool)) (seen : List String) : List (List Char) → Nat
  | [] => if keys.any (fun k => k.2.2 && !seen.contains k.1) then 106 else 0
  | t :: ts =>
    match keyOf t with
    | none => 109
    | some (k, v) =>
      match keys.find? (fun x => x.1 == k) with
      | none => 107
      | some x => if seen.contains k then 107 else if valOk x.2.1 v then keysErr keys (k :: seen) ts else 108

/-- How far the elements of a line fit those of a form: none where a verb differs, else the error. -/
def elemsErr (keys : List (String × ValForm × Bool)) : List Elem → List (List Char) → Option Nat
  | [], ts => some (keysErr keys [] ts)
  | .lit w :: es, t :: ts => if (String.ofList t).toLower = w.toLower then elemsErr keys es ts else none
  | .index n :: es, t :: ts =>
    match elemsErr keys es ts with
    | none => none
    | some e => some (if isIntText t && decide (natOfText t < n) then e else 108)
  | .val v :: es, t :: ts =>
    match elemsErr keys es ts with
    | none => none
    | some e => some (if valOk v t then e else 108)
  | _ :: _, [] => some 106

/-- The error of the names of a `get` or the pairs of a `set`; 0 for none. -/
def namesErr (isSet : Bool) (ts : List (List Char)) : Nat :=
  let names := ts.filter (fun t => isSet || (keyOf t).isNone)
  if names = [] then 106
  else if 8 < names.length then 109
  else if isSet then
    if ts.any (fun t => (keyOf t).isNone) then 109
    else if ts.any (fun t => match keyOf t with | some p => !isIntText p.2 | none => true) then 108
    else 0
  else keysErr [("pending", .int, false)] [] (ts.filter (fun t => (keyOf t).isSome))

/-- The error of a command's text; 0 for a command with well-formed arguments. -/
def textErr (ts : List (List Char)) : Nat :=
  match ts with
  | [] => 0
  | f :: r =>
    let fam := (String.ofList f).toLower
    if fam = "get" ∨ fam = "set" then namesErr (fam == "set") r
    else
      match (forms.filter (fun x => x.family == fam)).filterMap (fun x => elemsErr x.keys x.elems r) with
      | [] => 101
      | e :: es => if (e :: es).contains 0 then 0 else (es.foldl (fun m x => if m = 106 ∨ m = 109 then x else m) e)

/-! ### A line that is no command -/

/-- A generated line's tag: its digits and what follows them. -/
def tagDigits (cs : List Char) : List Char × List Char := (cs.takeWhile isDec, cs.dropWhile isDec)

/-- The text of received bytes. -/
def lineChars (bs : List Byte) : List Char := bs.map (fun b => Char.ofNat b.toNat)

/-- What is wrong with a generated line after its "!": its tag if it can be read, and the error (R394, R398, Table 17-3). -/
def genErr (bs : List Byte) : Option Nat × Nat :=
  let cs := lineChars bs
  let d := tagDigits (cs.drop 1)
  let tag := natOfText d.1
  let body := bs.take (bs.length - 7)
  let sum := cs.drop (cs.length - 8)
  if d.1 = [] ∨ 5 < d.1.length ∨ d.2.head? ≠ some ' ' then (none, 102)
  else if 65535 < tag then (none, 110)
  else if sum.take 4 ≠ [' ', ';', 'c', '='] ∨ sum.length ≠ 8 ∨ ¬ (sum.drop 4).all isHexCh then (some tag, 102)
  else if crc16 body ≠ natOfText ('0' :: 'x' :: sum.drop 4) then (some tag, 105)
  else if (d.2.take (d.2.length - 8)).getLast? = some ' ' then (some tag, 102)
  else match splitLine false (d.2.take (d.2.length - 8)) false false [] with
    | [] => (some tag, 102)
    | ts => (some tag, textErr ts)

/-- The error of a line and the tag it is answered under: buffer full or too long, an illegal character, then its form (R389, R392, R397). -/
def lineErr (gen : Bool) (bs : List Byte) (framing full : Bool) : Option Nat × Nat :=
  let bang := bs.head? == some 0x21
  let tag := if bang then (genErr bs).1 else none
  if full ∨ 480 < bs.length then (tag, 104)
  else if framing ∨ bs.any (fun b => decide (b.toNat < 0x20) || decide (0x7E < b.toNat)) then (tag, 103)
  else if bang then genErr bs
  else if gen then (none, 102)
  else (none, textErr (splitLine true (lineChars bs) false false []))

/-- MALFORMED_LINE: the error it is answered with; a line that is a command after all, or empty, is left to that command. -/
def Chip.badLine (c : Chip) (s : Nat) (bs : List Byte) (framing full : Bool) : Chip :=
  if c.sessOpen s then
    let r := lineErr (c.sessGen s) bs framing full
    if r.2 = 0 then c
    else
      let gen := bs.head? == some 0x21
      let k := c.lineTaken s gen
      match r.1 with
      | some g => k.reply s (some g) ("err " ++ errName r.2)
      | none => k.reply s none ("err " ++ errName r.2)
  else c

/-- The same in the boot ROM, which takes generated lines only (R470). -/
def Chip.romBadLine (c : Chip) (s : Nat) (bs : List Byte) (framing full : Bool) : Chip :=
  if c.get SYS_BOOT_STAT_SOURCE = 2 ∧ s = 0 then
    let r := lineErr true bs framing full
    if r.2 = 0 then c
    else c.sendLine 0 (genLine ((match r.1 with | some g => "=" ++ toString g | none => "=?") ++ " err " ++ errName r.2))
  else c

/-! ### Typing (R393, Table 17-2) -/

/-- One byte typed on a session in typed mode. -/
def Chip.typeByte (c : Chip) (s : Nat) (b : Byte) : Chip :=
  match c.sess[s]? with
  | none => c
  | some x =>
    let upd : (Sess → Sess) → Chip := fun f => { c with sess := modAt c.sess s f }
    let n := b.toNat
    if x.esc then (if 0x40 ≤ n ∧ n ≤ 0x7E then upd (fun y => { y with esc := false }) else c)
    else if n = 0x1B then upd (fun y => { y with esc := true })
    else if n = 0x08 ∨ n = 0x7F then upd (fun y => { y with typed := y.typed.dropLast })
    else if n = 0x15 then upd (fun y => { y with typed := [] })
    else if n = 0x03 then ((upd (fun y => { y with typed := [] })).sendLine s "^C").emit (.prompt s [])
    else if n = 0x0D ∨ n = 0x0A then (if x.typed = [] then c.emit (.prompt s []) else c)
    else if 0x20 ≤ n ∧ n ≤ 0x7E ∧ x.typed.length < 480 then (upd (fun y => { y with typed := y.typed ++ [b] })).emit (.echo s [b])
    else c

/-- TYPED_EDIT: input on a session in typed mode up to the end of a line, which is a command of its own. -/
def Chip.typedEdit (c : Chip) (s : Nat) (bs : List Byte) : Chip :=
  if c.sessOpen s ∧ c.sessGen s = false then bs.foldl (fun c b => c.typeByte s b) c else c

end Sys2Proof.Machine
end

