-- ==== Sys2Proof/Machine/ConQuery.lean ====
section
/-! DEFINITION. What the console's direct commands answer and do: get, set and config, and the status of every block (spec/18). -/

namespace Sys2Proof.Machine

/-! ### Names of enumerated values -/

/-- The name of a value in a list, or its number. -/
def nameIn (l : List String) (n : Nat) : String := (l[n]?).getD (toString n)

/-- The modes of a CAN controller (R274). -/
def canModes : List String := ["NORMAL", "MONITOR", "LOOP_INT"]

/-- The sources of time (Table 13-4; the example of 18.9). -/
def timeSources : List String := ["UNSET", "HOLDOVER", "CAN", "GPTP"]

/-- The states of an image slot (Table 20-3). -/
def slotStates : List String := ["EMPTY", "LOADING", "LOADED", "VERIFYING", "VERIFIED", "PENDING", "TRIAL", "RUNNING", "PREVIOUS"]

/-- Approaches, actions and late policies of a slot (05.7, Tables 05-3 and 05-4). -/
def approaches : List String := ["INCREASING", "DECREASING", "EITHER"]
def actions : List String := ["MOTION", "POST", "PIN", "LATCH", "SAFE", "STRIPE"]
def policies : List String := ["FIRE", "DROP", "NEXT", "DEFAULT"]

/-- The boot sources (Table 03-10). -/
def bootSources : List String := ["QSPI", "MRAM", "UART0", "CAN0"]

/-- The functions of Table 03-8 as `reset` names them (R432). -/
def funcNames : List String := ["fbk", "mot", "nos", "t2", "t3", "can0", "can1", "can2", "eth", "con"]

/-- The names of the values of a field, where it is enumerated (R416). -/
def enumOf (a : Nat) (f : FieldRow) : Option (List String) :=
  if a = DOOR_STATUS_REG ∧ f.lo = 0 then some ((List.range 12).map doorName)
  else if a = DOOR_STATUS_REG ∧ f.lo = 4 then some ((List.range 7).map causeName)
  else if a = PAIR_STAT_REG ∧ f.lo = 0 then some ((List.range 4).map roleName)
  else if a = PAIR_STAT_REG ∧ (f.lo = 11 ∨ f.lo = 13) then some ((List.range 4).map healthName)
  else if inRow a (CAN_CTRL_REG 0) 3 0x10000 ∧ f.lo = 5 then some canModes
  else if inRow a (DOM_SLOT_CFG_REG 0) 64 0x20 then
    (if f.lo = 3 then some approaches else if f.lo = 5 then some actions else if f.lo = 8 then some policies else none)
  else if inRow a (DOM_SLOT_STAT_REG 0) 64 0x20 ∧ f.lo = 6 then some policies
  else if a = TSYN_STAT_REG ∧ f.lo = 0 then some timeSources
  else if inRow a (UPD_SLOT_STAT_REG 0) 18 8 ∧ f.lo = 0 then some slotStates
  else if a = SYS_BOOT_STAT_REG ∧ f.lo = 0 then some bootSources
  else none

/-- A field's value as the console shows it. -/
def shown (a : Nat) (f : FieldRow) (w : Word) : String :=
  match enumOf a f with
  | some l => nameIn l (bitsOf w.toNat f.lo f.w)
  | none => valueStr f w

/-! ### get and set (R419, R420) -/

/-- The word that `get` reads: the working copy of a parameter with `pending=1`, the running value otherwise. -/
def Chip.getWord (c : Chip) (pending : Bool) (a : Nat) (f : FieldRow) : Word :=
  if pending ∧ f.acc = .rw ∧ notParam a f = false then sread resetWord c.cfg.work a else c.readWord a

/-- The last part of a dotted name. -/
def lastPart (name : String) : String := String.ofList ((name.toList.reverse.takeWhile (fun ch => ch != '.')).reverse)

/-- `key=value` for one name; none where no field has it. -/
def Chip.getOne (c : Chip) (pending : Bool) (name : String) : Option (String × String) :=
  match findField name with
  | some (a, f) => some (lastPart name, shown a f (c.getWord pending a f))
  | none => none

/-- Whether a name asks for everything below a prefix. -/
def isPrefix (name : String) : Bool := name.toList.drop (name.length - 2) == ['.', '*']

/-- GET (R419). -/
def Chip.getReply (c : Chip) (l : Ln) (names : List String) (pending : Bool) : Chip :=
  let names := names.map (fun n => n.toLower)
  if names = [] then c.fail l 106 ""
  else if 8 < names.length then c.fail l 109 ""
  else
    match names.find? isPrefix with
    | some p =>
      if 1 < names.length then c.fail l 109 ""
      else
        let pre := String.ofList (p.toList.dropLast.dropLast)
        let fs := fieldsBelow pre
        if fs = [] then c.fail l 107 ""
        else c.okLines l (fs.map (fun x => kvs [(String.ofList ((fieldName x.1 x.2).toList.drop (pre.length + 1)),
          shown x.1 x.2 (c.getWord pending x.1 x.2))])) ("n=" ++ toString fs.length)
    | none =>
      let vs := names.filterMap (fun n => c.getOne pending n)
      if vs.length < names.length then c.fail l 107 "" else c.okay l (kvs vs)

/-- What DOOR programs itself, which `set` refuses with E402 (R111, R126). -/
def doorOwned (a : Nat) : Bool := within a 0x40070000 0x40090000 || within a 0x40060000 0x40070000

/-- The refusal of one pair of a `set`: an error and its detail. -/
def setErr (name : String) (v : Int) : Option (Nat × String) :=
  match findField name with
  | none => some (107, "")
  | some (a, f) =>
    if f.acc ≠ .rw then some (202, kvs [("item", name)])
    else if notParam a f then some (if doorOwned a then 402 else 202, kvs [("item", name)])
    else if fieldOk a f v then none
    else some (rangeCode a f, kvs [("item", name), ("min", intStr (fieldMin f)), ("max", intStr (fieldMax f))])

/-- A layer with one pair of a `set`. -/
def setItem (l : List (Nat × Word)) (name : String) (v : Int) : List (Nat × Word) :=
  match findField name with
  | some (a, f) => layerSet l a f (unsignedOf f.w v)
  | none => l

/-- SET: the whole line or nothing (R420). -/
def Chip.setReply (c : Chip) (l : Ln) (items : List (String × Int)) : Chip :=
  let items := items.map (fun p => (p.1.toLower, p.2))
  if items = [] then c.fail l 106 ""
  else if 8 < items.length then c.fail l 109 ""
  else
    match items.findSome? (fun p => setErr p.1 p.2) with
    | some (e, d) => c.fail l e d
    | none =>
      if (items.map (fun p => p.1)).eraseDups.length < items.length then c.fail l 107 ""
      else
        let c : Chip := { c with cfg := { c.cfg with work := items.foldl (fun w p => setItem w p.1 p.2) c.cfg.work } }
        c.okay l ""

/-! ### config (Table 18-3) -/

/-- A layer of Table 19-1: 0 FACTORY, 1 SAVED, 2 WORKING, 3 RUNNING. -/
def Chip.layerAt (c : Chip) (k : Nat) : List (Nat × Word) :=
  match k with
  | 0 => []
  | 1 => (match c.cfg.copy with
    | some x => (match c.copyAt x with | some y => y.layer | none => [])
    | none => [])
  | 2 => c.cfg.work
  | _ => c.running

/-- The parameters of a layer that differ from FACTORY, as lines. -/
def layerLines (l : List (Nat × Word)) : List String :=
  l.flatMap (fun p => ((paramFields p.1).filter (fun f => bitsOf p.2.toNat f.lo f.w != bitsOf (resetWord p.1).toNat f.lo f.w)).map
    (fun f => kvs [(fieldName p.1 f, shown p.1 f p.2)]))

/-- CONFIG_SHOW. -/
def Chip.configShow (c : Chip) (l : Ln) (k : Nat) : Chip :=
  let x := c.layerAt k
  let ls := layerLines x
  c.okLines l ls (kvs [("n", toString ls.length), ("crc", toString (layerCrc x))])

/-- CONFIG_CRC. -/
def Chip.configCrcs (c : Chip) (l : Ln) : Chip :=
  c.okay l (kvs [("running", toString (layerCrc c.running)), ("copy_a", toString (c.copyCrc 0)), ("copy_b", toString (c.copyCrc 1)),
    ("working", toString (layerCrc c.cfg.work))])

/-- CONFIG_REVERT and CONFIG_FACTORY: the working copy replaced. -/
def Chip.setWork (c : Chip) (w : List (Nat × Word)) : Chip := { c with cfg := { c.cfg with work := w } }

/-! ### Sessions (R394, R404, R407, R408) -/

/-- SUB: a kind of notification on or off (Table 17-4). -/
def Chip.subReply (c : Chip) (l : Ln) (kind : String) (on : Bool) : Chip :=
  let kind := kind.toLower
  let bit : Option Nat := match kind with
    | "fault" => some 0 | "state" => some 1 | "pair" => some 2 | "adm" => some 3 | "update" => some 4 | _ => none
  match bit with
  | none => c.fail l 108 ""
  | some b =>
    let c : Chip := { c with sess := modAt c.sess l.sess (fun x => { x with subs := setBit x.subs b on }) }
    c.okay l (kvs [("sub", kind.toUpper), ("state", if on then "ON" else "OFF")])

/-- Whether a session is a TCP session of a standby, which has role view only (R410). -/
def Chip.tcpStandby (c : Chip) (s : Nat) : Bool := decide (2 ≤ s) && c.isStandby

/-- ROLE (R407). -/
def Chip.roleReply (c : Chip) (l : Ln) (operate : Bool) : Chip :=
  let s : Nat := l.sess
  let ip := match c.sess[s]? with | some x => x.peerIp | none => 0
  let allowed := decide (s < 2) || [0, 1, 2, 3].any (fun k => c.get (CON_OP_ALLOW_ADDR k) == ip && ip != 0)
  if c.tcpStandby s then c.fail l 403 ""
  else if operate then (if allowed then (c.setSessRole s 1).okay l "role=OPERATE" else c.fail l 401 "")
  else (c.setSessRole s 0).okay l "role=VIEW"

/-- Whether `auth` is locked in a session (R408). -/
def Chip.authLocked (c : Chip) (s : Nat) : Bool :=
  match c.sess[s]? with
  | some x => (match x.lockedAt with | some a => decide (c.now - a < 60000000000) | none => false)
  | none => false

/-- Sixteen bytes as eight groups of four digits (R408). -/
def grouped (b : List Byte) : String :=
  String.intercalate "-" ((List.range 8).map (fun i => (hexStr 4 (beValue (sliceBytes b (2 * i) 2))).toLower))

/-- Sixteen true-random bytes (log 10). -/
def Chip.randomBytes (c : Chip) : Nat → Chip × List Byte
  | 0 => (c, [])
  | n + 1 =>
    let r := Chip.randomBytes c.tickFree n
    (r.1, BitVec.ofNat 8 (Config.randomByte c.free).toNat :: r.2)

/-- AUTH: a challenge (R408). -/
def Chip.authReply (c : Chip) (l : Ln) : Chip :=
  let s : Nat := l.sess
  if c.tcpStandby s then c.fail l 403 ""
  else if c.authLocked s then c.fail l 406 ""
  else
    let r := c.randomBytes 16
    let k : Chip := { r.1 with sess := modAt r.1.sess s (fun x => { x with challenge := some (r.2, c.now) }) }
    k.okay l (kvs [("ch", grouped r.2)])

/-- The response that a challenge asks for: the first 16 bytes of the HMAC over challenge, serial number and session name (R408). -/
def Chip.authWant (c : Chip) (s : Nat) (ch : List Byte) : List Byte :=
  (hmac256 c.fuses.authKey (ch ++ leBytes 8 c.fuses.serial ++ asciiBytes (sessName s))).take 16

/-- A wrong response: the third one locks `auth` in the session and raises F1001 (R408). -/
def Chip.authWrong (c : Chip) (s : Nat) : Chip :=
  let n := match c.sess[s]? with | some x => x.wrong + 1 | none => 1
  if n < 3 then { c with sess := modAt c.sess s (fun x => { x with wrong := n }) }
  else ({ c with sess := modAt c.sess s (fun x => { x with wrong := 0, lockedAt := some c.now }) } : Chip).raise 0x1001

/-- AUTH_RESP (R408). -/
def Chip.authRespReply (c : Chip) (l : Ln) (resp : List Byte) : Chip :=
  let s : Nat := l.sess
  let ch := match c.sess[s]? with | some x => x.challenge | none => none
  let used : Chip := { c with sess := modAt c.sess s (fun x => { x with challenge := none }) }
  if c.tcpStandby s then c.fail l 403 ""
  else if c.authLocked s then c.fail l 406 ""
  else match ch with
    | none => c.fail l 405 ""
    | some (b, at_) =>
      if 60000000000 < c.now - at_ then used.fail l 405 ""
      else if resp = c.authWant s b then
        let k : Chip := { used with sess := modAt used.sess s (fun x => { x with wrong := 0 }) }
        (k.setSessRole s 2).okay l "role=SERVICE"
      else (used.authWrong s).fail l 404 ""

/-! ### door, axis and cur (Tables 18-4, 18-5) -/

/-- DOOR_STATUS_QUERY (R423). -/
def Chip.doorQuery (c : Chip) (l : Ln) : Chip :=
  let pos : Nat → List (String × String) := fun n =>
    if c.is (FBK_CH_STAT_POS_VALID n) then [("pos" ++ toString n, c.numI (FBK_CH_POS_POS_UM n))] else []
  let cause := if c.get DOOR_STATUS_CAUSE = 0 then [] else [("cause", causeName (c.get DOOR_STATUS_CAUSE))]
  c.okay l (kvs ([("state", doorName c.doorState)] ++ cause ++
    [("rev_count", c.num DOOR_STATUS_REV_COUNT), ("cycle", c.num DOOR_CYCLE_COUNT)] ++ pos 0 ++ pos 1) ++
    flagsStr [(c.bit DOOR_STATUS_RIND 0, "RIND0"), (c.bit DOOR_STATUS_RIND 1, "RIND1"), (c.is DOOR_STATUS_WITHHOLD, "WITHHOLD"),
      (c.is DOOR_STATUS_VA, "VA"), (c.is DOOR_STATUS_DEGRADED, "DEGRADED"), (c.is DOOR_STATUS_OBSTRUCTED, "OBSTRUCTED"),
      (c.is DOOR_STATUS_RAMP_OUT, "RAMP_OUT"), (c.is DOOR_STATUS_RELEASE_PERM, "RELEASE_PERM"), (c.is DOOR_STATUS_HELD, "HELD"),
      (c.is DOOR_STATUS_ADM_CLOSE, "ADM_CLOSE")])

/-- DOOR_MEAS: the last completed cycle as DOOR_MEAS0 to 7 hold it (Table 08-8; the names, log 64). -/
def Chip.doorMeas (c : Chip) (l : Ln) : Chip :=
  let lo : Nat → String := fun k => c.num (DOOR_MEAS_LO k)
  let hi : Nat → String := fun k => c.num (DOOR_MEAS_HI k)
  let w := c.get (DOOR_MEAS_VALUE 7)
  let rev : Nat → String := fun i => toString (bitsOf w (4 * i) 4)
  c.okay l (kvs [("cycle", c.num DOOR_CYCLE_COUNT), ("opening", lo 0), ("dwell", lo 2), ("warning", lo 1), ("withheld", hi 2),
      ("closing", hi 0), ("locking", hi 1), ("rev_force", rev 0), ("rev_edge", rev 1), ("rev_vision", rev 2), ("rev_timeout", rev 3),
      ("rev_request", rev 4), ("f_out0", lo 3), ("f_in0", hi 3), ("f_out1", lo 4), ("f_in1", hi 4), ("v0", c.num (DOOR_MEAS_VALUE 5)),
      ("v1", c.num (DOOR_MEAS_VALUE 6))] ++
    flagsStr [(bitAt w 20, "DEGRADED"), (bitAt w 21, "VA"), (bitAt w 22, "LATE"), (bitAt w 23, "STALL"), (bitAt w 24, "OBSTRUCTED")])

/-- AXIS_STATUS. -/
def Chip.axisQuery (c : Chip) (l : Ln) (n : Nat) : Chip :=
  c.okay l (kvs [("seg", c.num (MOT_AX_STAT_SEG n)), ("xpos", c.numI (MOT_AX_XPOS_VALUE n)), ("pos", c.numI (MOT_AX_POS_UM_VALUE n)),
      ("tgt", c.numI (MOT_AX_TGT_VALUE n)), ("vel", c.numI (MOT_AX_VEL_VALUE n)), ("dev", c.numI (MOT_AX_DEV_VALUE n)),
      ("elec", c.num (MOT_AX_ELEC_ELEC n))] ++
    flagsStr [(c.is (MOT_AX_STAT_BUSY n), "BUSY"), (c.is (MOT_AX_STAT_DIR n), "DEC"),
      (c.is (MOT_AX_STAT_STEPLOSS_POSSIBLE n), "STEPLOSS_POSSIBLE"), (c.is (MOT_AX_STAT_REFD n), "REFD"), (c.is (MOT_AX_STAT_STALL n), "STALL")])

/-- AXIS_STOP (R425, Table 06-5). -/
def Chip.axisStopReply (c : Chip) (l : Ln) (n : Nat) : Chip :=
  let r := c.softStop n
  if r.2 = 0 then r.1.okay l "" else r.1.fail l r.2 ""

/-- CUR_STATUS. -/
def Chip.curQuery (c : Chip) (l : Ln) (n : Nat) : Chip :=
  c.okay l (kvs [("i_a", c.numI (CUR_AX_IMEAS_I_A n)), ("i_b", c.numI (CUR_AX_IMEAS_I_B n)), ("f_est", c.numI (CUR_AX_FEST_F_EST n)),
      ("f_opp", c.numI (CUR_AX_FEST_F_OPP n)), ("freq_a", c.num (CUR_AX_FREQ_FREQ_A n)), ("freq_b", c.num (CUR_AX_FREQ_FREQ_B n))] ++
    flagsStr [(c.is (CUR_AX_STAT_DRIVING n), "DRIVING"), (c.is (CUR_AX_STAT_F_VALID n), "F_VALID"), (c.is (CUR_AX_STAT_F_MODE n), "F_MODE"),
      (c.is (CUR_AX_STAT_FTRIP n), "FTRIP"), (c.is (CUR_AX_STAT_FCAL_DONE n), "FCAL_DONE"), (c.is (CUR_AX_STAT_LATCHED_OFF n), "LATCHED_OFF")])

/-! ### fbk and dom (Table 18-6) -/

/-- FBK_STATUS. -/
def Chip.fbkQuery (c : Chip) (l : Ln) (n : Nat) : Chip :=
  c.okay l (kvs [("count", c.numI (FBK_CH_COUNT_COUNT n)), ("pos", c.numI (FBK_CH_POS_POS_UM n)), ("speed", c.numI (FBK_CH_SPEED_SPEED_UM n)),
      ("latch_cnt", c.numI (FBK_CH_LATCH_CNT_VALUE n)), ("latch_ts", c.num64 (FBK_CH_LATCH_TS_LO_VALUE n) (FBK_CH_LATCH_TS_HI_VALUE n)),
      ("edge_rej", c.num (FBK_CH_ECNT_EDGE_REJ n)), ("illegal", c.num (FBK_CH_ECNT_ILLEGAL n))] ++
    flagsStr [(c.is (FBK_CH_STAT_STANDSTILL n), "STANDSTILL"), (c.is (FBK_CH_STAT_FIRST n), "FIRST"), (c.is (FBK_CH_STAT_REVERSAL n), "REVERSAL"),
      (c.is (FBK_CH_STAT_DIR n), "DEC"), (c.is (FBK_CH_STAT_SRC n), "PERIOD"), (c.is (FBK_CH_STAT_POS_VALID n), "POS_VALID"),
      (c.is (FBK_CH_STAT_ARMED n), "ARMED"), (c.bit (FBK_CH_STAT_CABLE n) 0, "CABLE_A"), (c.bit (FBK_CH_STAT_CABLE n) 1, "CABLE_B"),
      (c.bit (FBK_CH_STAT_CABLE n) 2, "CABLE_Z")])

/-- FBK_WHEEL. -/
def Chip.wheelQuery (c : Chip) (l : Ln) : Chip :=
  c.okay l (kvs [("src", nameIn ["FBK4", "FBK5", "CAN", "NONE"] (c.get FBK_WHL_STAT_SRC)), ("speed", c.numI FBK_VEH_SPEED_SPEED_MM),
      ("odo", c.num (DOM_D_VAL_LO_VALUE 4))] ++
    flagsStr [(c.is FBK_WHL_STAT_VSTILL, "VSTILL"), (c.is FBK_WHL_STAT_DISAGREE, "DISAGREE"), (c.is FBK_WHL_STAT_BLEND, "BLEND"),
      (c.bit FBK_WHL_STAT_QUAL 0, "QUAL4"), (c.bit FBK_WHL_STAT_QUAL 1, "QUAL5")])

/-- DOM_STATUS. -/
def Chip.domQuery (c : Chip) (l : Ln) : Chip :=
  c.okay l (kvs ([("valid", c.num DOM_STAT_VALID), ("degraded", c.num DOM_STAT_DEGRADED)] ++
    (List.range 8).map (fun d => ("d" ++ toString d, intStr (c.domUnits d)))))

/-- DOM_SLOT. -/
def Chip.slotQuery (c : Chip) (l : Ln) (n : Nat) : Chip :=
  let p := c.get (DOM_SLOT_PARAM_PARAM n)
  let late := if c.is (DOM_SLOT_STAT_LATE n) then [("late", c.numI (DOM_LATE_LATENESS n))] else []
  c.okay l (kvs ([("domain", "D" ++ c.num (DOM_SLOT_CFG_DOMAIN n)), ("target", intStr (c.slotTarget n)),
      ("approach", nameIn approaches (c.slotApp n)), ("action", nameIn actions (c.get (DOM_SLOT_CFG_ACTION n))),
      ("param", hexVal (if p < 256 then 2 else if p < 65536 then 4 else 8) p), ("pol", nameIn policies (c.slotPolicy n)),
      ("repeat", c.num (DOM_SLOT_REP_REPEAT n)), ("dl", c.num (DOM_SLOT_DL_VALUE n)),
      ("pred", c.num64 (DOM_PRED_LO_TICK n) (DOM_PRED_HI_TICK n)), ("fire_cnt", c.num (DOM_SLOT_STAT_FIRE_CNT n)),
      ("missed", c.num (DOM_SLOT_STAT_MISSED n))] ++ late) ++
    flagsStr [(c.is (DOM_SLOT_STAT_ARMED n), "ARMED"), (c.is (DOM_SLOT_STAT_FIRED n), "FIRED"), (c.is (DOM_SLOT_STAT_LATE n), "LATE"),
      (c.is (DOM_SLOT_STAT_REFUSED n), "REFUSED"), (c.is (DOM_SLOT_STAT_WR_ERR n), "WR_ERR"), (c.is (DOM_SLOT_STAT_ERR n), "ERR")])

/-- DOM_LF. -/
def Chip.lfQuery (c : Chip) (l : Ln) : Chip :=
  match c.dom.lf with
  | [] => c.okay l "level=0"
  | e :: _ => c.okay l (kvs [("slot", toString e.slot), ("domain", "D" ++ toString e.dom), ("ts", toString e.ts), ("value", toString e.val),
      ("level", toString c.dom.lf.length)])

/-- DOM_LF_POP. -/
def Chip.lfPopReply (c : Chip) (l : Ln) : Chip :=
  let c := ({ c with dom := { c.dom with lf := c.dom.lf.drop 1 } } : Chip).showLf
  c.okay l ("level=" ++ toString c.dom.lf.length)

/-! ### vision (Table 18-7) -/

/-- VISION_STATUS. -/
def Chip.visionQuery (c : Chip) (l : Ln) : Chip :=
  c.okay l (kvs [("loaded", c.num NOS_STAT_LOADED), ("running", c.num NOS_STAT_RUNNING_T), ("cams", c.num NOS_STAT_CAM_UP)] ++
    flagsStr [(c.is NOS_CTRL_ENABLE, "ENABLED"), (c.is VOTE_STAT_VA, "VA")])

/-- VISION_CAM. -/
def Chip.camQuery (c : Chip) (l : Ln) (n : Nat) : Chip :=
  c.okay l (kvs [("fidx", c.num64 (NOS_CAM_FIDX_LO_FIDX n) (NOS_CAM_FIDX_HI_FIDX n)), ("lines", c.num (NOS_CAM_GEOM_LINES n)),
      ("frame_lines", c.num (NOS_CAM_STAT_FRAME_LINES n)), ("fs_ts", c.num64 (NOS_CAM_FS_TS_LO_TS n) (NOS_CAM_FS_TS_HI_TS n)),
      ("explat", c.num (NOS_CAM_EXPLAT_EXP_LAT_US n)), ("ecc_corr", c.num (NOS_CAM_ERR_ECC_CORR n)), ("line_bad", c.num (NOS_CAM_ERR_LINE_BAD n)),
      ("dt_ign", c.num (NOS_CAM_ERR_DT_IGN n)), ("frames_lost", c.num (NOS_CAM_ERR_FRAMES_LOST n))] ++
    flagsStr [(c.is (NOS_CAM_STAT_STREAM n), "STREAM"), (c.is (NOS_CAM_STAT_FN_JUMP n), "FN_JUMP"), (c.is (NOS_CAM_STAT_SHORT n), "SHORT")])

/-- VISION_TENANT. -/
def Chip.tenantQuery (c : Chip) (l : Ln) (n : Nat) : Chip :=
  c.okay l (kvs [("ver", hexVal 8 (c.get (NOS_TEN_VER_VER n))), ("lmax", c.num (NOS_TEN_LMAX_LMAX n)), ("jobs", c.num (NOS_TEN_JOBS_N n)),
      ("drop", c.num (NOS_TEN_DROP_DROP n)), ("overrun", c.num (NOS_TEN_DROP_OVERRUN n)), ("stale", c.num (NOS_TEN_DROP_STALE n)),
      ("dep_abandon", c.num (NOS_TEN_DROP_DEP_ABANDON n)),
      ("loaderr", c.num (NOS_TEN_LOADERR_CAUSE n) ++ "," ++ c.num (NOS_TEN_LOADERR_SECTION n) ++ "," ++ c.num (NOS_TEN_LOADERR_INDEX n))] ++
    flagsStr [(c.is (NOS_TEN_STAT_LOADED n), "LOADED"), (c.is (NOS_TEN_STAT_RUNNING n), "RUNNING")])

/-- Bytes as hexadecimal digits, byte 0 first. -/
def hexBytes (bs : List Byte) : String := String.join (bs.map (fun b => hexStr 2 b.toNat))

/-- VISION_GRID: the header and the 18 rows of the grid of tenant 1 or 2. -/
def Chip.gridQuery (c : Chip) (l : Ln) (cam tenant : Nat) : Chip :=
  let g := 2 * (tenant - 1) + cam
  let head := kvs [("fidx", c.num64 (NOS_GRID_FIDX_LO_FIDX g) (NOS_GRID_FIDX_HI_FIDX g)), ("line_first", c.num (NOS_GRID_LINES_LINE_FIRST g)),
      ("line_last", c.num (NOS_GRID_LINES_LINE_LAST g)), ("t_exp", c.num64 (NOS_GRID_TEXP_LO_T g) (NOS_GRID_TEXP_HI_T g)),
      ("t_pub", c.num64 (NOS_GRID_TPUB_LO_T g) (NOS_GRID_TPUB_HI_T g))] ++
    flagsStr [(c.is (NOS_GRID_ROWS_BAD g), "BAD"), (c.is (NOS_GRID_ROWS_COMPLETE g), "COMPLETE")]
  c.okLines l (head :: (List.range 18).map (fun r => kvs [("row", toString r), ("cells", hexBytes (c.rdBytes (gridMem g + 32 * r) 32))])) "n=18"

/-! ### can, eth and time (Table 18-8) -/

/-- CAN_STATUS. -/
def Chip.canQuery (c : Chip) (l : Ln) (n : Nat) : Chip :=
  let st := if c.is (CAN_STAT_BO n) then "BUSOFF" else if c.is (CAN_STAT_EP n) then "PASSIVE" else "ACTIVE"
  c.okay l (kvs [("state", st), ("mode", nameIn canModes (c.cc n).mode), ("tec", c.num (CAN_ECNT_TEC n)), ("rec", c.num (CAN_ECNT_REC n)),
      ("errc", c.num (CAN_STAT_ERRC n)), ("errc_d", c.num (CAN_STAT_ERRC_D n)), ("bo_seq", c.num (CAN_STAT_BO_SEQ n)),
      ("loop", c.num (CAN_SSP_LOOP n)), ("rx", c.num (CAN_CNT_RX_N n)), ("tx", c.num (CAN_CNT_TX_N n)), ("disc", c.num (CAN_CNT_DISC n))] ++
    flagsStr [(c.is (CAN_STAT_INIT_ACK n), "INIT"), (c.is (CAN_STAT_EW n), "EW"), (c.is (CAN_STAT_SSP_SAT n), "SSP_SAT")])

/-- ETH_STATUS. -/
def Chip.ethQuery (c : Chip) (l : Ln) : Chip :=
  c.okay l (kvs [("ip", c.num ETH_IP_ADDR), ("mac", hexVal 12 c.fuses.mac), ("link0", c.num (ETH_PORT_STAT_LINK 0)),
    ("link1", c.num (ETH_PORT_STAT_LINK 1)), ("speed0", c.num (ETH_PORT_STAT_SPEED 0)), ("speed1", c.num (ETH_PORT_STAT_SPEED 1)),
    ("entries", c.num ETH_SW_ENTRIES), ("drop_other", c.num ETH_DROP_OTHER), ("drop_frag", c.num ETH_DROP_FRAG)])

/-- ETH_PORT. -/
def Chip.portQuery (c : Chip) (l : Ln) (n : Nat) : Chip :=
  c.okay l (kvs [("link", c.num (ETH_PORT_STAT_LINK n)), ("speed", c.num (ETH_PORT_STAT_SPEED n)), ("rx", c.num (ETH_PORT_CNT0_RX n)),
    ("dropped", c.num (ETH_PORT_CNT1_DROP n))])

/-- TIME_STATUS. -/
def Chip.timeQuery (c : Chip) (l : Ln) : Chip :=
  c.okay l (kvs [("src", nameIn timeSources (c.get TSYN_STAT_SRC)), ("qual", hexVal 2 (c.get TSYN_STAT_QUAL)), ("bound", c.num TSYN_BOUND_BOUND),
      ("theta", c.numI TSYN_THETA_THETA), ("freq", c.numI TSYN_FREQ_Y), ("freqf", c.numI TSYN_FREQF_YF), ("pdelay", c.num TSYN_PDELAY_PD),
      ("gm", hexVal 16 (c.get64 TSYN_GM_LO_ID TSYN_GM_HI_ID))] ++
    flagsStr [(c.is TSYN_STAT_SLEWING, "SLEWING"), (c.is TSYN_STAT_SET, "SET"), (c.is TSYN_STAT_Q_GPTP, "Q_GPTP"), (c.is TSYN_STAT_Q_CAN, "Q_CAN"),
      (c.is TSYN_STAT_AS_CAPABLE, "AS_CAPABLE"), (c.is TSYN_STAT_SAT, "SAT")])

/-- TIME_NOW. -/
def Chip.nowQuery (c : Chip) (l : Ln) : Chip := c.okay l (kvs [("tbl", toString c.now), ("tbv", toString c.tbVeh)])

/-! ### pair, queue and fault (Table 18-9) -/

/-- PAIR_STATUS. -/
def Chip.pairQuery (c : Chip) (l : Ln) : Chip :=
  c.okay l (kvs [("role", roleName (c.get PAIR_STAT_ROLE)), ("side", c.sideName), ("own", healthName (c.get PAIR_STAT_OWN_HEALTH)),
      ("peer", healthName (c.get PAIR_STAT_PEER_HEALTH)), ("epoch", c.num PAIR_EPOCH_EPOCH), ("peer_epoch", c.num PAIR_PEER_EPOCH_EPOCH),
      ("last_gap", c.num PAIR_LAST_GAP_GAP_US), ("takeovers", c.num PAIR_CNT_TAKEOVERS), ("handovers", c.num PAIR_CNT_HANDOVERS)] ++
    flagsStr [(c.is PAIR_STAT_HELD, "HELD"), (c.is PAIR_STAT_LEASE_IN, "LEASE_IN"), (c.is PAIR_STAT_STEER, "STEER"), (c.is PAIR_STAT_LINK, "LINK"),
      (c.is PAIR_STAT_ONE_LANE, "ONE_LANE"), (c.is PAIR_STAT_ALONE, "ALONE"), (c.is PAIR_STAT_SPLIT, "SPLIT"),
      (c.is PAIR_STAT_MIRROR_STALE, "MIRROR_STALE")])

/-- PAIR_HEALTH_QUERY. -/
def Chip.healthQuery (c : Chip) (l : Ln) : Chip :=
  c.okay l (kvs [("own", c.num PAIR_HEALTH_CHECKS), ("peer", c.num PAIR_PEER_HEALTH_CHECKS)])

/-- QUEUE. -/
def Chip.queueQuery (c : Chip) (l : Ln) (q : Nat) : Chip :=
  c.okay l (kvs [("source", c.num (WQM_Q_CFG_SOURCE q)), ("fill", c.num (WQM_Q_STAT_FILL q)), ("seq", c.num (WQM_Q_SEQ_QSEQ q)),
      ("done", c.num (WQM_Q_DONE_QSEQ q))] ++
    flagsStr [(c.is (WQM_Q_CFG_EN q), "EN"), (c.is (WQM_Q_CFG_DOOR q), "DOOR"), (c.is (WQM_Q_CFG_LOG q), "LOG"), (c.is (WQM_Q_STAT_HELD q), "HELD")])

/-- QUEUE_KEY: the entry of a key in the window set of the queue's source (R427). -/
def Chip.keyQuery (c : Chip) (l : Ln) (q key : Nat) : Chip :=
  let set := winSet (c.get (WQM_Q_CFG_SOURCE q))
  let w : Option WinEntry := match set with
    | some s => if key = 0 then none else c.wqm.windows.find? (fun w => w.set == s && w.key == key)
    | none => none
  match w with
  | none => c.okay l "state=UNKNOWN"
  | some w =>
    let st := if w.phase = 0 then "ACCEPT" else if w.phase = 3 then "VOID" else "COMPLETE"
    c.okay l (kvs [("state", st), ("seq", toString w.qseq), ("code", if w.ecode = 0 then "0" else errName w.ecode)])

/-- FAULT_LIST. -/
def Chip.faultQuery (c : Chip) (l : Ln) : Chip :=
  c.okLines l (c.flt.inForce.map (fun e => kvs [("f", faultName e.code), ("sev", toString e.sev), ("n", toString e.count),
      ("first", toString e.first), ("last", toString e.last)]))
    (kvs [("n", toString c.flt.inForce.length), ("max_sev", c.num FLT_STAT_MAX_SEV)])

/-! ### ledger (Table 18-10) -/

/-- LEDGER_STATUS. -/
def Chip.ledgerQuery (c : Chip) (l : Ln) : Chip :=
  c.okay l (kvs [("seq", c.num64 LEDG_SEQ_LO_SEQ LEDG_SEQ_HI_SEQ), ("exp", c.num64 LEDG_EXP_LO_SEQ LEDG_EXP_HI_SEQ),
      ("old", c.num64 LEDG_OLD_LO_SEQ LEDG_OLD_HI_SEQ), ("fill", c.num LEDG_FILL_UNEXP), ("detail", c.num LEDG_FILL_DETAIL),
      ("thin", c.num LEDG_THIN_N), ("lost", c.num LEDG_LOST_N)] ++
    flagsStr [(c.is LEDG_STAT_GAP_OPEN, "GAP_OPEN"), (c.is LEDG_STAT_EXPORT, "EXPORT"), (c.is LEDG_STAT_THINNING, "THINNING"),
      (c.is LEDG_STAT_LOSING, "LOSING")])

/-- LEDGER_READ (R428). -/
def Chip.ledgerReadReply (c : Chip) (l : Ln) (seq count : Nat) : Chip :=
  if count < 1 ∨ 16 < count then c.fail l 702 ""
  else
    match (c.ledg.ring.filter (fun r => decide (seq ≤ r.seq))).take count with
    | [] => c.fail l 701 ""
    | rs => c.okLines l (rs.map (fun r => kvs [("seq", toString r.seq), ("type", toString r.type),
        ("rec", hexBytes (c.rdBytes (ringAddr r.slot) 64))])) ("n=" ++ toString rs.length)

/-- LEDGER_ACK: what can be refused at once (R428, R429; the example of 18.11) is, the rest is queued. -/
def Chip.ledgerAckCmd (c : Chip) (l : Ln) (seq : Nat) : Chip :=
  let e := c.ledgerAckErr seq
  if c.knownLine l then c.queueCmd l { op := .ledgerAck, a := 0, b := 0, v := seq }
  else if e = 703 then c.fail l 703 (kvs [("newest", toString c.newestSeq)])
  else if e ≠ 0 then c.fail l e ""
  else c.queueCmd l { op := .ledgerAck, a := 0, b := 0, v := seq }

/-! ### update (Table 18-11) -/

/-- One line of `update status`: MARK while LOADING, the counts of a TRIAL while in TRIAL. -/
def Chip.slotLine (c : Chip) (i : Nat) : String :=
  let st := c.slotState i
  kvs ([("img", imgName (i / 2)), ("slot", if i % 2 = 0 then "A" else "B"), ("state", nameIn slotStates st)] ++
    (if st = 0 then [] else [("ver", hexVal 8 (c.get (UPD_SLOT_VER_VERSION i)))]) ++
    (if st = 1 then [("mark", c.num (UPD_SLOT_STAT_MARK i))] else []) ++
    (if st = 6 then [("trial_boots", toString (c.bootSel (i / 2) / 16)), ("trial_s", toString c.trialSecs)] else []))

/-- UPDATE_STATUS. -/
def Chip.updateQuery (c : Chip) (l : Ln) (img : Option Nat) : Chip :=
  let ks := match img with | some k => [k] | none => [0, 1, 2, 3, 4, 8, 5, 6, 7]
  let is := (ks.flatMap (fun k => [2 * k, 2 * k + 1])).filter (fun i => c.slotPresent (i / 2) (i % 2))
  c.okLines l (is.map c.slotLine) ("n=" ++ toString is.length)

/-! ### sys (Table 18-12) -/

/-- SYS_INFO. -/
def Chip.infoQuery (c : Chip) (l : Ln) : Chip :=
  c.okay l (kvs [("dev", c.partName), ("rev", "B1"), ("side", c.sideName), ("serial", hexVal 16 c.fuses.serial),
      ("boot", nameIn bootSources (c.get SYS_BOOT_STAT_SOURCE)), ("clkmode", c.num SYS_STRAP_CLKMODE), ("boot_count", c.num SYS_BOOT_COUNT_COUNT)] ++
    flagsStr [(c.is SYS_BOOT_STAT_FALLBACK, "FALLBACK"), (c.is SYS_BOOT_STAT_TRIAL, "TRIAL"), (c.is SYS_CLK_STAT_SAFE_CLK_OK, "SAFE_CLK_OK"),
      (c.is SYS_CLK_STAT_CLK_FAULT, "CLK_FAULT")])

/-- SYS_CAUSE. -/
def Chip.causeQuery (c : Chip) (l : Ln) : Chip :=
  c.okay l (kvs [("cause", toString (c.get SYS_RST_CAUSE_POR + 2 * c.get SYS_RST_CAUSE_RESETN)), ("rail", c.num SYS_RST_CAUSE_POR_RAIL),
    ("level", c.num SYS_RST_CAUSE_LAST_LEVEL)])

/-- SYS_FRST. -/
def Chip.frstQuery (c : Chip) (l : Ln) : Chip :=
  c.okLines l ((List.range 10).map (fun n => kvs [("func", nameIn funcNames n), ("count", c.num (SYS_FRST_LOG_COUNT n)),
      ("tmo_count", c.num (SYS_FRST_LOG_TMO_COUNT n))] ++
    flagsStr [(c.bit SYS_FRST_STAT_BUSY n, "BUSY"), (c.is (SYS_FRST_LOG_LAST_TMO n), "LAST_TMO")])) "n=10"

/-- SYS_SUPPLY. -/
def Chip.supplyQuery (c : Chip) (l : Ln) : Chip :=
  c.okay l (kvs [("vsense", c.num SUP_STATUS_VSENSE_MV), ("e_avail", c.num SUP_HOLDUP_E_E_AVAIL_UJ), ("dips", c.num SUP_DIP_COUNT_COUNT),
      ("dip_min", c.num SUP_DIP_LAST_MIN_MV), ("dip_ms", c.num SUP_DIP_LAST_DUR_MS), ("c_meas", c.num SUP_CAPCHK_C_MEAS)] ++
    flagsStr [(c.is SUP_STATUS_WARN, "WARN"), (c.is SUP_STATUS_HOLD, "HOLD"), (c.is SUP_STATUS_STORE_GATED, "STORE_GATED"),
      (c.is SUP_CAPCHK_LOW, "LOW")])

end Sys2Proof.Machine
end

