-- ==== Sys2Proof/Machine/Console.lean ====
section
/-! DEFINITION. The commands of the console (spec/17_rurax_language.md, spec/18_rurax_commands.md). -/

namespace Sys2Proof.Machine

/-- E108 for a value that is no 32-bit word. -/
def badWord (v : Int) : Nat := if 0 ≤ v ∧ v < 2 ^ 32 then 0 else 108

/-- E108 for a mask that is no 32-bit word. -/
def badMask (m : Nat) : Nat := if m < 2 ^ 32 then 0 else 108

/-- What stands against `fbk N count=V`: the channel, and a count that is no signed 32-bit number. -/
def badCount (n : Nat) (v : Int) : Nat := if n < 6 ∧ -(2 ^ 31) ≤ v ∧ v < 2 ^ 31 then 0 else 108

/-- What stands against `vision grid`: the part, the camera, a tenant other than 1 and 2. -/
def Chip.badGrid (c : Chip) (cam tenant : Nat) : Nat :=
  if c.fuses.partN then 203 else if cam < 2 ∧ (tenant = 1 ∨ tenant = 2) then 0 else 108

/-- TCP_CONNECT (R390). -/
def execTcpConnect (t : Nat) (ip port : Nat) (s : State) : Host.Outcome State Fault Refusal :=
  run .app t (fun c => c.tcpConnect ip port) s

/-- TCP_CLOSE (R390). -/
def execTcpClose (t : Nat) (k : Fin 4) (s : State) : Host.Outcome State Fault Refusal :=
  run .app t (fun c => c.sessCloses (k + 2) "peer") s

/-- CON_IDLE_TIMEOUT (R390). -/
def execConIdleTimeout (t : Nat) (k : Fin 4) (s : State) : Host.Outcome State Fault Refusal :=
  run .app t (fun c => c.conIdle (k + 2)) s

/-- TYPED_EDIT (R393). -/
def execTypedEdit (t : Nat) (k : Fin 6) (bytes : List Byte) (s : State) : Host.Outcome State Fault Refusal :=
  run .app t (fun c => c.typedEdit k bytes) s

/-- ROLE_IDLE_TIMEOUT (R409). -/
def execRoleIdleTimeout (t : Nat) (k : Fin 6) (s : State) : Host.Outcome State Fault Refusal :=
  run .app t (fun c => c.roleIdle k) s

/-- AUTH_LOCK_END (R408). -/
def execAuthLockEnd (t : Nat) (k : Fin 6) (s : State) : Host.Outcome State Fault Refusal :=
  run .app t (fun c => c.authUnlock k) s

/-- MALFORMED_LINE (R397). -/
def execMalformedLine (t : Nat) (k : Fin 6) (bytes : List Byte) (framing full : Bool) (s : State) : Host.Outcome State Fault Refusal :=
  conRunWith t (fun c => c.romBadLine k bytes framing full) (fun c => c.badLine k bytes framing full) s

/-- MODE_GEN (R394). -/
def execModeGen (t : Nat) (l : Ln) (s : State) : Host.Outcome State Fault Refusal :=
  conRun t l (fun c => c.conLine l 0 0 false (fun c => (c.okay l "").putBit CON_SESS_STAT_GEN l.sess true)) s

/-- MODE_TYPED (R394). -/
def execModeTyped (t : Nat) (l : Ln) (s : State) : Host.Outcome State Fault Refusal :=
  conRun t l (fun c => c.conLine l 0 0 false (fun c => (c.okay l "").putBit CON_SESS_STAT_GEN l.sess false)) s

/-- SUB (R404). -/
def execSub (t : Nat) (l : Ln) (kind : String) (on : Bool) (s : State) : Host.Outcome State Fault Refusal :=
  conRun t l (fun c => c.conLine l 0 0 false (fun c => c.subReply l kind on)) s

/-- ROLE (R407). -/
def execRole (t : Nat) (l : Ln) (operate : Bool) (s : State) : Host.Outcome State Fault Refusal :=
  conRun t l (fun c => c.conLine l 0 0 false (fun c => c.roleReply l operate)) s

/-- AUTH (R408). -/
def execAuth (t : Nat) (l : Ln) (s : State) : Host.Outcome State Fault Refusal :=
  conRun t l (fun c => c.conLine l 0 0 false (fun c => c.authReply l)) s

/-- AUTH_RESP (R408). -/
def execAuthResp (t : Nat) (l : Ln) (resp : List Byte) (s : State) : Host.Outcome State Fault Refusal :=
  conRun t l (fun c => c.conLine l 0 0 false (fun c => c.authRespReply l resp)) s

/-- HELP (R413). -/
def execHelp (t : Nat) (l : Ln) (family : Option String) (s : State) : Host.Outcome State Fault Refusal :=
  conRun t l (fun c => c.conLine l 0 0 false (fun c => c.helpReply l family)) s

/-- PING (R413). -/
def execPing (t : Nat) (l : Ln) (s : State) : Host.Outcome State Fault Refusal :=
  conRunWith t (fun c => c.romLine l (fun c => c.okay l "")) (fun c => c.conLine l 0 0 false (fun c => c.okay l "")) s

/-- GET (R419). -/
def execGet_ (t : Nat) (l : Ln) (names : List String) (pending_ : Bool) (s : State) : Host.Outcome State Fault Refusal :=
  conRun t l (fun c => c.conLine l 0 0 false (fun c => c.getReply l names pending_)) s

/-- SET (R420). -/
def execSet_ (t : Nat) (l : Ln) (items : List (String × Int)) (s : State) : Host.Outcome State Fault Refusal :=
  conRun t l (fun c => c.conLine l 0 2 false (fun c => c.setReply l items)) s

/-- SET_REL_HOLD (R421). -/
def execSetRelHold (t : Nat) (l : Ln) (on : Bool) (s : State) : Host.Outcome State Fault Refusal :=
  conRun t l (fun c => c.conLine l 0 1 true (fun c => (c.put VOTE_HOLD_REL_HOLD on).okay l "")) s

/-- CONFIG_SHOW (R422). -/
def execConfigShow (t : Nat) (l : Ln) (layer : Fin 4) (s : State) : Host.Outcome State Fault Refusal :=
  conRun t l (fun c => c.conLine l 0 0 false (fun c => c.configShow l layer)) s

/-- CONFIG_CRC (R437). -/
def execConfigCrc (t : Nat) (l : Ln) (s : State) : Host.Outcome State Fault Refusal :=
  conRun t l (fun c => c.conLine l 0 0 false (fun c => c.configCrcs l)) s

/-- CONFIG_APPLY (R441). -/
def execConfigApply (t : Nat) (l : Ln) (s : State) : Host.Outcome State Fault Refusal :=
  conRun t l (fun c => c.conQueued l 0 2 true .configApply 0 0 0) s

/-- CONFIG_SAVE (R439). -/
def execConfigSave (t : Nat) (l : Ln) (s : State) : Host.Outcome State Fault Refusal :=
  conRun t l (fun c => c.conQueued l 0 2 false .configSave 0 0 0) s

/-- CONFIG_REVERT (R420). -/
def execConfigRevert (t : Nat) (l : Ln) (s : State) : Host.Outcome State Fault Refusal :=
  conRun t l (fun c => c.conLine l 0 2 false (fun c => (c.setWork c.running).okay l "")) s

/-- CONFIG_FACTORY (R420). -/
def execConfigFactory (t : Nat) (l : Ln) (s : State) : Host.Outcome State Fault Refusal :=
  conRun t l (fun c => c.conLine l 0 2 false (fun c => (c.setWork []).okay l "")) s

/-- DOOR_OPEN (R423). -/
def execDoorOpen (t : Nat) (l : Ln) (ramp : Bool) (s : State) : Host.Outcome State Fault Refusal :=
  conRun t l (fun c => c.conQueued l 0 1 true .doorOpen (cond ramp 1 0) 0 0) s

/-- DOOR_CLOSE (R423). -/
def execDoorClose (t : Nat) (l : Ln) (s : State) : Host.Outcome State Fault Refusal :=
  conRun t l (fun c => c.conQueued l 0 1 true .doorClose 0 0 0) s

/-- DOOR_RELEASE (R423). -/
def execDoorRelease (t : Nat) (l : Ln) (s : State) : Host.Outcome State Fault Refusal :=
  conRun t l (fun c => c.conQueued l 0 1 true .doorRelease 0 0 0) s

/-- DOOR_UNRELEASE (R423). -/
def execDoorUnrelease (t : Nat) (l : Ln) (s : State) : Host.Outcome State Fault Refusal :=
  conRun t l (fun c => c.conQueued l 0 1 true .doorUnrelease 0 0 0) s

/-- DOOR_RESET (R423). -/
def execDoorReset (t : Nat) (l : Ln) (s : State) : Host.Outcome State Fault Refusal :=
  conRun t l (fun c => c.conQueued l 0 1 true .doorReset 0 0 0) s

/-- DOOR_ISOLATE (R423). -/
def execDoorIsolate (t : Nat) (l : Ln) (s : State) : Host.Outcome State Fault Refusal :=
  conRun t l (fun c => c.conQueued l 0 2 true .doorIsolate 0 0 0) s

/-- DOOR_UNISOLATE (R423). -/
def execDoorUnisolate (t : Nat) (l : Ln) (s : State) : Host.Outcome State Fault Refusal :=
  conRun t l (fun c => c.conQueued l 0 2 true .doorUnisolate 0 0 0) s

/-- DOOR_STATUS_QUERY (R423). -/
def execDoorStatusQuery (t : Nat) (l : Ln) (s : State) : Host.Outcome State Fault Refusal :=
  conRun t l (fun c => c.conLine l 0 0 false (fun c => c.doorQuery l)) s

/-- DOOR_MEAS (R423). -/
def execDoorMeas (t : Nat) (l : Ln) (s : State) : Host.Outcome State Fault Refusal :=
  conRun t l (fun c => c.conLine l 0 0 false (fun c => c.doorMeas l)) s

/-- AXIS_STATUS (R413). -/
def execAxisStatus (t : Nat) (l : Ln) (n : Nat) (s : State) : Host.Outcome State Fault Refusal :=
  conRun t l (fun c => c.conLine l (badIndex n 4) 0 false (fun c => c.axisQuery l n)) s

/-- AXIS_START (R424). -/
def execAxisStart (t : Nat) (l : Ln) (n set : Nat) (s : State) : Host.Outcome State Fault Refusal :=
  conRun t l (fun c => c.conLine l (badIndex n 4 + (if n < 4 then badIndex set 64 else 0)) 2 true (fun c => c.queueOwned l (decide (n < 2 ∨ set < 32)) ("axis" ++ toString n) { op := .axisStart, a := n, b := set, v := 0 })) s

/-- AXIS_STOP (R425). -/
def execAxisStop (t : Nat) (l : Ln) (n : Nat) (s : State) : Host.Outcome State Fault Refusal :=
  conRun t l (fun c => c.conLine l (badIndex n 4) 1 true (fun c => c.axisStopReply l n)) s

/-- AXIS_EMERG (R425). -/
def execAxisEmerg (t : Nat) (l : Ln) (n : Nat) (s : State) : Host.Outcome State Fault Refusal :=
  conRun t l (fun c => c.conLine l (badIndex n 4) 1 true (fun c => (c.emergency n none).okay l "")) s

/-- AXIS_HALT (R425). -/
def execAxisHalt (t : Nat) (l : Ln) (n : Nat) (s : State) : Host.Outcome State Fault Refusal :=
  conRun t l (fun c => c.conLine l (badIndex n 4) 2 true (fun c => (c.motHalt n).okay l "")) s

/-- AXIS_REREF (R137). -/
def execAxisReref (t : Nat) (l : Ln) (n : Nat) (s : State) : Host.Outcome State Fault Refusal :=
  conRun t l (fun c => c.conQueued l (badIndex n 4) 2 true .axisReref n 0 0) s

/-- CUR_STATUS (R413). -/
def execCurStatus (t : Nat) (l : Ln) (n : Nat) (s : State) : Host.Outcome State Fault Refusal :=
  conRun t l (fun c => c.conLine l (badIndex n 4) 0 false (fun c => c.curQuery l n)) s

/-- CUR_CAL (R158). -/
def execCurCal (t : Nat) (l : Ln) (n : Nat) (s : State) : Host.Outcome State Fault Refusal :=
  conRun t l (fun c => c.conQueued l (badIndex n 4) 2 true .curCal n 0 0) s

/-- CUR_CLROFS (R153). -/
def execCurClrofs (t : Nat) (l : Ln) (n : Nat) (s : State) : Host.Outcome State Fault Refusal :=
  conRun t l (fun c => c.conQueued l (badIndex n 4) 2 true .curClrofs n 0 0) s

/-- FBK_STATUS (R413). -/
def execFbkStatus (t : Nat) (l : Ln) (n : Nat) (s : State) : Host.Outcome State Fault Refusal :=
  conRun t l (fun c => c.conLine l (badIndex n 6) 0 false (fun c => c.fbkQuery l n)) s

/-- FBK_ARM (R80). -/
def execFbkArm (t : Nat) (l : Ln) (n : Nat) (s : State) : Host.Outcome State Fault Refusal :=
  conRun t l (fun c => c.conQueued l (badIndex n 6) 2 true .fbkArm n 0 0) s

/-- FBK_DISARM (R80). -/
def execFbkDisarm (t : Nat) (l : Ln) (n : Nat) (s : State) : Host.Outcome State Fault Refusal :=
  conRun t l (fun c => c.conQueued l (badIndex n 6) 2 true .fbkDisarm n 0 0) s

/-- FBK_COUNT (R82). -/
def execFbkCount (t : Nat) (l : Ln) (n : Nat) (v : Int) (s : State) : Host.Outcome State Fault Refusal :=
  conRun t l (fun c => c.conQueued l (badCount n v) 2 true .fbkCount n 0 (unsignedOf 32 v)) s

/-- FBK_WHEEL (R413). -/
def execFbkWheel (t : Nat) (l : Ln) (s : State) : Host.Outcome State Fault Refusal :=
  conRun t l (fun c => c.conLine l 0 0 false (fun c => c.wheelQuery l)) s

/-- DOM_STATUS (R413). -/
def execDomStatus (t : Nat) (l : Ln) (s : State) : Host.Outcome State Fault Refusal :=
  conRun t l (fun c => c.conLine l 0 0 false (fun c => c.domQuery l)) s

/-- DOM_SLOT (R413). -/
def execDomSlot (t : Nat) (l : Ln) (n : Nat) (s : State) : Host.Outcome State Fault Refusal :=
  conRun t l (fun c => c.conLine l (badIndex n 64) 0 false (fun c => c.slotQuery l n)) s

/-- DOM_ARM (R112). -/
def execDomArm (t : Nat) (l : Ln) (n : Nat) (s : State) : Host.Outcome State Fault Refusal :=
  conRun t l (fun c => c.conLine l (badIndex n 64) 2 true (fun c => c.queueOwned l (decide (n < 32)) ("slot" ++ toString n) { op := .domArm, a := n, b := 0, v := 0 })) s

/-- DOM_DISARM (R111). -/
def execDomDisarm (t : Nat) (l : Ln) (n : Nat) (s : State) : Host.Outcome State Fault Refusal :=
  conRun t l (fun c => c.conLine l (badIndex n 64) 2 true (fun c => c.queueOwned l (decide (n < 32)) ("slot" ++ toString n) { op := .domDisarm, a := n, b := 0, v := 0 })) s

/-- DOM_D4 (R105). -/
def execDomD4 (t : Nat) (l : Ln) (v : Int) (s : State) : Host.Outcome State Fault Refusal :=
  conRun t l (fun c => c.conQueued l (badWord v) 2 true .domD4 0 0 v.toNat) s

/-- DOM_LF (R116). -/
def execDomLf (t : Nat) (l : Ln) (s : State) : Host.Outcome State Fault Refusal :=
  conRun t l (fun c => c.conLine l 0 0 false (fun c => c.lfQuery l)) s

/-- DOM_LF_POP (R116). -/
def execDomLfPop (t : Nat) (l : Ln) (s : State) : Host.Outcome State Fault Refusal :=
  conRun t l (fun c => c.conLine l 0 2 false (fun c => c.lfPopReply l)) s

/-- VISION_STATUS (R426). -/
def execVisionStatus (t : Nat) (l : Ln) (s : State) : Host.Outcome State Fault Refusal :=
  conRun t l (fun c => c.conLine l (c.badVision 0 1) 0 false (fun c => c.visionQuery l)) s

/-- VISION_CAM (R426). -/
def execVisionCam (t : Nat) (l : Ln) (n : Nat) (s : State) : Host.Outcome State Fault Refusal :=
  conRun t l (fun c => c.conLine l (c.badVision n 2) 0 false (fun c => c.camQuery l n)) s

/-- VISION_TENANT (R426). -/
def execVisionTenant (t : Nat) (l : Ln) (n : Nat) (s : State) : Host.Outcome State Fault Refusal :=
  conRun t l (fun c => c.conLine l (c.badVision n 4) 0 false (fun c => c.tenantQuery l n)) s

/-- VISION_GRID (R426). -/
def execVisionGrid (t : Nat) (l : Ln) (cam tenant : Nat) (s : State) : Host.Outcome State Fault Refusal :=
  conRun t l (fun c => c.conLine l (c.badGrid cam tenant) 0 false (fun c => c.gridQuery l cam tenant)) s

/-- VISION_TENANT_START (R426). -/
def execVisionTenantStart (t : Nat) (l : Ln) (n : Nat) (s : State) : Host.Outcome State Fault Refusal :=
  conRun t l (fun c => c.conQueued l (c.badVision n 4) 2 true .tenantStart n 0 0) s

/-- VISION_TENANT_STOP (R426). -/
def execVisionTenantStop (t : Nat) (l : Ln) (n : Nat) (s : State) : Host.Outcome State Fault Refusal :=
  conRun t l (fun c => c.conQueued l (c.badVision n 4) 2 true .tenantStop n 0 0) s

/-- CAN_STATUS (R413). -/
def execCanStatus (t : Nat) (l : Ln) (n : Nat) (s : State) : Host.Outcome State Fault Refusal :=
  conRun t l (fun c => c.conLine l (badIndex n 3) 0 false (fun c => c.canQuery l n)) s

/-- CAN_MODE (R274). -/
def execCanMode (t : Nat) (l : Ln) (n : Nat) (mode : Fin 3) (s : State) : Host.Outcome State Fault Refusal :=
  conRun t l (fun c => c.conQueued l (badIndex n 3) 2 true .canMode n mode 0) s

/-- CAN_INIT (R273). -/
def execCanInit (t : Nat) (l : Ln) (n : Nat) (on : Bool) (s : State) : Host.Outcome State Fault Refusal :=
  conRun t l (fun c => c.conQueued l (badIndex n 3) 2 true .canInit n (cond on 1 0) 0) s

/-- ETH_STATUS (R413). -/
def execEthStatus (t : Nat) (l : Ln) (s : State) : Host.Outcome State Fault Refusal :=
  conRun t l (fun c => c.conLine l 0 0 false (fun c => c.ethQuery l)) s

/-- ETH_PORT (R413). -/
def execEthPort (t : Nat) (l : Ln) (n : Nat) (s : State) : Host.Outcome State Fault Refusal :=
  conRun t l (fun c => c.conLine l (badIndex n 2) 0 false (fun c => c.portQuery l n)) s

/-- TIME_STATUS (R413). -/
def execTimeStatus (t : Nat) (l : Ln) (s : State) : Host.Outcome State Fault Refusal :=
  conRun t l (fun c => c.conLine l 0 0 false (fun c => c.timeQuery l)) s

/-- TIME_NOW (R413). -/
def execTimeNow (t : Nat) (l : Ln) (s : State) : Host.Outcome State Fault Refusal :=
  conRun t l (fun c => c.conLine l 0 0 false (fun c => c.nowQuery l)) s

/-- PAIR_STATUS (R413). -/
def execPairStatus (t : Nat) (l : Ln) (s : State) : Host.Outcome State Fault Refusal :=
  conRun t l (fun c => c.conLine l 0 0 false (fun c => c.pairQuery l)) s

/-- PAIR_HEALTH_QUERY (R413). -/
def execPairHealthQuery (t : Nat) (l : Ln) (s : State) : Host.Outcome State Fault Refusal :=
  conRun t l (fun c => c.conLine l 0 0 false (fun c => c.healthQuery l)) s

/-- PAIR_HANDOVER (R427). -/
def execPairHandover (t : Nat) (l : Ln) (s : State) : Host.Outcome State Fault Refusal :=
  conRun t l (fun c => c.conQueued l 0 2 true .handover 0 0 0) s

/-- QUEUE (R413). -/
def execQueue (t : Nat) (l : Ln) (q : Nat) (s : State) : Host.Outcome State Fault Refusal :=
  conRun t l (fun c => c.conLine l (badIndex q 128) 0 false (fun c => c.queueQuery l q)) s

/-- QUEUE_KEY (R403). -/
def execQueueKey (t : Nat) (l : Ln) (q key : Nat) (s : State) : Host.Outcome State Fault Refusal :=
  conRun t l (fun c => c.conLine l (badIndex q 128) 0 false (fun c => c.keyQuery l q key)) s

/-- FAULT_LIST (R413). -/
def execFaultList (t : Nat) (l : Ln) (s : State) : Host.Outcome State Fault Refusal :=
  conRun t l (fun c => c.conLine l 0 0 false (fun c => c.faultQuery l)) s

/-- FAULT_ACK (R486): from the console, or a write of FLT_ACK. -/
def execFaultAck (t : Nat) (l : Option Ln) (code : Nat) (s : State) : Host.Outcome State Fault Refusal :=
  match l with
  | some l => conRun t l (fun c => c.conQueued l 0 2 true .faultAck code 0 0) s
  | none => runS .app t (fun c => (c.ackFault code).1) s

/-- LEDGER_STATUS (R428). -/
def execLedgerStatus (t : Nat) (l : Ln) (s : State) : Host.Outcome State Fault Refusal :=
  conRun t l (fun c => c.conLine l 0 0 false (fun c => c.ledgerQuery l)) s

/-- LEDGER_READ (R428). -/
def execLedgerRead (t : Nat) (l : Ln) (seq count : Nat) (s : State) : Host.Outcome State Fault Refusal :=
  conRun t l (fun c => c.conLine l 0 0 false (fun c => c.ledgerReadReply l seq count)) s

/-- LEDGER_ACK (R429). -/
def execLedgerAck (t : Nat) (l : Ln) (seq : Nat) (s : State) : Host.Outcome State Fault Refusal :=
  conRun t l (fun c => c.conLine l 0 2 true (fun c => c.ledgerAckCmd l seq)) s

/-- RESET_FUNCTION (R432): fbk, mot and nos act on the doorway. -/
def execResetFunction (t : Nat) (l : Ln) (f : Fin 10) (s : State) : Host.Outcome State Fault Refusal :=
  conRun t l (fun c => c.conQueued l 0 2 (decide (f.val < 3)) .fnReset f 0 0) s

/-- SYS_INFO (R413). -/
def execSysInfo (t : Nat) (l : Ln) (s : State) : Host.Outcome State Fault Refusal :=
  conRun t l (fun c => c.conLine l 0 0 false (fun c => c.infoQuery l)) s

/-- SYS_CAUSE (R413). -/
def execSysCause (t : Nat) (l : Ln) (s : State) : Host.Outcome State Fault Refusal :=
  conRun t l (fun c => c.conLine l 0 0 false (fun c => c.causeQuery l)) s

/-- SYS_CAUSE_CLEAR (R64). -/
def execSysCauseClear (t : Nat) (l : Ln) (mask : Nat) (s : State) : Host.Outcome State Fault Refusal :=
  conRun t l (fun c => c.conQueued l (badMask mask) 2 false .causeClear 0 0 mask) s

/-- SYS_FRST (R413). -/
def execSysFrst (t : Nat) (l : Ln) (s : State) : Host.Outcome State Fault Refusal :=
  conRun t l (fun c => c.conLine l 0 0 false (fun c => c.frstQuery l)) s

/-- SYS_SUPPLY (R413). -/
def execSysSupply (t : Nat) (l : Ln) (s : State) : Host.Outcome State Fault Refusal :=
  conRun t l (fun c => c.conLine l 0 0 false (fun c => c.supplyQuery l)) s

end Sys2Proof.Machine
end

