-- ==== Sys2Proof/Machine/FaultCmd.lean ====
section
/-! DEFINITION. The commands of the fault manager but FAULT_ACK (spec/21_faults_and_long_run.md). -/

namespace Sys2Proof.Machine

/-- FAULT_TAKE (R476). -/
def execFaultTake (t : Nat) (s : State) : Host.Outcome State Fault Refusal := runS .app t (fun c => c.faultTake.visionCheck) s

/-- FAULT_HANDLING_END (R478). -/
def execFaultHandlingEnd (t : Nat) (s : State) : Host.Outcome State Fault Refusal := runS .app t (fun c => c.handlingEnd) s

/-- EVENT_FAULT_CLEAR (R486). -/
def execEventFaultClear (t code : Nat) (s : State) : Host.Outcome State Fault Refusal := run .app t (fun c => c.eventClear code) s

/-- COALESCED_RECORD (R479). -/
def execCoalescedRecord (t code : Nat) (s : State) : Host.Outcome State Fault Refusal := run .app t (fun c => c.coalRecord code) s

/-- MOT_RESET_START_TIMEOUT (R483). -/
def execMotResetStartTimeout (t : Nat) (s : State) : Host.Outcome State Fault Refusal := run .app t (fun c => c.motResetLate) s

end Sys2Proof.Machine
end

