-- ==== Sys2Proof/Machine/PairCmd.lean ====
section
/-! DEFINITION. The commands of the lichen pair (spec/15_lichen_pair.md, spec/16 R370, R375). -/

namespace Sys2Proof.Machine

/-- MIRROR: applied whole by the standby; the active takes the acknowledgement (R346). -/
def Chip.mirrorFrame (c : Chip) (h : PairHdr) (f : MirFrame) : Chip :=
  let (c, ok) := c.pairFrame h
  if ok = false then c
  else match f with
    | .state b => if c.isStandby then c.mirrorApply h b else c
    | .ack a => if c.isActive then c.mirrorAcked a else c

/-- RENEW (R339). -/
def execRenew (t : Nat) (h : PairHdr) (s : State) : Host.Outcome State Fault Refusal := run .app t (fun c => c.renew h) s

/-- MIRROR (R346). -/
def execMirror (t : Nat) (h : PairHdr) (f : MirFrame) (s : State) : Host.Outcome State Fault Refusal :=
  runS .app t (fun c => c.mirrorFrame h f) s

/-- HEALTH (R349). -/
def execHealth (t : Nat) (h : PairHdr) (st checks : Nat) (s : State) : Host.Outcome State Fault Refusal :=
  runS .app t (fun c => c.healthFrame h st checks) s

/-- HELLO (R343). -/
def execHello (t : Nat) (h : PairHdr) (i : HelloInfo) (s : State) : Host.Outcome State Fault Refusal := runS .app t (fun c => c.hello h i) s

/-- HO_REQ (R357). -/
def execHoReq (t : Nat) (h : PairHdr) (s : State) : Host.Outcome State Fault Refusal := run .app t (fun c => c.hoReqFrame h) s

/-- HO_ACK (R357). -/
def execHoAck (t : Nat) (h : PairHdr) (s : State) : Host.Outcome State Fault Refusal := runS .app t (fun c => c.hoAckFrame h) s

/-- TRANSFER (R357). -/
def execTransfer (t : Nat) (h : PairHdr) (s : State) : Host.Outcome State Fault Refusal := run .app t (fun c => c.transferFrame h) s

/-- SAFE (R360). -/
def execSafe (t : Nat) (h : PairHdr) (s : State) : Host.Outcome State Fault Refusal := runS .app t (fun c => c.safeFrame h) s

/-- LEASE_RENEWAL (R338). -/
def execLeaseRenewal (t : Nat) (s : State) : Host.Outcome State Fault Refusal := run .app t (fun c => c.leaseRenewal) s

/-- LEASE_RELEASE (R338). -/
def execLeaseRelease (t : Nat) (s : State) : Host.Outcome State Fault Refusal := run .app t (fun c => c.leaseRelease) s

/-- LEASE_EXPIRY (R351). -/
def execLeaseExpiry (t : Nat) (s : State) : Host.Outcome State Fault Refusal := run .app t (fun c => c.leaseExpiry) s

/-- LEASE_IN_TOGGLING (R340). -/
def execLeaseInToggling (t : Nat) (s : State) : Host.Outcome State Fault Refusal := run .app t (fun c => c.leaseInOn) s

/-- LEASE_IN_STOPPED (R340). -/
def execLeaseInStopped (t : Nat) (s : State) : Host.Outcome State Fault Refusal := run .app t (fun c => c.leaseInOff) s

/-- STEER_TIMEOUT (R342). -/
def execSteerTimeout (t : Nat) (s : State) : Host.Outcome State Fault Refusal := run .app t (fun c => c.steerTimeout) s

/-- PAIR_LINK_DOWN (R335). -/
def execPairLinkDown (t : Nat) (s : State) : Host.Outcome State Fault Refusal := runS .app t (fun c => c.pairLinkDown) s

/-- HELLO_SEND (R336). -/
def execHelloSend (t : Nat) (s : State) : Host.Outcome State Fault Refusal := run .app t (fun c => c.helloSend) s

/-- ELECT_WAIT_EXPIRY (R343). -/
def execElectWaitExpiry (t : Nat) (s : State) : Host.Outcome State Fault Refusal := run .app t (fun c => c.elect) s

/-- HEALTH_SEND (R349). -/
def execHealthSend (t : Nat) (s : State) : Host.Outcome State Fault Refusal := run .app t (fun c => c.healthSend) s

/-- PAIR_HEALTH (R350). -/
def execPairHealth (t : Nat) (s : State) : Host.Outcome State Fault Refusal := run .app t (fun c => c.pairHealthMsg) s

/-- MIRROR_MISSED (R346). -/
def execMirrorMissed (t : Nat) (s : State) : Host.Outcome State Fault Refusal := run .app t (fun c => c.mirrorMissed) s

/-- HO_GO (R356). -/
def execHoGo (t : Nat) (s : State) : Host.Outcome State Fault Refusal := run .app t (fun c => c.hoBegin.1) s

/-- HO_ACK_TIMEOUT (R356). -/
def execHoAckTimeout (t : Nat) (s : State) : Host.Outcome State Fault Refusal := runS .app t (fun c => c.hoAckLate) s

/-- SPLIT_RETRY (R358). -/
def execSplitRetry (t : Nat) (s : State) : Host.Outcome State Fault Refusal := run .app t (fun c => c.splitRetry) s

/-- MIRROR_CONFIRM_TIMEOUT (R370). -/
def execMirrorConfirmTimeout (t : Nat) (slot : Fin 4096) (s : State) : Host.Outcome State Fault Refusal :=
  runS .app t (fun c => c.confirmLate slot) s

/-- RESYNCHRONISATION_END (R375). -/
def execResynchronisationEnd (t : Nat) (s : State) : Host.Outcome State Fault Refusal := run .app t (fun c => c.resyncEnd) s

/-- SYMBOL_LOCK_LOSS (R335). -/
def execSymbolLockLoss (t : Nat) (lane : Fin 2) (s : State) : Host.Outcome State Fault Refusal :=
  run .app t (fun c => if c.paired then c.dropLane lane else c) s

end Sys2Proof.Machine
end

