-- ==== Sys2Proof/Machine/PowerCmd.lean ====
section
/-! DEFINITION. The commands of supply, reset and start-up (spec/03_power_reset_boot.md, spec/01 R25). -/

namespace Sys2Proof.Machine

/-- The text of bytes. -/
def textOf (bs : List Byte) : String := String.ofList (bs.map (fun b => Char.ofNat b.toNat))

/-- SUP_STATUS.STORE_GATED: a store waits under the gate (R52). -/
def Chip.gatedShow (c : Chip) : Chip :=
  c.put SUP_STATUS_STORE_GATED (c.sup.waiting != [] || c.sys.frst.any (fun r => r.acked) ||
    (c.ledg.queue != [] && !c.gateOpen .ledger) || (c.cfg.repair.isSome && !c.gateOpen .config))

/-- A waiting store starts (R53): an acceptance or a completion goes on, the bytes of a mirror or of a mark are stored, and a revert at the
limit of service is made; a confirmation that was accepted before it comes first (R467). -/
def Chip.startStore (c : Chip) (w : Store) : Chip :=
  let c : Chip := { c with sup := { c.sup with waiting := c.sup.waiting.erase w } }
  match w.kind with
  | .accept => if w.arg = 4096 then w.writes.foldl (fun c x => c.applyStore x) c else c.commit w.arg
  | .completion => c.storeDone w.arg (match w.writes with | x :: _ => textOf x.2 | [] => "")
  | .pointer => c.trialOver
  | _ => w.writes.foldl (fun c x => c.mramOwn x.1 x.2) c

/-- GATED_STORE_START: the oldest waiting store that the gate lets start (R52), or what waits for a store elsewhere. -/
def Chip.gatedStart (c : Chip) : Chip :=
  let c := match c.sup.waiting.find? (fun w => c.gateOpen w.kind) with
    | some w => c.startStore w
    | none => if c.cfg.repair.isSome then c.configRepair.fnGated else c.fnGated
  c.gatedShow

/-- Every waiting store, once the warning has cleared. -/
def Chip.startAll (c : Chip) : Chip :=
  let c := c.sup.waiting.foldl (fun c w => c.startStore w) c
  (if c.cfg.repair.isSome then c.configRepair else c).fnGated.gatedShow

/-- SUPPLY_WARNING_CLEAR: the end of the dip; the stores and the held entries start (R56, R58). -/
def Chip.warnClear (c : Chip) : Chip :=
  if c.warnOver then
    let c := c.dipEnd
    if c.live .app then c.startAll else c
  else c

/-- POWER_ON_RESET (R49). -/
def execPowerOnReset (t : Nat) (rails : BitVec 9) (s : State) : Host.Outcome State Fault Refusal := runAny t (fun c => c.powerOn rails.toNat) s

/-- RESET_N_RESET (R62). -/
def execResetNReset (t width : Nat) (s : State) : Host.Outcome State Fault Refusal := runAny t (fun c => c.resetN width) s

/-- RESET_RELEASE (R73). -/
def execResetRelease (t : Nat) (e : StartUp) (s : State) : Host.Outcome State Fault Refusal := runAny t (fun c => (c.startUp e).settle) s

/-- STRAP_SAMPLE (R68). -/
def execStrapSample (t : Nat) (levels : BitVec 5) (stable : Bool) (s : State) : Host.Outcome State Fault Refusal :=
  run .clock t (fun c => if c.sys.held.isSome then c else c.straps levels.toNat stable) s

/-- REFERENCE_QUALIFY (R70). -/
def execReferenceQualify (t : Nat) (s : State) : Host.Outcome State Fault Refusal := run .clock t (fun c => c.refQualify) s

/-- REFERENCE_FAULT (R70). -/
def execReferenceFault (t : Nat) (s : State) : Host.Outcome State Fault Refusal := run .clock t (fun c => c.refFault) s

/-- RSTMAP_PROGRAM (R62). -/
def execRstmapProgram (t : Nat) (level : Fin 4) (s : State) : Host.Outcome State Fault Refusal :=
  run .app t (fun c => c.rstmapProgram level) s

/-- SUPPLY_WARNING_CLEAR (R58). -/
def execSupplyWarningClear (t : Nat) (s : State) : Host.Outcome State Fault Refusal := runS .aon t (fun c => c.warnClear) s

/-- SUPPLY_HOLD (R59). -/
def execSupplyHold (t : Nat) (s : State) : Host.Outcome State Fault Refusal := runS .aon t (fun c => c.supplyHold) s

/-- GATED_STORE_START (R52). -/
def execGatedStoreStart (t : Nat) (s : State) : Host.Outcome State Fault Refusal := runS .app t (fun c => c.gatedStart) s

/-- FUNCTION_RESET_REQUEST (R65): SYS_FRST_CTRL written with GO. -/
def execFunctionResetRequest (t : Nat) (f : Fin 16) (s : State) : Host.Outcome State Fault Refusal :=
  runS .app t (fun c => (c.fnRequest f none false).visionCheck) s

/-- IDLE_ACKNOWLEDGE (R65). -/
def execIdleAcknowledge (t : Nat) (f : Fin 10) (s : State) : Host.Outcome State Fault Refusal := runS .app t (fun c => c.idleAck f) s

/-- FUNCTION_RESET_TIMEOUT (R65). -/
def execFunctionResetTimeout (t : Nat) (f : Fin 10) (s : State) : Host.Outcome State Fault Refusal := runS .app t (fun c => c.fnTimeout f) s

/-- MOTU_DEFERRAL_TIMEOUT (R25). -/
def execMotuDeferralTimeout (t : Nat) (s : State) : Host.Outcome State Fault Refusal := runS .app t (fun c => c.motuLate) s

end Sys2Proof.Machine
end

