-- ==== Sys2Proof/Machine/UpdateCmd.lean ====
section
/-! DEFINITION. The commands of image update and of the boot ROM's download (spec/20_update_and_service.md). -/

namespace Sys2Proof.Machine

/-- What stands against an image or slot number of a line. -/
def badSlot (img slot : Nat) : Nat := if img < 10 ∧ slot < 2 then 0 else 108

/-- The boot ROM's answer on UART0: the number of the refusal, or `ok` with its text (R470). -/
def Chip.romAnswer (c : Chip) (l : Ln) (text : String) (r : Chip × Nat) : Chip := if r.2 = 0 then r.1.okay l text else c.fail l r.2 ""

/-- `update begin`, `update verify` and `update activate` in the boot ROM: only the service image (R470). -/
def Chip.romUpdate (c : Chip) (l : Ln) (img : Nat) (f : Chip → Chip × Nat) : Chip :=
  c.romLine l (fun c => if img = 9 then c.romAnswer l "" (f c) else c.fail l 601 "")

/-- `update data` in the boot ROM. -/
def Chip.romData (c : Chip) (l : Ln) (off : Nat) (bytes : List Byte) : Chip :=
  c.romLine l (fun c =>
    if bytes.length = 128 then
      let r := c.svcData off bytes true
      c.romAnswer l ("mark=" ++ toString (r.1.upd.svc.got / 4096)) r
    else c.fail l 108 "")

/-- UPDATE_DATA: a direct command (R431); its reply tells the mark of the slot. -/
def Chip.updateDataReply (c : Chip) (l : Ln) (off : Nat) (bytes : List Byte) (fails : Nat) : Chip :=
  let i := c.upd.cur
  let r := c.updData off bytes fails
  if r.2 = 0 then r.1.okay l ("mark=" ++ r.1.num (UPD_SLOT_STAT_MARK (i.getD 0))) else r.1.fail l r.2 ""

/-- UPDATE_STATUS (R430). -/
def execUpdateStatus (t : Nat) (l : Ln) (img : Option Nat) (s : State) : Host.Outcome State Fault Refusal :=
  conRun t l (fun c => c.conLine l (match img with | some k => badIndex k 9 | none => 0) 0 false (fun c => c.updateQuery l img)) s

/-- UPDATE_BEGIN (R457). -/
def execUpdateBegin (t : Nat) (l : Ln) (img slot size : Nat) (s : State) : Host.Outcome State Fault Refusal :=
  conRunWith t (fun c => c.romUpdate l img (fun c => c.svcBegin size)) (fun c => c.conQueued l (badSlot img slot) 2 false .updBegin img slot size) s

/-- UPDATE_DATA (R458). -/
def execUpdateData (t : Nat) (l : Ln) (off : Nat) (bytes : List Byte) (fails : Fin 3) (s : State) : Host.Outcome State Fault Refusal :=
  conRunWith t (fun c => c.romData l off bytes)
    (fun c => c.conLine l (if bytes.length = 128 then 0 else 108) 2 false (fun c => c.updateDataReply l off bytes fails)) s

/-- UPDATE_VERIFY (R460). -/
def execUpdateVerify (t : Nat) (l : Ln) (img slot : Nat) (s : State) : Host.Outcome State Fault Refusal :=
  conRunWith t (fun c => c.romUpdate l img (fun c => c.svcVerify)) (fun c => c.conQueued l (badSlot img slot) 2 false .updVerify img slot 0) s

/-- VERIFICATION_END (R460). -/
def execVerificationEnd (t : Nat) (s : State) : Host.Outcome State Fault Refusal := runS .app t (fun c => c.verifyEnd) s

/-- UPDATE_ACTIVATE (R463). -/
def execUpdateActivate (t : Nat) (l : Ln) (img slot : Nat) (s : State) : Host.Outcome State Fault Refusal :=
  conRunWith t (fun c => c.romUpdate l img (fun c => c.svcRun)) (fun c => c.conQueued l (badSlot img slot) 2 false .updActivate img slot 0) s

/-- TRIAL_TIME_STORE (R467). -/
def execTrialTimeStore (t : Nat) (s : State) : Host.Outcome State Fault Refusal := run .app t (fun c => c.trialStore) s

/-- TRIAL_TIME_LIMIT (R467). -/
def execTrialTimeLimit (t : Nat) (s : State) : Host.Outcome State Fault Refusal := runS .app t (fun c => c.trialLimit) s

/-- UPDATE_CONFIRM (R468). -/
def execUpdateConfirm (t : Nat) (l : Ln) (img : Nat) (s : State) : Host.Outcome State Fault Refusal :=
  conRun t l (fun c => c.conQueued l (badSlot img 0) 2 false .updConfirm img 0 0) s

/-- UPDATE_ABORT (R430). -/
def execUpdateAbort (t : Nat) (l : Ln) (img slot : Nat) (s : State) : Host.Outcome State Fault Refusal :=
  conRun t l (fun c => c.conQueued l (badSlot img slot) 2 false .updAbort img slot 0) s

/-- SELF_RESET_PULSE (R465). -/
def execSelfResetPulse (t : Nat) (s : State) : Host.Outcome State Fault Refusal := run .app t (fun c => c.selfReset) s

/-- A request of the boot download on CAN0, which the boot ROM serves while it waits (R471). -/
def bootRun (t : Nat) (op : Nat) (seq : Fin 256) (f : Chip → Chip × Nat) (s : State) : Host.Outcome State Fault Refusal :=
  runAny t (fun c => if c.sys.held.isSome then c else (c.bootRequest op seq f).settle) s

/-- BOOT_BEGIN (R471). -/
def execBootBegin (t : Nat) (seq : Fin 256) (size : Nat) (s : State) : Host.Outcome State Fault Refusal :=
  bootRun t 1 seq (fun c => c.svcBegin size) s

/-- BOOT_DATA (R471). -/
def execBootData (t : Nat) (seq : Fin 256) (off : Nat) (bytes : List Byte) (s : State) : Host.Outcome State Fault Refusal :=
  bootRun t 2 seq (fun c => c.svcData off (bytes.take 32) false) s

/-- BOOT_VERIFY (R471). -/
def execBootVerify (t : Nat) (seq : Fin 256) (s : State) : Host.Outcome State Fault Refusal := bootRun t 3 seq (fun c => c.svcVerify) s

/-- BOOT_RUN (R471). -/
def execBootRun (t : Nat) (seq : Fin 256) (s : State) : Host.Outcome State Fault Refusal := bootRun t 4 seq (fun c => c.svcRun) s

end Sys2Proof.Machine
end

