-- ==== Sys2Proof/Machine/Cycle.lean ====
section
/-! DEFINITION. The control-cycle boundary (spec/01 R13): what the application side, the safety island, DOOR and the executors do at it, in
one order (log 55). -/

namespace Sys2Proof.Machine

/-- What FBK, DOM and MOT do at the boundary: the mirror frame of the state as it stands (R346), the references (R97, R98), the domains and
their rates (R104, R121), the motions that slots asked for (R113), the check against the encoders and the force estimates (R141, R155). -/
def Chip.cycleSense (c : Chip) : Chip :=
  let c := c.mirrorSend.fbkBoundary.wheelCycle.domRefresh true
  let c := [0, 1, 2, 3, 4, 5, 6].foldl (fun c d => c.rateCheck d) c
  let c := c.slotMotions
  let c := [0, 1, 2, 3].foldl (fun c n => c.stepLossCheck n) c
  [0, 1, 2, 3].foldl (fun c n => c.forceEstimate n) c

/-- What the safety island does at the boundary: the signals of slots, the vote, the bridges, the step of the self-test and the read-back
(R113, R190 to R200). It goes on in an L2 reset (R63). -/
def Chip.cycleIsland (c : Chip) (b : Boundary) : Chip :=
  let was := c.get VOTE_STAT_MODE
  let c := ((c.signals.voterCycle b.late.toNat).bridgesFollow.selfTestStep b.selfFail).readBack b.mismatch.toNat
  if was ≠ 2 ∧ c.get VOTE_STAT_MODE = 2 ∧ c.live .app then c.autoHandover else c

/-- DOOR's cycle, on a chip that is not between claim and first output cycle (R160, R342). -/
def Chip.cycleDoor (c : Chip) : Chip := if c.pair.claimAt.isSome then c else c.doorCycle

/-- The notifications that waited for an output line of a session to end (R404). -/
def Chip.cycleNotes (c : Chip) : Chip :=
  (List.range 6).foldl (fun c k =>
    match c.sess[k]? with
    | some x => if x.busyUntil ≤ c.now ∧ (x.notes ≠ [] ∨ 0 < x.lost) then c.flushNotes k else c
    | none => c) c

/-- The rest of the boundary: election, installation, time, supply gate, sessions, health, the lease's conditions, and what waited for
standstill (R343, R441, R310, R53, R349, R338, R25, R483). -/
def Chip.cycleRest (c : Chip) (b : Boundary) : Chip :=
  let c := c.elect.configBoundary.timeShow.refuseGated.exportPath.occSend
  let c := (c.healthCycle.leaseCycle b.late.toNat).motuTry.motFaults
  c.cycleNotes.settle

/-- One control-cycle boundary (R13): VOTE, DOOR, MOT's check and the mirror frame; irq line 0 (Table 22-3). -/
def Chip.cycle (c : Chip) (b : Boundary) : Chip :=
  if c.live .app ∧ c.sys.started then
    let c := ((c.cycleSense.steering b.steerFb).voteClocks.visionCheck.cycleIsland b).cycleDoor
    let c := c.cycleRest b
    { c with irq := setBit c.irq 0 true }
  else ({ c with pins := { c.pins with steerFb := b.steerFb } } : Chip).cycleIsland b

/-- CONTROL_CYCLE_BOUNDARY (R13). -/
def execControlCycleBoundary (t : Nat) (b : Boundary) (s : State) : Host.Outcome State Fault Refusal := run .island t (fun c => c.cycle b) s

end Sys2Proof.Machine
end

