-- ==== Sys2Proof/Machine/Dispatch.lean ====
section
/-! DEFINITION. One arm for each command of the table: a direct call of its meaning. -/

namespace Sys2Proof.Machine

/-- The effect of a command on everything but the queue. -/
def exec (i : Instr) (s : State) : Host.Outcome State Fault Refusal :=
  match i with
  | .powerOnReset t rails => Sys2Proof.Machine.execPowerOnReset t rails s
  | .resetNReset t width => Sys2Proof.Machine.execResetNReset t width s
  | .resetRelease t env => Sys2Proof.Machine.execResetRelease t env s
  | .strapSample t straps stable => Sys2Proof.Machine.execStrapSample t straps stable s
  | .referenceQualify t => Sys2Proof.Machine.execReferenceQualify t s
  | .referenceFault t => Sys2Proof.Machine.execReferenceFault t s
  | .rstmapProgram t level => Sys2Proof.Machine.execRstmapProgram t level s
  | .holdupEnergyUpdate t vsense => Sys2Proof.Machine.execHoldupEnergyUpdate t vsense s
  | .supplyWarningAssert t => Sys2Proof.Machine.execSupplyWarningAssert t s
  | .supplyWarningClear t => Sys2Proof.Machine.execSupplyWarningClear t s
  | .supplyHold t => Sys2Proof.Machine.execSupplyHold t s
  | .threshWrite t v => Sys2Proof.Machine.execThreshWrite t v s
  | .gatedStoreStart t => Sys2Proof.Machine.execGatedStoreStart t s
  | .functionResetRequest t func => Sys2Proof.Machine.execFunctionResetRequest t func s
  | .idleAcknowledge t func => Sys2Proof.Machine.execIdleAcknowledge t func s
  | .functionResetTimeout t func => Sys2Proof.Machine.execFunctionResetTimeout t func s
  | .rawTransition t ch a b => Sys2Proof.Machine.execRawTransition t ch a b s
  | .deferredEdgeAccept t ch => Sys2Proof.Machine.execDeferredEdgeAccept t ch s
  | .cableFaultBegin t ch input => Sys2Proof.Machine.execCableFaultBegin t ch input s
  | .cableFaultEnd t ch input => Sys2Proof.Machine.execCableFaultEnd t ch input s
  | .indexPulse t ch hall => Sys2Proof.Machine.execIndexPulse t ch hall s
  | .indexArm t ch => Sys2Proof.Machine.execIndexArm t ch s
  | .indexDisarm t ch => Sys2Proof.Machine.execIndexDisarm t ch s
  | .countWrite t ch v => Sys2Proof.Machine.execCountWrite t ch v s
  | .hallChange t ax which magnet => Sys2Proof.Machine.execHallChange t ax which magnet s
  | .observerUpdate t ch => Sys2Proof.Machine.execObserverUpdate t ch s
  | .standstill t ch => Sys2Proof.Machine.execStandstill t ch s
  | .wheelQualified t w => Sys2Proof.Machine.execWheelQualified t w s
  | .wheelDisagree t => Sys2Proof.Machine.execWheelDisagree t s
  | .disagreeFault t => Sys2Proof.Machine.execDisagreeFault t s
  | .votedStandstill t => Sys2Proof.Machine.execVotedStandstill t s
  | .blendComplete t => Sys2Proof.Machine.execBlendComplete t s
  | .pwcPulse t ch width => Sys2Proof.Machine.execPwcPulse t ch width s
  | .ssiFrame t ch bits monoflop => Sys2Proof.Machine.execSsiFrame t ch bits monoflop s
  | .extrapolatedFire t slot => Sys2Proof.Machine.execExtrapolatedFire t slot s
  | .vehicleTimeFire t slot => Sys2Proof.Machine.execVehicleTimeFire t slot s
  | .pinPulseEnd t gpio => Sys2Proof.Machine.execPinPulseEnd t gpio s
  | .slotArm t slot => Sys2Proof.Machine.execSlotArm t slot s
  | .slotDisarm t slot => Sys2Proof.Machine.execSlotDisarm t slot s
  | .d4Set t v => Sys2Proof.Machine.execD4Set t v s
  | .latchFifoPop t => Sys2Proof.Machine.execLatchFifoPop t s
  | .controlCycleBoundary t b => Sys2Proof.Machine.execControlCycleBoundary t b s
  | .profileTick t => Sys2Proof.Machine.execProfileTick t s
  | .motStart t ax set => Sys2Proof.Machine.execMotStart t ax set s
  | .motStop t ax => Sys2Proof.Machine.execMotStop t ax s
  | .motEmerg t ax => Sys2Proof.Machine.execMotEmerg t ax s
  | .motHalt t ax => Sys2Proof.Machine.execMotHalt t ax s
  | .motReref t ax => Sys2Proof.Machine.execMotReref t ax s
  | .tripInput t ax src => Sys2Proof.Machine.execTripInput t ax src s
  | .revHoldEnd t ax => Sys2Proof.Machine.execRevHoldEnd t ax s
  | .holdScale t ax => Sys2Proof.Machine.execHoldScale t ax s
  | .stall t ax => Sys2Proof.Machine.execStall t ax s
  | .chopperCycleStart t ax ph => Sys2Proof.Machine.execChopperCycleStart t ax ph s
  | .blankingEnd t ax ph iv => Sys2Proof.Machine.execBlankingEnd t ax ph iv s
  | .onStateEnd t ax ph iv => Sys2Proof.Machine.execOnStateEnd t ax ph iv s
  | .offPhaseEnd t ax ph iv mean => Sys2Proof.Machine.execOffPhaseEnd t ax ph iv mean s
  | .forceTrip t ax => Sys2Proof.Machine.execForceTrip t ax s
  | .forceCal t ax => Sys2Proof.Machine.execForceCal t ax s
  | .forceFitEnd t ax => Sys2Proof.Machine.execForceFitEnd t ax s
  | .clrOfs t ax => Sys2Proof.Machine.execClrOfs t ax s
  | .bridgeEnableLoss t ax => Sys2Proof.Machine.execBridgeEnableLoss t ax s
  | .overcurrent t ax ph => Sys2Proof.Machine.execOvercurrent t ax ph s
  | .openPhase t ax ph => Sys2Proof.Machine.execOpenPhase t ax ph s
  | .adcCheck t ax offset refErr => Sys2Proof.Machine.execAdcCheck t ax offset refErr s
  | .currentSag t ax ph => Sys2Proof.Machine.execCurrentSag t ax ph s
  | .warningTimeElapsed t => Sys2Proof.Machine.execWarningTimeElapsed t s
  | .rewarnElapsed t => Sys2Proof.Machine.execRewarnElapsed t s
  | .openTimeout t => Sys2Proof.Machine.execOpenTimeout t s
  | .closeTimeout t => Sys2Proof.Machine.execCloseTimeout t s
  | .recloseElapsed t => Sys2Proof.Machine.execRecloseElapsed t s
  | .lockTimeout t => Sys2Proof.Machine.execLockTimeout t s
  | .leafOverspeed t leaf => Sys2Proof.Machine.execLeafOverspeed t leaf s
  | .pulsedInputCheck t tpo a b c tpoOk => Sys2Proof.Machine.execPulsedInputCheck t tpo a b c tpoOk s
  | .staticInputChange t input closed => Sys2Proof.Machine.execStaticInputChange t input closed s
  | .dualInputDiscrepancy t pair => Sys2Proof.Machine.execDualInputDiscrepancy t pair s
  | .inputUnchanged t input => Sys2Proof.Machine.execInputUnchanged t input s
  | .pushbuttonPost t input => Sys2Proof.Machine.execPushbuttonPost t input s
  | .bridgeStopTimeout t => Sys2Proof.Machine.execBridgeStopTimeout t s
  | .speedVetoFault t => Sys2Proof.Machine.execSpeedVetoFault t s
  | .gridAgeTimeout t cam => Sys2Proof.Machine.execGridAgeTimeout t cam s
  | .visionAbsentEnd t => Sys2Proof.Machine.execVisionAbsentEnd t s
  | .frameStart t cam fn => Sys2Proof.Machine.execFrameStart t cam fn s
  | .longPacket t cam p => Sys2Proof.Machine.execLongPacket t cam p s
  | .frameEnd t cam => Sys2Proof.Machine.execFrameEnd t cam s
  | .streamLoss t cam => Sys2Proof.Machine.execStreamLoss t cam s
  | .nosEnable t => Sys2Proof.Machine.execNosEnable t s
  | .lpddr4xTrainingEnd t ok attempts => Sys2Proof.Machine.execLpddr4xTrainingEnd t ok attempts s
  | .jobDispatch t clu => Sys2Proof.Machine.execJobDispatch t clu s
  | .conv t clu => Sys2Proof.Machine.execConv t clu s
  | .dwconv t clu => Sys2Proof.Machine.execDwconv t clu s
  | .pool t clu => Sys2Proof.Machine.execPool t clu s
  | .add t clu => Sys2Proof.Machine.execAdd t clu s
  | .mul t clu => Sys2Proof.Machine.execMul t clu s
  | .act t clu => Sys2Proof.Machine.execAct t clu s
  | .resize t clu => Sys2Proof.Machine.execResize t clu s
  | .concat t clu => Sys2Proof.Machine.execConcat t clu s
  | .warp t clu => Sys2Proof.Machine.execWarp t clu s
  | .diff t clu => Sys2Proof.Machine.execDiff t clu s
  | .regsum t clu => Sys2Proof.Machine.execRegsum t clu s
  | .thresh t clu => Sys2Proof.Machine.execThresh t clu s
  | .jobEnd t clu => Sys2Proof.Machine.execJobEnd t clu s
  | .jobOverrun t clu => Sys2Proof.Machine.execJobOverrun t clu s
  | .clusterEccError t clu => Sys2Proof.Machine.execClusterEccError t clu s
  | .l2Read t agent off len ecc => Sys2Proof.Machine.execL2Read t agent off len ecc s
  | .l2Write t agent off bytes ecc => Sys2Proof.Machine.execL2Write t agent off bytes ecc s
  | .fillComplete t off => Sys2Proof.Machine.execFillComplete t off s
  | .getS t who off => Sys2Proof.Machine.execGetS t who off s
  | .wt t who off bytes => Sys2Proof.Machine.execWt t who off bytes s
  | .getM t off => Sys2Proof.Machine.execGetM t off s
  | .putM t off bytes => Sys2Proof.Machine.execPutM t off bytes s
  | .inv t who off => Sys2Proof.Machine.execInv t who off s
  | .invAck t who off => Sys2Proof.Machine.execInvAck t who off s
  | .recall t off => Sys2Proof.Machine.execRecall t off s
  | .recallData t off bytes => Sys2Proof.Machine.execRecallData t off bytes s
  | .appCoherenceTimeout t off => Sys2Proof.Machine.execAppCoherenceTimeout t off s
  | .partitionReconfig t p v => Sys2Proof.Machine.execPartitionReconfig t p v s
  | .vmcWriteBack t p => Sys2Proof.Machine.execVmcWriteBack t p s
  | .vmcWriteBackInvalidate t p => Sys2Proof.Machine.execVmcWriteBackInvalidate t p s
  | .pmcClear t k v => Sys2Proof.Machine.execPmcClear t k v s
  | .canFrameReceived t ctl f eccC eccU => Sys2Proof.Machine.execCanFrameReceived t ctl f eccC eccU s
  | .canFrameTransmitted t ctl sof loop eccU => Sys2Proof.Machine.execCanFrameTransmitted t ctl sof loop eccU s
  | .arbitrationLost t ctl => Sys2Proof.Machine.execArbitrationLost t ctl s
  | .canBusError t ctl e => Sys2Proof.Machine.execCanBusError t ctl e s
  | .busOffRecovery t ctl => Sys2Proof.Machine.execBusOffRecovery t ctl s
  | .txGo t ctl v => Sys2Proof.Machine.execTxGo t ctl v s
  | .txAbort t ctl v started => Sys2Proof.Machine.execTxAbort t ctl v started s
  | .initRequest t ctl busy => Sys2Proof.Machine.execInitRequest t ctl busy s
  | .initEntered t ctl => Sys2Proof.Machine.execInitEntered t ctl s
  | .initClear t ctl => Sys2Proof.Machine.execInitClear t ctl s
  | .modeChange t ctl => Sys2Proof.Machine.execModeChange t ctl s
  | .fifoRelease t ctl m v => Sys2Proof.Machine.execFifoRelease t ctl m v s
  | .tevRelease t ctl v => Sys2Proof.Machine.execTevRelease t ctl v s
  | .bufferLock t ctl k => Sys2Proof.Machine.execBufferLock t ctl k s
  | .bufferRelease t ctl k => Sys2Proof.Machine.execBufferRelease t ctl k s
  | .bufferUnlock t ctl v => Sys2Proof.Machine.execBufferUnlock t ctl v s
  | .timestampWrap t ctl => Sys2Proof.Machine.execTimestampWrap t ctl s
  | .ethFrameReceived t port fcsOk frame => Sys2Proof.Machine.execEthFrameReceived t port fcsOk frame s
  | .linkStatusChange t port up speed => Sys2Proof.Machine.execLinkStatusChange t port up speed s
  | .addressAgeOut t mac => Sys2Proof.Machine.execAddressAgeOut t mac s
  | .arpRequest t port mac ip => Sys2Proof.Machine.execArpRequest t port mac ip s
  | .icmpEcho t src dst data => Sys2Proof.Machine.execIcmpEcho t src dst data s
  | .udpDatagram t src sport dst checksum data => Sys2Proof.Machine.execUdpDatagram t src sport dst checksum data s
  | .tcpConnect t ip port => Sys2Proof.Machine.execTcpConnect t ip port s
  | .tcpClose t k => Sys2Proof.Machine.execTcpClose t k s
  | .conIdleTimeout t k => Sys2Proof.Machine.execConIdleTimeout t k s
  | .syncReceived t port domain ingress origin logInterval => Sys2Proof.Machine.execSyncReceived t port domain ingress origin logInterval s
  | .announceReceived t port domain gm interval => Sys2Proof.Machine.execAnnounceReceived t port domain gm interval s
  | .pdelayReqSend t => Sys2Proof.Machine.execPdelayReqSend t s
  | .pdelayReqReceived t port ingress => Sys2Proof.Machine.execPdelayReqReceived t port ingress s
  | .pdelayRespReceived t port receipt origin ingress => Sys2Proof.Machine.execPdelayRespReceived t port receipt origin ingress s
  | .receiptTimeout t => Sys2Proof.Machine.execReceiptTimeout t s
  | .referenceQualified t => Sys2Proof.Machine.execReferenceQualified t s
  | .servoSaturation t => Sys2Proof.Machine.execServoSaturation t s
  | .ethsSelectionResume t => Sys2Proof.Machine.execEthsSelectionResume t s
  | .ppsStart t => Sys2Proof.Machine.execPpsStart t s
  | .ppsEnd t => Sys2Proof.Machine.execPpsEnd t s
  | .doorCmd t path addr data => Sys2Proof.Machine.execDoorCmd t path addr data s
  | .doorStatus t => Sys2Proof.Machine.execDoorStatus t s
  | .interlockStatus t => Sys2Proof.Machine.execInterlockStatus t s
  | .exportStart t path addr data => Sys2Proof.Machine.execExportStart t path addr data s
  | .exportAckn t path addr data => Sys2Proof.Machine.execExportAckn t path addr data s
  | .exportStop t path addr data => Sys2Proof.Machine.execExportStop t path addr data s
  | .exportDataSend t => Sys2Proof.Machine.execExportDataSend t s
  | .exportRetransmit t => Sys2Proof.Machine.execExportRetransmit t s
  | .speedIn t path id data => Sys2Proof.Machine.execSpeedIn t path id data s
  | .vehTime t ctl id sof data => Sys2Proof.Machine.execVehTime t ctl id sof data s
  | .occupancyDiscard t => Sys2Proof.Machine.execOccupancyDiscard t s
  | .renew t h => Sys2Proof.Machine.execRenew t h s
  | .mirror t h f => Sys2Proof.Machine.execMirror t h f s
  | .health t h state checks => Sys2Proof.Machine.execHealth t h state checks s
  | .hello t h iv => Sys2Proof.Machine.execHello t h iv s
  | .hoReq t h => Sys2Proof.Machine.execHoReq t h s
  | .hoAck t h => Sys2Proof.Machine.execHoAck t h s
  | .transfer t h => Sys2Proof.Machine.execTransfer t h s
  | .safe t h => Sys2Proof.Machine.execSafe t h s
  | .leaseRenewal t => Sys2Proof.Machine.execLeaseRenewal t s
  | .leaseRelease t => Sys2Proof.Machine.execLeaseRelease t s
  | .leaseExpiry t => Sys2Proof.Machine.execLeaseExpiry t s
  | .leaseInToggling t => Sys2Proof.Machine.execLeaseInToggling t s
  | .leaseInStopped t => Sys2Proof.Machine.execLeaseInStopped t s
  | .steerTimeout t => Sys2Proof.Machine.execSteerTimeout t s
  | .pairLinkDown t => Sys2Proof.Machine.execPairLinkDown t s
  | .helloSend t => Sys2Proof.Machine.execHelloSend t s
  | .electWaitExpiry t => Sys2Proof.Machine.execElectWaitExpiry t s
  | .healthSend t => Sys2Proof.Machine.execHealthSend t s
  | .pairHealth t => Sys2Proof.Machine.execPairHealth t s
  | .mirrorMissed t => Sys2Proof.Machine.execMirrorMissed t s
  | .hoGo t => Sys2Proof.Machine.execHoGo t s
  | .hoAckTimeout t => Sys2Proof.Machine.execHoAckTimeout t s
  | .splitRetry t => Sys2Proof.Machine.execSplitRetry t s
  | .mirrorConfirmTimeout t slot => Sys2Proof.Machine.execMirrorConfirmTimeout t slot s
  | .resynchronisationEnd t => Sys2Proof.Machine.execResynchronisationEnd t s
  | .ledgerRecordStore t => Sys2Proof.Machine.execLedgerRecordStore t s
  | .stateCellWrite t => Sys2Proof.Machine.execStateCellWrite t s
  | .typedEdit t x1 bytes => Sys2Proof.Machine.execTypedEdit t x1 bytes s
  | .roleIdleTimeout t x1 => Sys2Proof.Machine.execRoleIdleTimeout t x1 s
  | .authLockEnd t x1 => Sys2Proof.Machine.execAuthLockEnd t x1 s
  | .help t l family => Sys2Proof.Machine.execHelp t l family s
  | .ping t l => Sys2Proof.Machine.execPing t l s
  | .modeGen t l => Sys2Proof.Machine.execModeGen t l s
  | .modeTyped t l => Sys2Proof.Machine.execModeTyped t l s
  | .sub t l kind on => Sys2Proof.Machine.execSub t l kind on s
  | .role t l operate => Sys2Proof.Machine.execRole t l operate s
  | .auth t l => Sys2Proof.Machine.execAuth t l s
  | .authResp t l resp => Sys2Proof.Machine.execAuthResp t l resp s
  | .get_ t l names pending_ => Sys2Proof.Machine.execGet_ t l names pending_ s
  | .set_ t l items => Sys2Proof.Machine.execSet_ t l items s
  | .setRelHold t l on => Sys2Proof.Machine.execSetRelHold t l on s
  | .configShow t l layer => Sys2Proof.Machine.execConfigShow t l layer s
  | .configCrc t l => Sys2Proof.Machine.execConfigCrc t l s
  | .configApply t l => Sys2Proof.Machine.execConfigApply t l s
  | .configSave t l => Sys2Proof.Machine.execConfigSave t l s
  | .configRevert t l => Sys2Proof.Machine.execConfigRevert t l s
  | .configFactory t l => Sys2Proof.Machine.execConfigFactory t l s
  | .doorOpen t l ramp => Sys2Proof.Machine.execDoorOpen t l ramp s
  | .doorClose t l => Sys2Proof.Machine.execDoorClose t l s
  | .doorRelease t l => Sys2Proof.Machine.execDoorRelease t l s
  | .doorUnrelease t l => Sys2Proof.Machine.execDoorUnrelease t l s
  | .doorReset t l => Sys2Proof.Machine.execDoorReset t l s
  | .doorIsolate t l => Sys2Proof.Machine.execDoorIsolate t l s
  | .doorUnisolate t l => Sys2Proof.Machine.execDoorUnisolate t l s
  | .doorStatusQuery t l => Sys2Proof.Machine.execDoorStatusQuery t l s
  | .doorMeas t l => Sys2Proof.Machine.execDoorMeas t l s
  | .axisStatus t l n => Sys2Proof.Machine.execAxisStatus t l n s
  | .axisStart t l n set => Sys2Proof.Machine.execAxisStart t l n set s
  | .axisStop t l n => Sys2Proof.Machine.execAxisStop t l n s
  | .axisEmerg t l n => Sys2Proof.Machine.execAxisEmerg t l n s
  | .axisHalt t l n => Sys2Proof.Machine.execAxisHalt t l n s
  | .axisReref t l n => Sys2Proof.Machine.execAxisReref t l n s
  | .curStatus t l n => Sys2Proof.Machine.execCurStatus t l n s
  | .curCal t l n => Sys2Proof.Machine.execCurCal t l n s
  | .curClrofs t l n => Sys2Proof.Machine.execCurClrofs t l n s
  | .fbkStatus t l n => Sys2Proof.Machine.execFbkStatus t l n s
  | .fbkArm t l n => Sys2Proof.Machine.execFbkArm t l n s
  | .fbkDisarm t l n => Sys2Proof.Machine.execFbkDisarm t l n s
  | .fbkCount t l n v => Sys2Proof.Machine.execFbkCount t l n v s
  | .fbkWheel t l => Sys2Proof.Machine.execFbkWheel t l s
  | .domStatus t l => Sys2Proof.Machine.execDomStatus t l s
  | .domSlot t l n => Sys2Proof.Machine.execDomSlot t l n s
  | .domArm t l n => Sys2Proof.Machine.execDomArm t l n s
  | .domDisarm t l n => Sys2Proof.Machine.execDomDisarm t l n s
  | .domD4 t l v => Sys2Proof.Machine.execDomD4 t l v s
  | .domLf t l => Sys2Proof.Machine.execDomLf t l s
  | .domLfPop t l => Sys2Proof.Machine.execDomLfPop t l s
  | .visionStatus t l => Sys2Proof.Machine.execVisionStatus t l s
  | .visionCam t l n => Sys2Proof.Machine.execVisionCam t l n s
  | .visionTenant t l n => Sys2Proof.Machine.execVisionTenant t l n s
  | .visionGrid t l cam tenant => Sys2Proof.Machine.execVisionGrid t l cam tenant s
  | .visionTenantStart t l n => Sys2Proof.Machine.execVisionTenantStart t l n s
  | .visionTenantStop t l n => Sys2Proof.Machine.execVisionTenantStop t l n s
  | .canStatus t l n => Sys2Proof.Machine.execCanStatus t l n s
  | .canMode t l n mode => Sys2Proof.Machine.execCanMode t l n mode s
  | .canInit t l n on => Sys2Proof.Machine.execCanInit t l n on s
  | .ethStatus t l => Sys2Proof.Machine.execEthStatus t l s
  | .ethPort t l n => Sys2Proof.Machine.execEthPort t l n s
  | .timeStatus t l => Sys2Proof.Machine.execTimeStatus t l s
  | .timeNow t l => Sys2Proof.Machine.execTimeNow t l s
  | .pairStatus t l => Sys2Proof.Machine.execPairStatus t l s
  | .pairHealthQuery t l => Sys2Proof.Machine.execPairHealthQuery t l s
  | .pairHandover t l => Sys2Proof.Machine.execPairHandover t l s
  | .queue t l q => Sys2Proof.Machine.execQueue t l q s
  | .queueKey t l q key => Sys2Proof.Machine.execQueueKey t l q key s
  | .faultList t l => Sys2Proof.Machine.execFaultList t l s
  | .faultAck t l code => Sys2Proof.Machine.execFaultAck t l code s
  | .ledgerStatus t l => Sys2Proof.Machine.execLedgerStatus t l s
  | .ledgerRead t l seq count => Sys2Proof.Machine.execLedgerRead t l seq count s
  | .ledgerAck t l seq => Sys2Proof.Machine.execLedgerAck t l seq s
  | .updateStatus t l img => Sys2Proof.Machine.execUpdateStatus t l img s
  | .updateBegin t l img slot size => Sys2Proof.Machine.execUpdateBegin t l img slot size s
  | .updateData t l off bytes fails => Sys2Proof.Machine.execUpdateData t l off bytes fails s
  | .updateVerify t l img slot => Sys2Proof.Machine.execUpdateVerify t l img slot s
  | .verificationEnd t => Sys2Proof.Machine.execVerificationEnd t s
  | .updateActivate t l img slot => Sys2Proof.Machine.execUpdateActivate t l img slot s
  | .trialTimeStore t => Sys2Proof.Machine.execTrialTimeStore t s
  | .trialTimeLimit t => Sys2Proof.Machine.execTrialTimeLimit t s
  | .updateConfirm t l img => Sys2Proof.Machine.execUpdateConfirm t l img s
  | .updateAbort t l img slot => Sys2Proof.Machine.execUpdateAbort t l img slot s
  | .selfResetPulse t => Sys2Proof.Machine.execSelfResetPulse t s
  | .bootBegin t seq size => Sys2Proof.Machine.execBootBegin t seq size s
  | .bootData t seq off bytes => Sys2Proof.Machine.execBootData t seq off bytes s
  | .bootVerify t seq => Sys2Proof.Machine.execBootVerify t seq s
  | .bootRun t seq => Sys2Proof.Machine.execBootRun t seq s
  | .resetFunction t l func => Sys2Proof.Machine.execResetFunction t l func s
  | .sysInfo t l => Sys2Proof.Machine.execSysInfo t l s
  | .sysCause t l => Sys2Proof.Machine.execSysCause t l s
  | .sysCauseClear t l mask => Sys2Proof.Machine.execSysCauseClear t l mask s
  | .sysFrst t l => Sys2Proof.Machine.execSysFrst t l s
  | .sysSupply t l => Sys2Proof.Machine.execSysSupply t l s
  | .faultTake t => Sys2Proof.Machine.execFaultTake t s
  | .faultHandlingEnd t => Sys2Proof.Machine.execFaultHandlingEnd t s
  | .eventFaultClear t code => Sys2Proof.Machine.execEventFaultClear t code s
  | .coalescedRecord t code => Sys2Proof.Machine.execCoalescedRecord t code s
  | .snapshotRead t who addr => Sys2Proof.Machine.execSnapshotRead t who addr s
  | .busErrorAccess t addr width write => Sys2Proof.Machine.execBusErrorAccess t addr width write s
  | .registerWrite t addr v => Sys2Proof.Machine.execRegisterWrite t addr v s
  | .motuDeferralTimeout t => Sys2Proof.Machine.execMotuDeferralTimeout t s
  | .motResetStartTimeout t => Sys2Proof.Machine.execMotResetStartTimeout t s
  | .vehTimeGap t => Sys2Proof.Machine.execVehTimeGap t s
  | .symbolLockLoss t lane => Sys2Proof.Machine.execSymbolLockLoss t lane s
  | .busSynchronisation t ctl => Sys2Proof.Machine.execBusSynchronisation t ctl s
  | .malformedLine t x1 bytes framing full => Sys2Proof.Machine.execMalformedLine t x1 bytes framing full s

end Sys2Proof.Machine
end

