-- ==== Sys2Proof/Safety.lean ====
section
/-! DEFINITION. The notions that statements about the block use: what a command gives, what stays as it was, the safe state of the
outputs, and when a console line is ready to be carried out. -/

namespace Sys2Proof.Machine

/-- A command gives a chip: the step goes on, the queue is as it was, and the chip is `k` with its interrupt lines latched and its outputs
gated (log 6). -/
def Gives (i : Instr) (s : State) (t : Nat) (k : Chip) : Prop :=
  exec i s = .next { s with chip := (s.chip.begin t).finish k }

/-- A command goes on to a chip with a property, and the queue is as it was. -/
def Yields (i : Instr) (s : State) (p : Chip → Prop) : Prop :=
  ∃ u, exec i s = .next u ∧ u.pending = s.pending ∧ p u.chip

/-- Every register but those at some addresses reads as before. -/
def SameRegs (but : List Nat) (c k : Chip) : Prop := ∀ a, a ∉ but → k.rd a = c.rd a

/-- Every byte of memory and of the QSPI NOR reads as before, and the fuses are as before. -/
def SameStore (c k : Chip) : Prop := (∀ a, k.rdB a = c.rdB a) ∧ k.nor = c.nor ∧ k.fuses = c.fuses

/-- What a command that concerns the registers at some addresses only leaves alone: other registers, memory, NOR, fuses, faults on their
way and in force, the work queues and the ledger. -/
def OnlyRegs (but : List Nat) (c k : Chip) : Prop :=
  SameRegs but c k ∧ SameStore c k ∧ k.flt = c.flt ∧ k.wqm = c.wqm ∧ k.ledg = c.ledg

/-- The restrictive outputs of Table 01-1: TRACT_REL static, LOCK_DRV and BRG_EN_N high, no TPO driver on. -/
def Pins.Restrictive (p : Pins) : Prop := p.tractRel = false ∧ p.lockDrv = true ∧ p.brgEnN = true ∧ p.tpoOn = 0

/-- The safe state of the pair's idle chip: one that may not drive the outputs drives the restrictive ones (R38, R342). -/
def Chip.Gated (c : Chip) : Prop := c.mayOutput = false → c.pins.Restrictive

/-- The application side runs, after the start-up sequence. -/
def Chip.serving (c : Chip) : Bool := c.sys.held.isNone && !c.sys.bootWait && c.sys.started

/-- A command line that its session takes up: the chip serves, the session is open, `k` is the chip once the line has ended, a session in
generated mode gets a tagged line, the tag is a 16-bit number, and the session holds the role. -/
def Chip.LineReady (c k : Chip) (l : Ln) (role : Nat) : Prop :=
  c.serving = true ∧ c.sessOpen l.sess = true ∧ k = c.lineTaken l.sess l.tag.isSome ∧ (k.sessGen l.sess = true → l.tag ≠ none) ∧
    l.tag.getD 0 ≤ 65535 ∧ role ≤ k.sessRole l.sess

/-- What a console session is told of its queued command: a refusal, the stored reply, or, where the entry was taken or joined one that waits,
nothing before it is accepted. -/
def Chip.offerAnswer (l : Ln) : Chip × Offered → Chip
  | (m, .refused _ e) => m.fail l e ""
  | (m, .replay w) => m.replayLine l w
  | (m, _) => m

/-- A queued command offered to the first queue of its session's source, 9 to 14, with the line's tag as its key; E505 where there is none. -/
def Chip.queueTold (k : Chip) (l : Ln) (cmd : QCmd) : Chip :=
  match k.queueOf (9 + l.sess.val) 128 with
  | some q => Chip.offerAnswer l (k.offer q (9 + l.sess.val) (l.tag.getD 0) l.pcrc.toNat (k.opMotion cmd.op) cmd (.session l.sess l.tag))
  | none => k.fail l 505 ""

end Sys2Proof.Machine
end

