-- ==== Sys2Proof/Certificates/Slice0/Obligations.lean ====
section
/-! DEFINITION. The statements for the provers: what the commands of each family do, what they leave alone, and what every step keeps. -/

open Sys2Proof Sys2Proof.Machine

/-! ### Chip-level reset and start-up (spec/03) -/

/-- POWER_ON_RESET with a rail or more low is an L0 reset: TB_LOCAL restarts, every register but those that record the reset and the voter's
mode reads its reset value, POR and the rails stand in SYS_RST_CAUSE, LAST_LEVEL reads 0, and MRAM, NOR and fuses keep their contents (R49,
R62, R64, Table 03-7); with no rail low nothing follows. RESET_N_RESET: a low level of 1 us or more on a chip that no reset holds invokes
the level read from the fuses at the last release and sets RESETN; one shorter than 100 ns does nothing; between the two the outcome is free
(R40, R62, R64). -/
def Obligations.ChipResets : Prop :=
  (∀ (s : State) (t : Nat) (rails : BitVec 9),
    (rails ≠ 0 → Yields (.powerOnReset t rails) s (fun k =>
      k.now = 0 ∧ k.sys.held = some 0 ∧ k.is SYS_RST_CAUSE_POR = true ∧ k.get SYS_RST_CAUSE_POR_RAIL = rails.toNat ∧
      k.get SYS_RST_CAUSE_LAST_LEVEL = 0 ∧ k.wqm = {} ∧ k.flt = {} ∧
      (∀ a, a ≠ SYS_RST_CAUSE_REG → a ≠ VOTE_STAT_MODE.addr → k.rd a = resetWord a) ∧
      (∀ a, within a 0x10000000 0x10400000 = true → k.rdB a = s.chip.rdB a) ∧ k.nor = s.chip.nor ∧ k.fuses = s.chip.fuses)) ∧
    (rails = 0 → Gives (.powerOnReset t rails) s t (s.chip.begin t))) ∧
  (∀ (s : State) (t width : Nat) (c : Chip), c = s.chip.begin t →
    (width < 100 → Gives (.resetNReset t width) s t c) ∧
    (1000 ≤ width → c.sys.held = none → c.sys.resetNLevel < 3 → Yields (.resetNReset t width) s (fun k =>
      k.sys.held = some c.sys.resetNLevel ∧ k.is SYS_RST_CAUSE_RESETN = true ∧
      k.get SYS_RST_CAUSE_LAST_LEVEL = c.sys.resetNLevel ∧
      (∀ a, within a 0x10000000 0x10400000 = true → k.rdB a = c.rdB a) ∧ k.nor = c.nor ∧ k.fuses = c.fuses)) ∧
    (100 ≤ width → width < 1000 → c.sys.held = none → c.sys.resetNLevel = 2 →
      Gives (.resetNReset t width) s t
        (if Config.resetPulse c.free then (c.tickFree.chipReset 2).put SYS_RST_CAUSE_RESETN true else c.tickFree)))

/-- RESET_RELEASE runs the steps of Table 03-11 in their order on a chip that a reset holds or that has not started (R64, R73): release,
straps, reference (unless the reset was L2), the scans of journal, ledger and update cells, the group's slots and the boot source; then the
boot ROM waits for a download (R389), or the island and the application side start. Once started it has no effect. The straps and the
reference before start-up, and the reset fuse (R62, R68 to R70): STRAP_SAMPLE latches the levels, or free ones where a strap changed in its
window (Config.strapSample, log 10); REFERENCE_QUALIFY sets REF_OK and SAFE_CLK_OK unless CLKMODE is 11; REFERENCE_FAULT clears both, closes
the reference until the next L0 or L1 reset and raises F0201; RSTMAP_PROGRAM programs the fuse once. -/
def Obligations.StartUpSteps : Prop :=
  (∀ (s : State) (t : Nat) (e : StartUp) (c m l1 l2 l3 : Chip) (lv : Nat), c = s.chip.begin t →
    (c.sys.held = none → (c.sys.started = true ∨ c.sys.bootWait = true) → Gives (.resetRelease t e) s t c.settle) ∧
    ((c.sys.held ≠ none ∨ (c.sys.started = false ∧ c.sys.bootWait = false)) → lv = c.sys.held.getD 0 →
      m = (if lv = 0 then { c with now := 0, tbVeh := 0 } else c).released.straps e.straps.toNat e.strapStable →
      l1 = (if lv = 2 then m.clkShow else m.refEnd e.refOk) →
      l2 = l1.journalScan.ledgerScan.updScan →
      l3 = (l2.loadGroup (lv == 2)).bootSource →
      Gives (.resetRelease t e) s t
        (if l3.sys.bootWait then
            (if l3.get SYS_BOOT_STAT_SOURCE = 2 then (l3.putBit CON_SESS_STAT_OPEN 0 true).putBit CON_SESS_STAT_GEN 0 true else l3)
          else (if l3.sys.fromNor ∧ lv ≠ 2 then l3.islandStart e.selfTest e.inputs.toNat else l3).appStart e.ddrTrains).settle)) ∧
  (∀ (s : State) (t : Nat) (c : Chip), c = s.chip.begin t →
    (∀ levels stable, c.sys.held = none → c.sys.started = false → c.sys.bootWait = false → c.sys.strapped = false →
      (stable = true → Gives (.strapSample t levels stable) s t
        (((({ c with sys := { c.sys with strapped := true } } : Chip).set SYS_STRAP_BOOT levels.toNat).set SYS_STRAP_CLKMODE
          (levels.toNat / 4)).set SYS_STRAP_SIDE (levels.toNat / 16))) ∧
      (stable = false → Gives (.strapSample t levels stable) s t
        (((({ c with sys := { c.sys with strapped := true }, free := c.free + 1 } : Chip).set SYS_STRAP_BOOT
          (Config.strapSample c.free).toNat).set SYS_STRAP_CLKMODE ((Config.strapSample c.free).toNat / 4)).set SYS_STRAP_SIDE
          ((Config.strapSample c.free).toNat / 16)))) ∧
    (c.sys.held = none → c.sys.started = false → c.sys.bootWait = false → c.sys.refClosed = false → c.get SYS_STRAP_CLKMODE ≠ 3 →
      Gives (.referenceQualify t) s t ((c.put SYS_CLK_STAT_REF_OK true).put SYS_CLK_STAT_SAFE_CLK_OK true)) ∧
    (c.live .clock = true → c.is SYS_CLK_STAT_REF_OK = true → Gives (.referenceFault t) s t
      (((({ c with sys := { c.sys with refClosed := true } } : Chip).put SYS_CLK_STAT_REF_OK false).put SYS_CLK_STAT_SAFE_CLK_OK
        false).raise 0x0201)) ∧
    (∀ level, c.live .app = true → c.fuses.rstmap = none →
      Gives (.rstmapProgram t level) s t { c with fuses := { c.fuses with rstmap := some level.val } }) ∧
    (∀ level x, c.live .app = true → c.fuses.rstmap = some x → Gives (.rstmapProgram t level) s t c))

/-! ### The supply supervisor (spec/03) -/

/-- A VSENSE sample outside a dip shows the voltage, limited to 1,250 mV, and E_avail = EFF x C x (b^2 - m^2), with b the bus voltage of the
sample, m the least bus voltage, and C the capacitance in use, rounded down and saturating (R50, R51, R55; the scale: log 61); no other
register, no memory, no queue and no fault changes. THRESH_WRITE (R56): a THRESH of 300 to 1,100 mV is taken and the filters start from it;
any other is ignored and sets CFG_ERR, which a 1 written to it clears first. -/
def Obligations.SupplyMeasurement : Prop :=
  (∀ (s : State) (t mv b m : Nat) (c : Chip), c = s.chip.begin t → c.live .aon = true → c.is SUP_STATUS_WARN = false →
    b = min mv 1250 * c.get SUP_HOLDUP_CFG0_DIV → m = c.get SUP_HOLDUP_CFG1_V_MIN * 1000 →
    Yields (.holdupEnergyUpdate t mv) s (fun k =>
      k.get SUP_STATUS_VSENSE_MV = min mv 1250 ∧
      k.get SUP_HOLDUP_E_E_AVAIL_UJ = min (if b ≤ m then 0 else c.get SUP_HOLDUP_CFG1_EFF *
        (if c.sup.capLow then c.get SUP_CAPCHK_C_MEAS else c.get SUP_HOLDUP_CFG0_C_HOLD) * (b * b - m * m) / 200000000000) (2 ^ 24 - 1) ∧
      OnlyRegs [SUP_STATUS_VSENSE_MV.addr, SUP_HOLDUP_E_E_AVAIL_UJ.addr] c k)) ∧
  (∀ (s : State) (t : Nat) (v : Word) (c : Chip), c = s.chip.begin t → c.live .aon = true →
    (300 ≤ bitsOf v.toNat 0 11 → bitsOf v.toNat 0 11 ≤ 1100 → bitAt v.toNat 16 = false →
      Gives (.threshWrite t v) s t (c.set SUP_VSENSE_CFG_THRESH_MV (bitsOf v.toNat 0 11)).warnFilters) ∧
    (300 ≤ bitsOf v.toNat 0 11 → bitsOf v.toNat 0 11 ≤ 1100 → bitAt v.toNat 16 = true →
      Gives (.threshWrite t v) s t
        ((c.put SUP_VSENSE_CFG_CFG_ERR false).set SUP_VSENSE_CFG_THRESH_MV (bitsOf v.toNat 0 11)).warnFilters) ∧
    (bitsOf v.toNat 0 11 < 300 ∨ 1100 < bitsOf v.toNat 0 11 → Yields (.threshWrite t v) s (fun k =>
      k.is SUP_VSENSE_CFG_CFG_ERR = true ∧ k.get SUP_VSENSE_CFG_THRESH_MV = c.get SUP_VSENSE_CFG_THRESH_MV ∧
      OnlyRegs [SUP_VSENSE_CFG_CFG_ERR.addr] c k)))

/-- The supply warning (R55 to R59): it asserts 20 us after VSENSE fell below THRESH, with the sample as the dip's start and least value; it
clears 5 ms after VSENSE rose above THRESH + 20 mV, with the dip counted and recorded and, where no store waits, the queues' executors going
on; 200 ms of warning set SUPPLY_HOLD and raise F0102, which on a chip whose application side does not run is all. SUPPLY_HOLD on a running
chip whose axes stand: HOLD is set, F0102 raised, and an automatic handover tried (R59). -/
def Obligations.SupplyWarning : Prop :=
  (∀ (s : State) (t a : Nat) (c : Chip), c = s.chip.begin t → c.live .aon = true →
    (c.sup.belowSince = some a → c.is SUP_STATUS_WARN = false → 20000 ≤ c.now - a → Gives (.supplyWarningAssert t) s t
      (({ c with sup := { c.sup with
                            warnSince := c.now
                            dipStart := c.get SUP_STATUS_VSENSE_MV
                            dipMin := c.get SUP_STATUS_VSENSE_MV
                            dipMinAt := c.now
                            dipMinE := c.get SUP_HOLDUP_E_E_AVAIL_UJ } } : Chip).put SUP_STATUS_WARN true)) ∧
    (c.sup.belowSince = some a → c.now - a < 20000 → Gives (.supplyWarningAssert t) s t c) ∧
    (c.is SUP_STATUS_WARN = true → c.sup.aboveSince = some a → 5000000 ≤ c.now - a → c.dipEnd.live .app = false →
      Gives (.supplyWarningClear t) s t c.dipEnd.settle) ∧
    (c.is SUP_STATUS_WARN = true → c.sup.aboveSince = some a → 5000000 ≤ c.now - a → c.dipEnd.live .app = true →
      Gives (.supplyWarningClear t) s t c.dipEnd.startAll.settle) ∧
    (c.is SUP_STATUS_WARN = true → c.is SUP_STATUS_HOLD = false → 200000000 ≤ c.now - c.sup.warnSince → c.sys.held = some 1 →
      Gives (.supplyHold t) s t (((c.put SUP_STATUS_HOLD true).raise 0x0102).settle)) ∧
    (c.is SUP_STATUS_WARN = true → c.now - c.sup.warnSince < 200000000 → Gives (.supplyHold t) s t c.settle)) ∧
  (∀ (s : State) (t : Nat) (c : Chip), c = s.chip.begin t → c.live .app = true → c.is SUP_STATUS_WARN = true →
    c.is SUP_STATUS_HOLD = false → 200000000 ≤ c.now - c.sup.warnSince → (∀ n < 4, (c.ax n).v = 0) →
    Gives (.supplyHold t) s t ((((c.put SUP_STATUS_HOLD true).raise 0x0102).autoHandover).settle))

/-! ### Per-function resets (spec/03 R65 to R67, spec/01 R25, spec/21 R483) -/

/-- A per-function reset of a function that may start at once begins; one in progress is asked for in vain; FBK's begins only at standstill
with DOOR in ISOLATED or FAULT_HELD; MOT's is deferred until its conditions hold (R65, R67, R25). The end of a per-function reset (R65): on
the function's acknowledgement, or when SYS_FRST_TMO has run, with F0210 raised and the timeout counted, the function is reset, released and
loaded; both only where the loader's boot-pointer store may start (R467). A MOTU reset deferred for 60 s is given up and its command
answered E605 (R25); a MOT fault of S3 that has waited 2 s for standstill takes the S4 action (R483). -/
def Obligations.FunctionResets : Prop :=
  (∀ (s : State) (t : Nat) (f : Fin 16) (c : Chip) (r : FnReset), c = s.chip.begin t → c.live .app = true →
    r = { func := f.val, since := c.now, slot := none, byFault := false, acked := false } →
    (2 ≤ f.val → f.val < 10 → c.fnBusy f.val = false →
      Gives (.functionResetRequest t f) s t ((c.fnBegin r).visionCheck.settle)) ∧
    (f.val < 10 → c.fnBusy f.val = true → Gives (.functionResetRequest t f) s t c.visionCheck.settle) ∧
    (f.val = 0 → c.fnBusy 0 = false → c.fbkMayReset = true → Gives (.functionResetRequest t f) s t ((c.fnBegin r).visionCheck.settle)) ∧
    (f.val = 0 → c.fbkMayReset = false → Gives (.functionResetRequest t f) s t c.visionCheck.settle) ∧
    (f.val = 1 → c.fnBusy 1 = false → c.sys.motuDeferred = none → Gives (.functionResetRequest t f) s t
      ((({ c with sys := { c.sys with motuDeferred := some (r, false) } } : Chip).motuTry).visionCheck.settle))) ∧
  (∀ (s : State) (t : Nat) (f : Fin 10) (c k : Chip) (r : FnReset), c = s.chip.begin t → c.live .app = true → c.fnWaiting f.val = some r →
    (k = c.put (SYS_FRST_LOG_LAST_TMO r.func) false → k.gateOpen .pointer = true →
      Gives (.idleAcknowledge t f) s t (k.fnRelease r).settle) ∧
    (c.get (SYS_FRST_TMO_TMO f.val) * 100000 ≤ c.now - r.since →
      k = ((c.put (SYS_FRST_LOG_LAST_TMO r.func) true).incSat (SYS_FRST_LOG_TMO_COUNT r.func)).raiseArg 0x0210 0 r.func →
      k.gateOpen .pointer = true → Gives (.functionResetTimeout t f) s t (k.fnRelease r).settle) ∧
    (c.now - r.since < c.get (SYS_FRST_TMO_TMO f.val) * 100000 → Gives (.functionResetTimeout t f) s t c.settle)) ∧
  (∀ (s : State) (t : Nat) (c : Chip), c = s.chip.begin t → c.live .app = true →
    (∀ r, c.sys.motuDeferred = some (r, false) → 60000000000 ≤ c.now - r.since → Gives (.motuDeferralTimeout t) s t
      ((({ c with sys := { c.sys with motuDeferred := none } } : Chip).fnAnswer r.slot 605 "").settle)) ∧
    (∀ r b, c.sys.motuDeferred = some (r, b) → c.now - r.since < 60000000000 → Gives (.motuDeferralTimeout t) s t c.settle) ∧
    (∀ code a, c.flt.motWait = [(code, a)] → 2000000000 ≤ c.now - a → Gives (.motResetStartTimeout t) s t
      (({ c with flt := { c.flt with motWait := [] } } : Chip).toSafe code)) ∧
    (∀ code a, c.flt.motWait = [(code, a)] → c.now - a < 2000000000 → Gives (.motResetStartTimeout t) s t c))

/-! ### Feedback (spec/04) -/

/-- A raw transition (R78): the raw levels are taken; on a quadrature channel with a good cable, one that comes before the minimum edge
separation is rejected and counted, and one that comes later and differs from the accepted state by one step moves COUNT by one in the
direction of the step, with FBK_CHn_CFG.DIR_INV turning it round, and the edge is processed at once; the edge deferred while the filter ran
is accepted in the same way, without a speed measurement. PWC and SSI inputs (R100 to R102): a PWC pulse outside 100 to 1,249 ns or too soon
is rejected; a good one counts one step, up under 350 ns and from 650 to under 950 ns, at its leading edge less RX_DELAY, and one of 650 ns
or more carries an index; an SSI frame whose monoflop level is wrong is rejected. -/
def Obligations.PositionInputs : Prop :=
  (∀ (s : State) (t : Nat) (n : Fin 6) (c k : Chip), c = s.chip.begin t → c.live .island = true →
    (∀ a b, k = c.setFb n (fun x => { x with raw := cond a 1 0 + 2 * cond b 1 0 }) →
      ((c.fb n).raw = cond a 1 0 + 2 * cond b 1 0 → Gives (.rawTransition t n a b) s t k) ∧
      ((c.fb n).raw ≠ cond a 1 0 + 2 * cond b 1 0 → k.quadOn n = true → k.frozen n = false → k.tooSoon n (k.fb n).lastEdge = true →
        Gives (.rawTransition t n a b) s t (k.rejected n)) ∧
      (∀ d, (c.fb n).raw ≠ cond a 1 0 + 2 * cond b 1 0 → k.quadOn n = true → k.frozen n = false →
        k.tooSoon n (k.fb n).lastEdge = false → (k.fb n).raw ≠ (k.fb n).acc → quadDir (k.fb n).acc (k.fb n).raw = some d →
        Gives (.rawTransition t n a b) s t
          ((k.setFb n (fun y => { y with acc := y.raw })).countEdge n (d != k.is (FBK_CH_CFG_DIR_INV n)) false k.now))) ∧
    (∀ d, c.quadOn n = true → c.frozen n = false → c.tooSoon n (c.fb n).lastEdge = false → (c.fb n).raw ≠ (c.fb n).acc →
      quadDir (c.fb n).acc (c.fb n).raw = some d →
      Gives (.deferredEdgeAccept t n) s t
        ((c.setFb n (fun y => { y with acc := y.raw })).countEdge n (d != c.is (FBK_CH_CFG_DIR_INV n)) true c.now))) ∧
  (∀ (s : State) (t : Nat) (n : Fin 6) (c : Chip), c = s.chip.begin t → c.live .island = true → c.is (FBK_CH_CFG_ENABLE n) = true →
    c.frozen n = false →
    (∀ width, c.get (FBK_CH_CFG_MODE n) = 1 → (width < 100 ∨ 1249 < width ∨ c.tooSoon n (c.fb n).lastPulse = true) →
      Gives (.pwcPulse t n width) s t (c.rejected n)) ∧
    (∀ width k, c.get (FBK_CH_CFG_MODE n) = 1 → 100 ≤ width → width ≤ 1249 → c.tooSoon n (c.fb n).lastPulse = false →
      k = (c.setFb n (fun x => { x with lastPulse := some c.now })).countEdge n
        ((decide (width < 350) || (decide (650 ≤ width) && decide (width < 950))) != c.is (FBK_CH_CFG_DIR_INV n)) false
        (c.now - c.get (FBK_CH_PT_RX_RX_DELAY n)) →
      Gives (.pwcPulse t n width) s t (if 650 ≤ width then k.index n else k)) ∧
    (∀ bits, c.get (FBK_CH_CFG_MODE n) = 2 → Gives (.ssiFrame t n bits false) s t (c.ssiReject n)))

/-- A cable fault of an input in use of an enabled channel sets its bit and its sticky bit, takes the position's validity and the wheel's
qualification, and raises F0501 with channel and input as its detail (R75, R76); at its end the bit clears, and inputs A and B start from
their raw levels. The index commands (R80, R81, R83): ARMED set and cleared, and nothing else; a Z edge on an enabled quadrature channel
whose Z input is in use is taken once the minimum separation has passed and the accepted state is in Z_GATE, and counted as rejected before
that; a change of a Hall input sets its level, LAST_SRC and LATCH_COUNT. -/
def Obligations.CableIndexHall : Prop :=
  (∀ (s : State) (t : Nat) (n : Fin 6) (i : Fin 3) (c : Chip), c = s.chip.begin t → c.live .island = true →
    (c.is (FBK_CH_CFG_ENABLE n) = true → c.inputUsed n i = true → c.bit (FBK_CH_STAT_CABLE n) i = false →
      Gives (.cableFaultBegin t n i) s t
        ((((c.putBit (FBK_CH_STAT_CABLE n) i true).putBit (FBK_CH_FAULT_CABLE_S n) i true).posLost n).wheelFault n true |>.raiseArg
          0x0501 0 (n + 256 * i))) ∧
    (c.is (FBK_CH_CFG_ENABLE n) = false → Gives (.cableFaultBegin t n i) s t c) ∧
    (∀ k, c.bit (FBK_CH_STAT_CABLE n) i = true → n.val < 4 →
      k = (if i.val < 2 then (c.putBit (FBK_CH_STAT_CABLE n) i false).setFb n (fun x => { x with acc := x.raw, run := [] })
           else c.putBit (FBK_CH_STAT_CABLE n) i false) →
      Gives (.cableFaultEnd t n i) s t
        (if [0, 1, 2, 3, 4, 5].all (fun m => k.get (FBK_CH_STAT_CABLE m) == 0) then k.endCondition 0x0501 else k))) ∧
  (∀ (s : State) (t : Nat) (n : Fin 6) (c : Chip), c = s.chip.begin t → c.live .island = true →
    Gives (.indexArm t n) s t (c.put (FBK_CH_STAT_ARMED n) true) ∧
    Gives (.indexDisarm t n) s t (c.put (FBK_CH_STAT_ARMED n) false) ∧
    (c.is (FBK_CH_CFG_ENABLE n) = true → n.val < 4 → c.is (FBK_CH_CFG_REF_SRC n) = true → Gives (.indexPulse t n true) s t (c.index n)) ∧
    (c.is (FBK_CH_CFG_ENABLE n) = true → c.get (FBK_CH_CFG_MODE n) = 0 → c.inputUsed n 2 = true → c.bit (FBK_CH_STAT_CABLE n) 2 = false →
      c.tooSoon n (c.fb n).lastZ = true → Gives (.indexPulse t n false) s t (c.incSat (FBK_CH_ECNT_EDGE_REJ n))) ∧
    (∀ k, c.is (FBK_CH_CFG_ENABLE n) = true → c.get (FBK_CH_CFG_MODE n) = 0 → c.inputUsed n 2 = true → c.bit (FBK_CH_STAT_CABLE n) 2 = false →
      c.tooSoon n (c.fb n).lastZ = false → k = c.setFb n (fun x => { x with lastZ := some c.now }) →
      k.get (FBK_CH_CFG_Z_GATE n) = 0 → Gives (.indexPulse t n false) s t (k.index n)) ∧
    (∀ (h : Fin 4) (w : Fin 3) magnet, Gives (.hallChange t h w magnet) s t
      ((((c.putBit (FBK_CH_HALL_LEVEL h) w magnet).set (FBK_CH_HALL_LAST_SRC h) w).setI (FBK_CH_HALL_LATCH_COUNT h)
        (c.getI (FBK_CH_COUNT_COUNT h))).setFb h (fun x => { x with hallRaw := setBit x.hallRaw w magnet }))))

/-- ARMED is all that INDEX_ARM and INDEX_DISARM change among registers, memory, faults, queues and ledger, and its value is the one
commanded (R82). -/
def Obligations.IndexArmFrame : Prop :=
  ∀ (s : State) (t : Nat) (n : Fin 6) (c : Chip), c = s.chip.begin t → c.live .island = true →
    Yields (.indexArm t n) s (fun k => k.is (FBK_CH_STAT_ARMED n) = true ∧ OnlyRegs [(FBK_CH_STAT_ARMED n).addr] c k ∧
      ∀ g : Fld, g.addr = (FBK_CH_STAT_ARMED n).addr →
        g.lo + g.w ≤ (FBK_CH_STAT_ARMED n).lo ∨ (FBK_CH_STAT_ARMED n).lo + (FBK_CH_STAT_ARMED n).w ≤ g.lo → k.get g = c.get g) ∧
    Yields (.indexDisarm t n) s (fun k => k.is (FBK_CH_STAT_ARMED n) = false ∧ OnlyRegs [(FBK_CH_STAT_ARMED n).addr] c k ∧
      ∀ g : Fld, g.addr = (FBK_CH_STAT_ARMED n).addr →
        g.lo + g.w ≤ (FBK_CH_STAT_ARMED n).lo ∨ (FBK_CH_STAT_ARMED n).lo + (FBK_CH_STAT_ARMED n).w ≤ g.lo → k.get g = c.get g)

/-- COUNT_WRITE on an enabled channel that moves sets WR_ERR and nothing else; the observer of an enabled channel at rest restarts from the
count, and one that moves takes one step of R86, before speed and position are shown; STANDSTILL sets STANDSTILL, clears FIRST and REVERSAL
and shows a speed of 0 once T_ZERO has passed since the last edge (R85 to R88, R92). The wheel-speed function (R94 to R98): a wheel channel
qualifies after 1 s without a fault; a slide that lasts SLIDE_T sets DISAGREE, and DISAGREE that lasts 10 s raises F0510; both wheels still
and qualified for HOLD_MS set VSTILL; a blend that has run its cycles ends with its REFCHANGE record. -/
def Obligations.CountAndWheel : Prop :=
  (∀ (s : State) (t : Nat) (n : Fin 6) (c : Chip), c = s.chip.begin t → c.live .island = true →
    (∀ v, c.is (FBK_CH_CFG_ENABLE n) = true → c.is (FBK_CH_STAT_STANDSTILL n) = false →
      Gives (.countWrite t n v) s t (c.put (FBK_CH_STAT_WR_ERR n) true)) ∧
    (∀ v k, c.is (FBK_CH_STAT_STANDSTILL n) = true → 4 ≤ n.val →
      k = ((((c.set (FBK_CH_COUNT_COUNT n) v.toNat).fbkLatch n c.now).fbkRest n).setFb n (fun x => { x with run := [] })) →
      Gives (.countWrite t n v) s t ((k.put (FBK_CH_STAT_POS_VALID n) (decide (k.get (FBK_CH_STAT_CABLE n) = 0))).fbkPos n)) ∧
    (c.is (FBK_CH_CFG_ENABLE n) = true → c.fbkHeld n = true →
      Gives (.observerUpdate t n) s t (((((c.fbkRest n).speedSource n).fbkSpeed n).fbkPos n).fbkAfter n)) ∧
    (∀ p v e, c.is (FBK_CH_CFG_ENABLE n) = true → c.fbkHeld n = false → e = c.count16 n - (c.fb n).pHat →
      p = (c.fb n).pHat + divNear (c.fb n).vHat 100000 + divNear (c.get (FBK_CH_OBS_G1_G n) * e) (2 ^ 32) →
      v = (c.fb n).vHat + divNear (c.get (FBK_CH_OBS_G2_G n) * e * 100000) (2 ^ 32) →
      Gives (.observerUpdate t n) s t
        (((((c.setFb n (fun z => { z with pHat := p, vHat := v })).speedSource n).fbkSpeed n).fbkPos n).fbkAfter n)) ∧
    (c.is (FBK_CH_CFG_ENABLE n) = false → Gives (.observerUpdate t n) s t c) ∧
    (∀ e k, c.is (FBK_CH_CFG_ENABLE n) = true → c.is (FBK_CH_STAT_STANDSTILL n) = false → (c.fb n).lastEdge = some e →
      c.get (FBK_CH_SPD_T_ZERO n) * 1000000 ≤ c.now - e →
      k = ((c.put (FBK_CH_STAT_STANDSTILL n) true).put (FBK_CH_STAT_FIRST n) false).put (FBK_CH_STAT_REVERSAL n) false →
      Gives (.standstill t n) s t
        (((((k.fbkRest n).setFb n (fun x => { x with run := [], vPer := 0 })).fbkSpeed n).fbkPos n).fbkAfter n)) ∧
    (∀ e, (c.fb n).lastEdge = some e → c.now - e < c.get (FBK_CH_SPD_T_ZERO n) * 1000000 → Gives (.standstill t n) s t c)) ∧
  (∀ (s : State) (t e : Nat) (c : Chip), c = s.chip.begin t → c.live .island = true →
    (∀ w : Fin 2, (c.fb (4 + w)).okSince = some e → c.wheelOn = true → c.is (FBK_CH_CFG_ENABLE (4 + w)) = true →
      (1000000000 ≤ c.now - e → Gives (.wheelQualified t w) s t (c.putBit FBK_WHL_STAT_QUAL w true)) ∧
      (c.now - e < 1000000000 → Gives (.wheelQualified t w) s t c)) ∧
    (c.wheel.slideSince = some e → c.is FBK_WHL_STAT_DISAGREE = false →
      (c.get FBK_WHL_CFG1_SLIDE_T * 1000000 ≤ c.now - e → Gives (.wheelDisagree t) s t
        ((({ c with wheel := { c.wheel with disagreeAt := c.now } } : Chip).put FBK_WHL_STAT_DISAGREE true).put FBK_WHL_STAT_VSTILL false)) ∧
      (c.now - e < c.get FBK_WHL_CFG1_SLIDE_T * 1000000 → Gives (.wheelDisagree t) s t c)) ∧
    (c.is FBK_WHL_STAT_DISAGREE = true → 10000000000 ≤ c.now - c.wheel.disagreeAt → Gives (.disagreeFault t) s t (c.raise 0x0510)) ∧
    (c.vstillOk = true → c.get FBK_WHL_CFG1_HOLD_MS * 1000000 ≤ c.now - c.wheel.clearSince →
      Gives (.votedStandstill t) s t (c.put FBK_WHL_STAT_VSTILL true)) ∧
    (c.vstillOk = false → Gives (.votedStandstill t) s t c) ∧
    (∀ k, c.is FBK_WHL_STAT_BLEND = true → c.blendLen ≤ c.wheel.blendCyc →
      k = (c.put FBK_WHL_STAT_BLEND false).record 7 [(20, leBytes 1 1), (21, leBytes 1 c.wheel.fromSrc), (22, leBytes 1 c.wheel.viaSrc),
        (23, leBytes 1 (c.get FBK_WHL_STAT_SRC)), (24, leBytes 1 (cond c.wheel.aborted 1 0)), (28, leBytes 8 (c.now - c.wheel.changeAt)),
        (36, leBytes 8 (unsignedOf 64 c.wheel.changeDv)), (44, leBytes 8 c.tbVeh)] →
      Gives (.blendComplete t) s t
        { k with wheel := { k.wheel with aborted := false, viaSrc := 0xFF, oldW := unitW (k.get FBK_WHL_STAT_SRC) } }))

/-! ### Position domains (spec/05) -/

/-- Arming and disarming a slot (R111, R112, R118): an armed slot stays as it is; a slot whose settings are refused sets REFUSED; one whose
domain is not valid is armed and waits, with F0604 raised, and one whose domain is valid is armed and goes through the late check; disarming
clears ARMED and forgets the target and the wait. Slots that fire by extrapolation or at a vehicle time (R108, R109, R113): an armed slot of
a valid domain fires at the predicted tick once it has come; one of TB_VEH fires when TB_VEH reaches its target; before that neither does
anything. A pin pulse that has run gives its GPIO back its base level. -/
def Obligations.DomainSlots : Prop :=
  (∀ (s : State) (t : Nat) (n : Fin 64) (c k : Chip), c = s.chip.begin t → c.live .app = true →
    (c.armed n = true → Gives (.slotArm t n) s t c) ∧
    (∀ e, c.armed n = false → c.armRefusal n = some e → Gives (.slotArm t n) s t (c.put (DOM_SLOT_STAT_REFUSED n) true)) ∧
    (c.armed n = false → c.armRefusal n = none →
      k = ((((c.put (DOM_SLOT_STAT_ARMED n) true).put (DOM_SLOT_STAT_FIRED n) false).put (DOM_SLOT_STAT_LATE n) false).put
        (DOM_SLOT_STAT_REFUSED n) false).set (DOM_SLOT_STAT_MISSED n) 0 →
      ∀ m, m = ((k.set (DOM_SLOT_STAT_POL n) (k.slotPolicy n)).set64 (DOM_PRED_LO_TICK n) (DOM_PRED_HI_TICK n) 0) →
      ∀ w, w = m.setTarget n (m.slotProgrammed n) →
      (w.domValid (w.slotDom n) = false → Gives (.slotArm t n) s t
        (({ w with dom := { w.dom with waiting := w.dom.waiting ++ [n.val] } } : Chip).raiseArg 0x0604 0 (w.slotDom n))) ∧
      (w.domValid (w.slotDom n) = true → Gives (.slotArm t n) s t
        ((w.lateRule n true).1.showPred ((w.lateRule n true).1.slotDom n)))) ∧
    (k = c.put (DOM_SLOT_STAT_ARMED n) false → Gives (.slotDisarm t n) s t
      (({ k with dom := { k.dom with waiting := k.dom.waiting.filter (· != n.val), target := eraseD k.dom.target n } } : Chip).checkWaiting))) ∧
  (∀ (s : State) (t : Nat) (n : Fin 64) (c : Chip), c = s.chip.begin t → c.live .app = true →
    (∀ tick x, c.armed n = true → c.dom.waiting.contains n.val = false → c.slotDom n ≤ 4 → c.domValid (c.slotDom n) = true →
      c.predict n = some (tick, x, true) →
      (tick ≤ c.now → Gives (.extrapolatedFire t n) s t (c.fire n tick)) ∧ (c.now < tick → Gives (.extrapolatedFire t n) s t c)) ∧
    (c.armed n = true → c.slotDom n = 7 → c.slotTarget n ≤ (c.tbVeh : Int) → Gives (.vehicleTimeFire t n) s t (c.fire n c.now)) ∧
    (c.armed n = false → Gives (.vehicleTimeFire t n) s t c ∧ Gives (.extrapolatedFire t n) s t c) ∧
    (∀ (g : Fin 8) base e, c.pins.pulses = [(g.val, base, e)] →
      (e ≤ c.now → Gives (.pinPulseEnd t g) s t (({ c with pins := { c.pins with pulses := [] } } : Chip).gpioSet g base)) ∧
      (c.now < e → Gives (.pinPulseEnd t g) s t c)))

/-- D4 takes a written value and its slots are checked again (R106, R111); a pop of the latch FIFO drops its head and shows the next entry,
and of an empty one shows zeros (R116). The boundary of a control cycle on a started chip: the mirror frame, feedback, domains and motion
checks, then the steering read-back, the voter's clocks, the vision check, the island's cycle, DOOR's cycle and the rest, in this order (log
55), with line 0 pending; on a chip held in an L2 reset the island alone has its cycle (R13, R63). -/
def Obligations.DomainsAndCycle : Prop :=
  (∀ (s : State) (t : Nat) (c : Chip), c = s.chip.begin t → c.live .app = true →
    (∀ v : Word, Gives (.d4Set t v) s t (((c.domSet 4 v.toNat)).domRecheck 4)) ∧
    (∀ h e l, c.dom.lf = h :: e :: l → Yields (.latchFifoPop t) s (fun k => k.dom.lf = e :: l ∧
      k.get DOM_LF_STAT_LEVEL = (l.length + 1) % 2 ^ DOM_LF_STAT_LEVEL.w ∧ k.get DOM_LF_SLOT_SLOT = e.slot % 2 ^ DOM_LF_SLOT_SLOT.w ∧
      k.get DOM_LF_SLOT_DOMAIN = e.dom % 2 ^ DOM_LF_SLOT_DOMAIN.w ∧ k.get DOM_LF_TS_LO_TICK = e.ts % 2 ^ 32 ∧
      k.get DOM_LF_TS_HI_TICK = e.ts / 2 ^ 32 % 2 ^ 32 ∧ SameStore c k ∧ k.flt = c.flt)) ∧
    (c.dom.lf = [] → Yields (.latchFifoPop t) s (fun k => k.dom.lf = [] ∧ k.get DOM_LF_STAT_LEVEL = 0 ∧ k.get DOM_LF_SLOT_SLOT = 0 ∧
      k.get DOM_LF_TS_LO_TICK = 0 ∧ k.get DOM_LF_VAL_LO_VALUE = 0 ∧ SameStore c k))) ∧
  (∀ (s : State) (t : Nat) (b : Boundary) (c c1 c2 c3 c4 : Chip), c = s.chip.begin t →
    (c.live .app = true → c.sys.started = true → c1 = (c.cycleSense.steering b.steerFb) → c2 = c1.voteClocks.visionCheck →
      c3 = (c2.cycleIsland b) → c4 = c3.cycleDoor.cycleRest b →
      Gives (.controlCycleBoundary t b) s t { c4 with irq := setBit c4.irq 0 true }) ∧
    (c.sys.held = some 2 → Gives (.controlCycleBoundary t b) s t
      (({ c with pins := { c.pins with steerFb := b.steerFb } } : Chip).cycleIsland b)) ∧
    (c.sys.held = some 1 → exec (.controlCycleBoundary t b) s = .next { s with chip := c }))

/-! ### The control cycle (spec/01 R13) -/

/-! ### Motion (spec/06) -/

/-- A motion set applied (R126, R127, R131): refused, it sets REFUSED; accepted on an axis that has its reference and is not halted, it
clears REFUSED, takes the target, absolute or from the present position, in whole microsteps, and a copy of the profile. The stops (R132 to
R136): a soft stop is refused in EMERG, does nothing in HALTED, and gives a resting axis its own position as target; an emergency stop of a
moving axis enters EMERG with the first trip's source, and of a halted one does nothing; a hard stop of a moving axis takes its speed at
once, halts it, marks a possible step loss and raises F0701, and of a resting axis that reverses cancels the leaving. Reference, trips, the
rest before a reversal and the hold scale (R131, R137, R140, R203): the reference is taken on a resting axis that may take it and refused
otherwise; a trip whose source is enabled stops the axis in EMERG and one that is not does nothing; after T_REV of rest a reversing axis
leaves for its target, or stands when it is there; HOLD_DLY after the stop the phase scale falls. PROFILE_TICK moves each axis by one step
of its profile and shows its domain, axis 0 first; between a claim and the first output cycle no axis moves (R125, R342). -/
def Obligations.MotionCommands : Prop :=
  (∀ (s : State) (t : Nat) (n : Fin 4) (m : Fin 64) (c k : Chip), c = s.chip.begin t → c.live .app = true →
    (∀ e, c.applyRefusal n m .door = some e → e ≠ 316 → Gives (.motStart t n m) s t (c.put (MOT_AX_STAT_REFUSED n) true)) ∧
    (c.applyRefusal n m .door = none → k = c.put (MOT_AX_STAT_REFUSED n) false → k.get (MOT_AX_STAT_SEG n) ≠ 10 →
      k.is (MOT_AX_STAT_STEPLOSS_POSSIBLE n) = false → Gives (.motStart t n m) s t
        ((k.setI (MOT_AX_TGT_VALUE n) (k.roundTarget n (umToXpos
          (k.getI (MOT_MS_TGT_TGT m) + (if k.is (MOT_MS_CFG_REL m) then k.getI (MOT_AX_POS_UM_VALUE n) else 0))
          (k.get (MOT_AX_LEAD_LEAD_NM n))))).setAx n (fun a => { a with prof := k.profile (k.get (MOT_MS_CFG_PROFILE m)) })))) ∧
  (∀ (s : State) (t : Nat) (n : Fin 4) (c k : Chip), c = s.chip.begin t → c.live .app = true →
    (c.get (MOT_AX_STAT_SEG n) = 9 → Gives (.motStop t n) s t (c.put (MOT_AX_STAT_REFUSED n) true)) ∧
    (c.get (MOT_AX_STAT_SEG n) = 10 → Gives (.motStop t n) s t c ∧ Gives (.motEmerg t n) s t c) ∧
    (c.get (MOT_AX_STAT_SEG n) = 0 → (c.ax n).v = 0 → Gives (.motStop t n) s t (c.setI (MOT_AX_TGT_VALUE n) (c.xpos n))) ∧
    (c.get (MOT_AX_STAT_SEG n) ≠ 10 → (c.ax n).v ≠ 0 →
      k = c.setAx n (fun a => { a with tripSrc := (firstTrip a.tripSrc a.tripAt none c.now).1
                                       tripAt := (firstTrip a.tripSrc a.tripAt none c.now).2 }) → (k.ax n).v ≠ 0 →
      Gives (.motEmerg t n) s t ((k.set (MOT_AX_STAT_SEG n) 9).showSpeed n)) ∧
    ((c.ax n).v ≠ 0 → Gives (.motHalt t n) s t
      ((((c.standIn n 10).put (MOT_AX_STAT_STEPLOSS_POSSIBLE n) true).put (MOT_AX_FAULT_HARD n) true).raiseArg 0x0701 0 n)) ∧
    ((c.ax n).v = 0 → c.get (MOT_AX_STAT_SEG n) ≠ 8 → Gives (.motHalt t n) s t c)) ∧
  (∀ (s : State) (t : Nat) (n src : Fin 4) (c : Chip), c = s.chip.begin t → c.live .app = true →
    (c.canReref n = true → (c.ax n).v = 0 → Gives (.motReref t n) s t (c.reref n)) ∧
    (c.canReref n = false → Gives (.motReref t n) s t (c.noRef n)) ∧
    (c.bit (MOT_AX_TRIP_EN n) src = true → Gives (.tripInput t n src) s t (c.emergency n (some src.val))) ∧
    (c.bit (MOT_AX_TRIP_EN n) src = false → Gives (.tripInput t n src) s t c) ∧
    (∀ a, c.get (MOT_AX_STAT_SEG n) = 8 → (c.ax n).v = 0 → (c.ax n).stopAt = some a →
      c.get (MOT_AX_CFG_T_REV n) * 1000000 ≤ c.now - a →
      (c.getI (MOT_AX_TGT_VALUE n) ≠ c.xpos n → Gives (.revHoldEnd t n) s t (c.leave n)) ∧
      (c.getI (MOT_AX_TGT_VALUE n) = c.xpos n → Gives (.revHoldEnd t n) s t (c.standIn n 0))) ∧
    (∀ a, c.get (MOT_AX_STAT_SEG n) = 0 → (c.ax n).v = 0 → (c.ax n).stopAt = some a →
      (c.get (MOT_AX_SCALE_HOLD_DLY n) * 1000000 ≤ c.now - a → Gives (.holdScale t n) s t
        ((c.setAx n (fun x => { x with holding := true })).showPhases n)) ∧
      (c.now - a < c.get (MOT_AX_SCALE_HOLD_DLY n) * 1000000 → Gives (.holdScale t n) s t c))) ∧
  (∀ (s : State) (t : Nat) (c c0 c1 c2 c3 : Chip), c = s.chip.begin t → c.live .app = true →
    (c.pair.claimAt = none → c0 = (c.tickAxis 0).domMot 0 → c1 = (c0.tickAxis 1).domMot 1 → c2 = (c1.tickAxis 2).domMot 2 →
      c3 = (c2.tickAxis 3).domMot 3 → Gives (.profileTick t) s t c3) ∧
    (∀ a, c.pair.claimAt = some a → Gives (.profileTick t) s t c))

/-! ### Coil current (spec/07) and the faults of an axis -/

/-- The faults of an axis and its bridges: a stall (R142) halts the axis without F0701, sets STALL and STEPLOSS_POSSIBLE and raises F0702; an
overcurrent latches the bridges off with F0801, and eight cycles of an open phase with F0802 (R159); 20 cycles of sag raise F0804; a failed ADC
check raises F0803 once; lost bridges under drive open the gates and halt the axis with F0701 (R160). -/
def Obligations.AxisFaults : Prop :=
  ∀ (s : State) (t : Nat) (n : Fin 4) (p : Fin 2) (c : Chip), c = s.chip.begin t → c.live .app = true →
    (c.get (MOT_AX_STALL_STALL_CYC n) ≤ (c.ax n).stallCnt → c.is (CUR_AX_STAT_DRIVING n) = true →
      c.is (MOT_AX_STAT_STEPLOSS_POSSIBLE n) = false → Gives (.stall t n) s t
        ((((((c.hardStop n false).put (MOT_AX_STAT_STALL n) true).put (MOT_AX_STAT_STEPLOSS_POSSIBLE n) true).setAx n
          (fun a => { a with stallCnt := 0, stallRep := true })).put (MOT_AX_FAULT_STALL_S n) true).raiseArg 0x0702 0 n)) ∧
    (c.is (CUR_AX_STAT_DRIVING n) = false → Gives (.stall t n) s t c ∧ Gives (.bridgeEnableLoss t n) s t c) ∧
    (c.is (CUR_AX_STAT_DRIVING n) = true → c.mayDrive n = false →
      Gives (.bridgeEnableLoss t n) s t ((c.gatesOff n).hardStop n true)) ∧
    Gives (.overcurrent t n p) s t (c.latchOff n (CUR_AX_FAULT_OCP_S n) 0x0801) ∧
    (8 ≤ ((c.cu n).ph p).openCnt → Gives (.openPhase t n p) s t
      ((c.latchOff n (CUR_AX_FAULT_OPEN_S n) 0x0802).setCu n (fun x => x.setPh p (fun h => { h with openCnt := 0 })))) ∧
    (((c.cu n).ph p).openCnt < 8 → Gives (.openPhase t n p) s t c) ∧
    (20 ≤ ((c.cu n).ph p).sagCnt → Gives (.currentSag t n p) s t
      (((c.put (CUR_AX_FAULT_SAG_S n) true).raiseArg 0x0804 0 n).setCu n (fun x => x.setPh p (fun h => { h with sagCnt := 0 })))) ∧
    (((c.cu n).ph p).sagCnt < 20 → Gives (.currentSag t n p) s t c) ∧
    (∀ (o : Int) e, o.natAbs ≤ 1000 → e ≤ 2000 → Gives (.adcCheck t n o e) s t (c.setCu n (fun x => { x with adcOk := true }))) ∧
    (∀ (o : Int) e, 2000 < e → (c.cu n).adcOk = true → Gives (.adcCheck t n o e) s t
      ((((c.setCu n (fun x => { x with adcOk := false })).bridgeLoss n).put (CUR_AX_FAULT_ADC_S n) true).raiseArg 0x0803 0 n))

/-- The chopper (R148 to R153): a cycle starts in ON on a driven phase with a set current of its sign once 25 us have passed since the last
start and the last cycle has ended, with the sign of the current as its polarity; a sample within ON after blanking is taken as the
blanking-end sample; after blanking an ON state whose current has reached the threshold ends in FAST, or in SLOW without a fast share, and
one that has run its limit ends with ON_LIM counted; the off phase of a fixed-off-time cycle ends after TOFF. Force and offsets (R157, R158,
R153): two cycles above the force limit set FTRIP and trip the axis; FORCE_CAL arms the fit and clears its result bits; the end of a move
whose fit does not collect changes nothing; CLROFS sets the eight offsets of the axis to 0. -/
def Obligations.CurrentAndForce : Prop :=
  (∀ (s : State) (t : Nat) (n : Fin 4) (p : Fin 2) (c : Chip) (h : Phase), c = s.chip.begin t → c.live .app = true → h = (c.cu n).ph p →
    (c.is (CUR_AX_STAT_DRIVING n) = true → c.iSet n p ≠ 0 → 0 ≤ c.iSet n p * h.iMeas → h.start = none → h.bridge ≠ .on → h.ended = true →
      Gives (.chopperCycleStart t n p) s t (c.setCu n (fun x => x.setPh p (fun h =>
        { h with bridge := .on, neg := decide (c.iSet n p < 0), start := some c.now, onLim := false, ended := false, cfg := c.chopCfg n })))) ∧
    (∀ a, h.start = some a → c.now - a < 25000 → Gives (.chopperCycleStart t n p) s t c) ∧
    (∀ i, Gives (.blankingEnd t n p i) s t (c.setCu n (fun x => x.setPh p (fun h =>
      match h.start with
      | none => h
      | some a => if h.bridge = .on ∧ h.cfg.tblank * 250 ≤ c.now - a then { h with iBe := i, iMeas := i } else { h with iMeas := i })))) ∧
    (∀ i, h.start = none → Gives (.onStateEnd t n p i) s t c ∧ ∀ m, Gives (.offPhaseEnd t n p i m) s t c) ∧
    (∀ i a, h.start = some a → h.bridge = .on → h.cfg.tblank * 250 ≤ c.now - a → c.threshold n p true ≤ i.natAbs →
      Gives (.onStateEnd t n p i) s t (c.setCu n (fun x => x.setPh p (fun y =>
        { y with bridge := if y.cfg.hyst ∨ 0 < y.cfg.fd then .fast else .slow, onEnd := c.now, iPk := i, iMeas := i, onLim := false,
                 tOn := y.tOn + (if y.neg then -((c.now - a : Nat) : Int) else (c.now - a : Nat)),
                 openCnt := if c.get (CUR_AX_SCALE_I_PEAK n) * 1000 ≤ ((c.iSet n p).natAbs : Int) * 4 ∧
                     (i.natAbs : Int) * 20 < (c.iSet n p).natAbs then y.openCnt + 1 else 0 })))) ∧
    (∀ i m a, h.start = some a → h.cfg.hyst = false → (h.bridge = .fast ∨ h.bridge = .slow) → h.ended = false →
      h.cfg.toff * 250 ≤ c.now - h.onEnd → 25000 ≤ c.now - a →
      Gives (.offPhaseEnd t n p i m) s t (c.setCu n (fun x => x.setPh p (fun y =>
        { y with bridge := .slow, iMeas := i, ended := true, sum := y.sum + (h.iBe + h.iPk) / 2, n := y.n + 1,
                 nLim := y.nLim + (if y.onLim then 1 else 0),
                 tFast := y.tFast + (if y.neg then -((h.cfg.toff * 250 * h.cfg.fd / 16 : Nat) : Int)
                   else (h.cfg.toff * 250 * h.cfg.fd / 16 : Nat)) }))))) ∧
  (∀ (s : State) (t : Nat) (n : Fin 4) (c k : Chip), c = s.chip.begin t → c.live .app = true →
    (2 ≤ (c.cu n).overs → c.is (CUR_AX_STAT_FTRIP n) = false → Gives (.forceTrip t n) s t ((c.put (CUR_AX_STAT_FTRIP n) true).trip n 0)) ∧
    ((c.cu n).overs < 2 → Gives (.forceTrip t n) s t c) ∧
    (c.wqm.entries = [] → Gives (.forceCal t n) s t
      ((((c.put (CUR_AX_STAT_FCAL_DONE n) false).put (CUR_AX_STAT_CAL_FAIL n) false).setCu n
        (fun x => { x with fit := 1, fitOk := true, fitCruise := 0, sums := {} })).settle)) ∧
    ((c.cu n).fit ≠ 2 → Gives (.forceFitEnd t n) s t c.settle) ∧
    ((c.cu n).fit = 2 → (c.cu n).fitOk = false → (c.fitEnd n).cu n = { (c.cu n) with fit := 1, fitOk := true, fitCruise := 0, sums := {} } →
      Gives (.forceFitEnd t n) s t ((c.setCu n (fun x => { x with fit := 1, fitOk := true, fitCruise := 0, sums := {} })).settle)) ∧
    (Yields (.clrOfs t n) s (fun k => k.getI (ofsFld n 0 0) = 0 ∧ k.getI (ofsFld n 1 3) = 0 ∧ SameStore c k ∧ k.flt = c.flt ∧ k.wqm = c.wqm)))

/-! ### The door cycle's timers (spec/08) -/

/-- The timers of DOOR end a state only in it and only when they have run (R165, R170, R171, R177): then DOOR's cycle takes its decision; in
CLOSE_WARNING the closing conditions are looked at. Leaf overspeed for ten cycles raises F0902 and holds the door (R179). The island's
timers (R197, R199, R209): a stop that has lasted takes the bridges; a veto against voted standstill for 2 s raises F0409 once; the
vision-absent policy enters with F040A when a grid has aged out, and ends 1 s after vision has come back with fresh grids. -/
def Obligations.DoorAndIslandTimers : Prop :=
  (∀ (s : State) (t : Nat) (c : Chip), c = s.chip.begin t → c.live .app = true →
    (c.doorState = 4 → Gives (.warningTimeElapsed t) s t c.warnCheck) ∧
    (c.doorState ≠ 4 → Gives (.warningTimeElapsed t) s t c ∧ Gives (.rewarnElapsed t) s t c) ∧
    (c.doorState = 4 → c.door.withheld = true → Gives (.rewarnElapsed t) s t c.warnCheck) ∧
    (c.doorState = 2 → c.doorFor (c.get DOOR_TMOVE_T_OPEN_MAX * 10000000) = true → Gives (.openTimeout t) s t c.doorCycle) ∧
    (c.doorState = 5 → c.doorFor (c.get DOOR_TMOVE_T_CLOSE_MAX * 10000000) = true → Gives (.closeTimeout t) s t c.doorCycle) ∧
    (c.doorState = 7 → c.doorFor (c.get DOOR_TWAIT_T_RECLOSE * 10000000) = true → Gives (.recloseElapsed t) s t c.doorCycle) ∧
    (c.doorState = 8 → c.doorFor (c.get DOOR_LOCK_T_LOCK * 1000000) = true → Gives (.lockTimeout t) s t c.doorCycle) ∧
    (c.doorState = 3 → Gives (.openTimeout t) s t c ∧ Gives (.closeTimeout t) s t c ∧ Gives (.recloseElapsed t) s t c ∧
      Gives (.lockTimeout t) s t c) ∧
    (∀ n : Fin 2, (c.door.ovs[n.val]?).getD 0 = 10 → c.doorState ≠ 9 → c.doorState ≠ 10 → Gives (.leafOverspeed t n) s t
      ((({ c with door := { c.door with ovs := modAt c.door.ovs n (fun _ => 11) } } : Chip).raiseArg 0x0902 0 n).holdCause 4))) ∧
  (∀ (s : State) (t : Nat) (c : Chip), c = s.chip.begin t → c.live .app = true →
    (c.stopOver = true → c.is VOTE_STAT_BRIDGE = true →
      Gives (.bridgeStopTimeout t) s t (((c.put VOTE_STAT_BRIDGE false).votedPins).bridgesFollow)) ∧
    (c.stopOver = false → Gives (.bridgeStopTimeout t) s t c) ∧
    (∀ a, c.vote.vetoSince = some a → c.vote.vetoTold = false → c.veto = true → c.is FBK_WHL_STAT_VSTILL = true → 2000000000 ≤ c.now - a →
      Gives (.speedVetoFault t) s t (({ c with vote := { c.vote with vetoTold := true } } : Chip).raise 0x0409)) ∧
    (c.vote.vetoTold = true → Gives (.speedVetoFault t) s t c) ∧
    (∀ cam : Fin 2, c.gridOld cam = true → c.is VOTE_STAT_VA = false → Gives (.gridAgeTimeout t cam) s t
      ((({ c with vote := { c.vote with vaClear := none, vaFresh := 0 } } : Chip).put VOTE_STAT_VA true).raise 0x040A)) ∧
    (∀ cam : Fin 2, c.gridOld cam = false → Gives (.gridAgeTimeout t cam) s t c) ∧
    (∀ a, c.visionLacks = false → c.vote.vaClear = some a → 1000000000 ≤ c.now - a → c.is VOTE_STAT_VA = true →
      (∀ m < 2, c.masked m = true → bitAt c.vote.vaFresh m = true) → Gives (.visionAbsentEnd t) s t (c.put VOTE_STAT_VA false)))

/-! ### Safety inputs and the island (spec/09) -/

/-- Safety inputs (R184 to R189): a check of a TPO on a chip without SAFE from NOR reads nothing; a change of a static input is taken into
each channel's reading; a dual-input discrepancy that has lasted latches its pair and raises F0405; an input unchanged for 24 h outside
ISOLATED raises F040B. A pushbutton that has read closed for 50 ms posts its command once to the first queue of source 16 (R189, R361); on a
chip that routes that source to no queue only the button is marked. -/
def Obligations.SafetyInputs : Prop :=
  (∀ (s : State) (t : Nat) (n : Fin 24) (c : Chip), c = s.chip.begin t → c.live .island = true →
    (∀ k la lb lc ok, c.sys.fromNor = false → Gives (.pulsedInputCheck t k la lb lc ok) s t c) ∧
    (∀ (k : Fin 4) la lb lc, c.sys.fromNor = true → k.val ≠ 3 → ∀ m, m = c.setReadings (fun i x => x.check c k
        (if i = 0 then la.toNat else if i = 1 then lb.toNat else lc.toNat) (c.pair.pulseHold != 0)) → c.sinFaults = 0 → m.sinFaults = 0 →
      Gives (.pulsedInputCheck t k la lb lc true) s t (m.putBit VOTE_RB_TPO k true) ∧
      Gives (.pulsedInputCheck t k la lb lc false) s t ((m.putBit VOTE_RB_TPO k false).raise 0x0407)) ∧
    (∀ closed : BitVec 3, c.sys.fromNor = true → c.sinOn n = true → c.is (VOTE_SIN_CFG_MODE n) = false →
      Gives (.staticInputChange t n closed) s t (c.setReadings (fun i x => { x with closed := setBit x.closed n (bitAt closed.toNat i) }))) ∧
    (∀ closed : BitVec 3, c.is (VOTE_SIN_CFG_MODE n) = true → Gives (.staticInputChange t n closed) s t c) ∧
    (∀ p : Fin 2, c.vote.ch.any (fun x => c.dualDue p x) = false → Gives (.dualInputDiscrepancy t p) s t c) ∧
    (∀ p : Fin 2, c.vote.ch.any (fun x => c.dualDue p x) = true → ∀ m, m = (({ c with vote := { c.vote with
        ch := c.vote.ch.map (fun x => if c.dualDue p x then { x with lat := setBit x.lat p true } else x) } } : Chip)) →
      Yields (.dualInputDiscrepancy t p) s (fun k => k.vote.ch = m.vote.ch ∧ SameStore c k ∧
        (c.pair.taking = false → c.sys.held = none → ∃ r, k.flt.inbox = c.flt.inbox ++ [r] ∧ r.code = 0x0405))) ∧
    (c.sinOn n = true → (c.get (VOTE_SIN_CFG_FUNC n) ≤ 6 ∨ c.get (VOTE_SIN_CFG_FUNC n) = 12) →
      86400000000000 ≤ c.vote.outIso - lookupD c.vote.mark n 0 → Gives (.inputUnchanged t n) s t
        (({ c with vote := { c.vote with mark := insertD c.vote.mark n c.vote.outIso } } : Chip).raiseArg 0x040B 0 n))) ∧
  (∀ (s : State) (t : Nat) (n : Fin 24) (c k : Chip), c = s.chip.begin t → c.live .app = true → c.sinOn n = true →
    (c.get (VOTE_SIN_CFG_FUNC n) = 10 ∨ c.get (VOTE_SIN_CFG_FUNC n) = 11) → bitAt (c.get VOTE_SIN_STATE_CLOSED) n = true →
    bitAt c.vote.pbReady n = true → 50000000 ≤ c.now - lookupD c.vote.sinAt n 0 →
    k = { c with vote := { c.vote with pbReady := setBit c.vote.pbReady n false } } →
    (k.queueOf 16 128 = none → Gives (.pushbuttonPost t n) s t k) ∧
    (∀ q, k.queueOf 16 128 = some q → c.get (VOTE_SIN_CFG_FUNC n) = 10 → Gives (.pushbuttonPost t n) s t
      (k.offer q 16 0 0 (k.opMotion .doorOpen) { op := .doorOpen, a := 0, b := 0, v := 0 } .nobody).1) ∧
    (∀ q, k.queueOf 16 128 = some q → c.get (VOTE_SIN_CFG_FUNC n) = 11 → Gives (.pushbuttonPost t n) s t
      (k.offer q 16 0 0 (k.opMotion .doorClose) { op := .doorClose, a := 0, b := 0, v := 0 } .nobody).1))

/-! ### Cameras (spec/10) -/

/-- Camera packets (R218 to R223): on the CV-4410N, whose cameras are fused off, no packet does anything, nor on a disabled camera; the
first Frame Start of a receiver takes its number and its FIDX, and shows both with the time; a long packet with an uncorrectable header
marks the frame short and raises F0A01, one of a data type that no camera sends is counted as ignored, and one of another virtual channel is
dropped. The end of a frame shows its lines and whether it was short (R220), and a stream that has shown no Frame Start for 100 ms is lost
with F0A03 (R223). -/
def Obligations.CameraFrames : Prop :=
  (∀ (s : State) (t : Nat) (n : Fin 2) (c : Chip), c = s.chip.begin t → c.live .app = true →
    (∀ fn p, c.fuses.partN = true ∨ c.is (NOS_CAM_CFG_EN n) = false →
      Gives (.frameStart t n fn) s t c ∧ Gives (.longPacket t n p) s t c ∧ Gives (.frameEnd t n) s t c) ∧
    (∀ fn k, c.fuses.partN = false → c.is (NOS_CAM_CFG_EN n) = true → (c.camSt n).fn = none →
      k = ((((c.setCam n (fun x => { x with fn := some (fn % 65536), fidx := c.firstFidx n (fn % 65536), fsAt := c.now, lines := 0,
                                            short := false })).set64
        (NOS_CAM_FIDX_LO_FIDX n) (NOS_CAM_FIDX_HI_FIDX n) (c.firstFidx n (fn % 65536))).set64 (NOS_CAM_FS_TS_LO_TS n) (NOS_CAM_FS_TS_HI_TS n)
        c.now)) →
      ∀ m, m = k.set (NOS_CAM_ERR_FRAMES_LOST n) (satNat 8 (k.get (NOS_CAM_ERR_FRAMES_LOST n))) →
      m.is (NOS_CAM_STAT_STREAM n) = true → Gives (.frameStart t n fn) s t
        (if m.is (NOS_CAM_STAT_STREAM 0) = m.is (NOS_CAM_CFG_EN 0) ∧ m.is (NOS_CAM_STAT_STREAM 1) = m.is (NOS_CAM_CFG_EN 1) then
          m.endCondition 0x0A03 else m)) ∧
    (∀ p, c.fuses.partN = false → c.is (NOS_CAM_CFG_EN n) = true →
      (p.ecc = 2 → Gives (.longPacket t n p) s t ((c.markShort n).raiseArg 0x0A01 0 n)) ∧
      (p.ecc = 0 → p.dt ≠ 0x2B → p.dt ≠ 0x2C → p.dt ≠ 0x1E → Gives (.longPacket t n p) s t (c.incSat (NOS_CAM_ERR_DT_IGN n))) ∧
      (p.ecc = 0 → p.dt = 0x2B → p.vc.val ≠ c.get (NOS_CAM_CFG_VC n) → Gives (.longPacket t n p) s t c) ∧
      (p.ecc = 0 → p.dt = 0x2B → p.vc.val = c.get (NOS_CAM_CFG_VC n) → c.get (NOS_CAM_CFG_DT n) = 0 →
        (c.camSt n).lines < c.get (NOS_CAM_GEOM_LINES n) → Gives (.longPacket t n p) s t
          (((c.setCam n (fun x => { x with lines := (c.camSt n).lines + 1 })).lineSample n (c.camSt n).lines).storeLine n (c.camSt n).lines p)))) ∧
  (∀ (s : State) (t : Nat) (n : Fin 2) (c : Chip), c = s.chip.begin t → c.live .app = true →
    (c.fuses.partN = false → c.is (NOS_CAM_CFG_EN n) = true → c.is (NOS_CAM_CFG_FE_EN n) = false →
      c.get (NOS_CAM_GEOM_LINES n) ≤ (c.camSt n).lines →
      Gives (.frameEnd t n) s t ((c.set (NOS_CAM_STAT_FRAME_LINES n) (c.camSt n).lines).put (NOS_CAM_STAT_SHORT n) (c.camSt n).short)) ∧
    (c.is (NOS_CAM_STAT_STREAM n) = true → 100000000 ≤ c.now - (c.camSt n).fsAt →
      Gives (.streamLoss t n) s t ((c.camShow n false).raiseArg 0x0A03 0 n)) ∧
    (c.now - (c.camSt n).fsAt < 100000000 → Gives (.streamLoss t n) s t c))

/-! ### The Nosora engine (spec/10) -/

/-- NOS_ENABLE (R240) on a CV-4410 with the engine off and no tenant enabled sets ENABLE, with the LPDDR4X to be trained; on the CV-4410N it does
nothing. The end of the training (R268): passed, memory and engine are ready and the tenants start; failed, F0B05. -/
def Obligations.EngineEnable : Prop :=
  ∀ (s : State) (t : Nat) (c k : Chip), c = s.chip.begin t → c.live .app = true →
    (c.fuses.partN = true → Gives (.nosEnable t) s t c) ∧
    (c.fuses.partN = false → c.is NOS_CTRL_ENABLE = false →
      k = (((c.put NOS_CTRL_ENABLE true).put VMC_STAT_DDR_READY false).put VMC_DDR_STAT_TRAINED false).put VMC_DDR_STAT_TRAIN_FAIL false →
      k.get NOS_CTRL_TEN_EN = 0 → Gives (.nosEnable t) s t k) ∧
    (∀ n, c.is NOS_CTRL_ENABLE = true → c.is VMC_STAT_DDR_READY = false →
      Gives (.lpddr4xTrainingEnd t false n) s t (((c.set VMC_DDR_STAT_ATTEMPTS (min n 3)).put VMC_DDR_STAT_TRAIN_FAIL true).raise 0x0B05)) ∧
    (∀ n, c.is NOS_CTRL_ENABLE = true → c.is VMC_STAT_DDR_READY = false →
      k = ((((c.set VMC_DDR_STAT_ATTEMPTS (min n 3)).put VMC_DDR_STAT_TRAINED true).put VMC_STAT_DDR_READY true).put NOS_STAT_RUNNING
        true).endCondition 0x0B05 →
      Gives (.lpddr4xTrainingEnd t true n) s t ((((k.tenantStart 0).tenantStart 1).tenantStart 2).tenantStart 3))

/-- A layer command runs the next descriptor of the cluster's job when its opcode is the command's and every operand lies within the tenant's window
(R229 to R239): without GRID, each output row is written at the output's address, with GRID the rows wait for the job's end; the counters of the whey regions follow, one free value is taken,
and the job moves on to the next descriptor, or ends with the one marked LAST; with an operand outside the window the job is abandoned with
F0A05, and with one beyond the declared LPDDR4X density, inside the window, with F0B07 (log 28). Nothing happens on a cluster without a job or where the opcode differs. -/
def Obligations.LayerCommands : Prop :=
  ∀ (s : State) (t : Nat) (clu : Fin 4) (c k : Chip) (i : Instr) (op : Nat), c = s.chip.begin t → c.live .app = true →
    (i, op) ∈ [(Instr.conv t clu, 0), (.dwconv t clu, 1), (.pool t clu, 2), (.add t clu, 3), (.mul t clu, 4), (.act t clu, 5),
      (.resize t clu, 6), (.concat t clu, 7), (.warp t clu, 8), (.diff t clu, 9), (.regsum t clu, 10), (.thresh t clu, 11)] →
    (c.runOn clu = none → Gives i s t c) ∧
    (∀ r d a b o, c.runOn clu = some r → r.ended = false → d = descAt (c.tenant r.ten).descs ((c.jobOf r).first + r.done) → d.length = 64 →
      a = opdOf d 0 → b = opdOf d 1 → o = opdOf d 2 →
      (leAt d 0 1 % 16 ≠ op → Gives i s t c) ∧
      (leAt d 0 1 % 16 = op → opdIn a (c.get (NOS_TEN_SIZE_SIZE r.ten)) = false →
        Gives i s t ((c.abandon r).raiseArg 0x0A05 r.ten r.ten)) ∧
      (leAt d 0 1 % 16 = op → opdIn a (c.get (NOS_TEN_SIZE_SIZE r.ten)) = true →
        (usesIn1 op = true → opdIn b (c.get (NOS_TEN_SIZE_SIZE r.ten)) = true) →
        (bitAt (leAt d 0 1) 5 = false → opdIn o (c.get (NOS_TEN_SIZE_SIZE r.ten)) = true) →
        (tablesOf d op o).any (fun x => decide (c.get (NOS_TEN_SIZE_SIZE r.ten) < x.1 + x.2)) = false →
        (c.beyondDdr r.ten op d a b o = true →
          Gives i s t ((c.abandon r).raiseArg 0x0B07 r.ten (c.get (NOS_TEN_BASE_OFS r.ten) + a.addr))) ∧
        (c.beyondDdr r.ten op d a b o = false →
        (∀ n ∈ c.linesRead r d op a b, ∃ x, c.ringLine r.cam r.fidx n = some x ∧ x.bad = false) →
        ∀ rows, rows = (List.range o.h).map (fun y => (y, c.layerRow r d op a b o y)) →
        k = (if bitAt (leAt d 0 1) 5 = true then
            c.setRun r (fun x => { x with rows := x.rows ++ rows.map (fun p => (leAt d 1 1 + p.1, p.2)) })
          else rows.foldl (fun c p => c.cluWrite clu (c.get (NOS_TEN_BASE_OFS r.ten) + o.addr + p.1 * o.stride) p.2) c) →
        ∀ m, m = ((k.wheyOf clu r.ten a true).wheyOf clu r.ten b (usesIn1 op)).tickFree →
        Gives i s t (m.setRun r (fun x => { x with done := x.done + 1, ended := bitAt (leAt d 0 1) 4, layerAt := m.now, bad := x.bad })))))

/-- Jobs on a cluster (R226 to R229, R244): the dispatch gives a free cluster the ready job of highest priority; a job whose LAST descriptor has run
ends, counts, and publishes its grid rows; one beyond its worst-case or layer time is abandoned, counted, and raises F0A04; an uncorrectable
ECC error takes the cluster out of every mask, abandons its job and raises F0A08. -/
def Obligations.ClusterJobs : Prop :=
  ∀ (s : State) (t : Nat) (clu : Fin 4) (c : Chip), c = s.chip.begin t → c.live .app = true →
    (c.nos.runs = [] → Gives (.jobDispatch t clu) s t c ∧ Gives (.jobEnd t clu) s t c ∧ Gives (.jobOverrun t clu) s t c) ∧
    (∀ r, c.nos.runs = [r] → r.pend = false → r.ended = false → r.began = false → r.cluster = none → c.mayUse r.ten clu = true →
      c.depState r = none → Gives (.jobDispatch t clu) s t ((c.setRun r (fun x =>
        { x with cluster := some clu.val, began := true, startAt := if x.began then x.startAt else c.now, bad := x.bad || c.depBad r,
                  layerAt := c.now })).l1Clear clu)) ∧
    (∀ r, c.runOn clu = some r → r.ended = true → r.rows = [] →
      Gives (.jobEnd t clu) s t (((c.dropRun r).noteT0 r true).incWrap (NOS_TEN_JOBS_N r.ten))) ∧
    (∀ k u, c.jobEnd clu = (k, some u) → Gives (.jobEnd t clu) s t ((k.gridCompare u).occupancy u)) ∧
    (∀ r, c.runOn clu = some r → (c.jobOf r).wcet * 1000 ≤ c.now - r.startAt → Gives (.jobOverrun t clu) s t
      (((c.abandon r).incSat (NOS_TEN_DROP_OVERRUN r.ten)).raiseArg 0x0A04 r.ten r.ten)) ∧
    (c.runOn clu = none → Gives (.clusterEccError t clu) s t
      (({ c with nos := { c.nos with badClu := setBit c.nos.badClu clu true } } : Chip).raiseArg 0x0A08 0 clu)) ∧
    (∀ r k, c.runOn clu = some r → k = c.abandon r → Gives (.clusterEccError t clu) s t
      (({ k with nos := { k.nos with badClu := setBit k.nos.badClu clu true } } : Chip).raiseArg 0x0A08 0 clu))

/-! ### Vision memory (spec/11) -/

/-- Accesses at the L2 without an ECC error (R245 to R256): a read or a write beyond the installed memory is refused; a read of the application core inside one 128-byte line
of a partition that no tenant runs goes past the L2 to the LPDDR4X and its write stores the bytes there; a read in a line that is present and holds it is delivered. A
fill with no miss-holding register for it does nothing; one with a register gives the line its sectors from the LPDDR4X, counts its bytes,
delivers the read that waited and frees the register. -/
def Obligations.VisionL2Access : Prop :=
  ∀ (s : State) (t off : Nat) (c : Chip), c = s.chip.begin t → c.live .app = true →
    (∀ len, c.ddrSize < off + max 1 len → Gives (.l2Read t 4 off len 0) s t (c.vmcRefuse 4 off)) ∧
    (∀ bytes : List Byte, c.ddrSize < off + max 1 bytes.length → Gives (.l2Write t 4 off bytes 0) s t (c.vmcRefuse 4 off)) ∧
    (∀ len, off + max 1 len ≤ c.ddrSize → off % 128 + len ≤ 128 → c.partOf off < 4 → c.sharedAt off 4 = false → c.is (NOS_TEN_STAT_RUNNING (c.partOf off)) = false →
      Gives (.l2Read t 4 off len 0) s t c) ∧
    (∀ bytes : List Byte, off + max 1 bytes.length ≤ c.ddrSize → c.partOf off < 4 → c.sharedAt off 4 = false →
      c.is (NOS_TEN_STAT_RUNNING (c.partOf off)) = false → Yields (.l2Write t 4 off bytes 0) s (fun k =>
        (∀ a, a < ddrAddr off ∨ ddrAddr off + bytes.length ≤ a → k.rdB a = c.rdB a) ∧
        (∀ j, (h : j < bytes.length) → k.rdB (ddrAddr off + j) = bytes[j]) ∧ k.regs = c.regs ∧ k.vmc = c.vmc ∧ k.flt = c.flt)) ∧
    (∀ len x k, off + max 1 len ≤ c.ddrSize → off % 128 + len ≤ 128 → c.partOf off = 4 → k = c.pmc 0 4 1 → k.slices 4 ≠ [] → k.l2Line off = some x →
      (sectorsOf off len).all (fun o => x.holds o) = true →
      Gives (.l2Read t 4 off len 0) s t (k.deliver { agent := 4, off := off, len := len, wr := none })) ∧
    (c.vmc.mshr = [] → Gives (.fillComplete t off) s t c) ∧
    (∀ m r x p k d, c.vmc.mshr = [m] → p = c.partOf m.base → m.base ≤ off → off < m.base + c.lineSize p → c.is (VMC_PART_CFG_MODE p) = false →
      m.second = 0 → m.drop = false → m.reqs = [r] → r.wr = none →
      k = (c.setL2 m.base (fun x =>
        if x.churn then { x with st := [2], data := c.rdBytes (ddrAddr x.base) 2048 }
        else { x with
          data := [0, 1, 2, 3].foldl (fun d i => if bitAt m.fill i then patch d (32 * i) (c.rdBytes (ddrAddr (x.base + 32 * i)) 32) else d) x.data
          st := (List.range 4).map (fun i => if bitAt m.fill i ∧ (x.st[i]?).getD 0 = 3 then 1 else (x.st[i]?).getD 0) })).pmc 6 p
        (32 * ((List.range 4).filter (fun i => bitAt m.fill i)).length) →
      k.l2Line r.off = some x → (sectorsOf r.off r.len).all (fun o => x.holds o) = true → d = k.deliver r →
      d.vmc.replay = [] → d.vmc.held = [] →
      Gives (.fillComplete t off) s t { d with vmc := { d.vmc with mshr := d.vmc.mshr.filter (fun y => y.base != m.base) } })

/-- Requests at the home of a shared line (R257, R258): a GetS, WT or GetM of a line that is not shared does nothing, and one of a shared
line runs at its directory entry; PutM of a line in M takes the data to the L2 and leaves the line uncached; the data of a recall end it,
shared by the application core after a GetS and uncached after any other request; an Inv drops the line from the L1 of its cluster; Recall
goes out again while it is awaited. Acknowledgements and the application core's silence (R258, R260): an InvAck that is not the last takes
its sharer from those awaited, and the last ends the request; an application core that has not answered for 10 us raises F0B08 with the
line's offset. -/
def Obligations.CoherenceHome : Prop :=
  (∀ (s : State) (t off : Nat) (c : Chip) (e : DirEnt), c = s.chip.begin t → c.live .app = true → e = c.dirAt (off / 128 * 128) →
    (∀ who (w : Fin 4) (bytes : List Byte), c.sharedAt off 4 = false →
      Gives (.getS t who off) s t c ∧ Gives (.wt t w off bytes) s t c ∧ Gives (.getM t off) s t c) ∧
    (∀ who : Fin 5, c.sharedAt off 4 = true →
      Gives (.getS t who off) s t (c.dirRun (off / 128 * 128) [{ kind := 0, who := who, off := off, bytes := [] }])) ∧
    (∀ (w : Fin 4) (bytes : List Byte), c.sharedAt off 4 = true → 0 < bytes.length → bytes.length ≤ 32 →
      Gives (.wt t w off bytes) s t (c.dirRun (off / 128 * 128) [{ kind := 1, who := w, off := off, bytes := bytes }])) ∧
    (c.sharedAt off 4 = true → Gives (.getM t off) s t (c.dirRun (off / 128 * 128) [{ kind := 2, who := 4, off := off, bytes := [] }])) ∧
    (∀ bytes, e.st = 2 → e.trans = 0 → Gives (.putM t off bytes) s t
      (((c.endCondition 0x0B08).l2Put (off / 128 * 128) (sliceBytes bytes 0 128)).setDir { e with st := 0, sharers := 0 })) ∧
    (∀ bytes, e.st ≠ 2 → Gives (.putM t off bytes) s t c) ∧
    (∀ who : Fin 5, Gives (.inv t who off) s t (c.l1Drop (fun x => x.clu == who.val && x.base == off / 128 * 128))) ∧
    (e.trans = 2 → Gives (.recall t off) s t (c.emit (.coherence 2 5 (off / 128 * 128)))) ∧
    (e.trans ≠ 2 → Gives (.recall t off) s t c ∧ ∀ bytes, Gives (.recallData t off bytes) s t c) ∧
    (∀ bytes r rest, e.trans = 2 → e.reqs = r :: rest →
      (r.kind = 0 → Gives (.recallData t off bytes) s t
        (((c.endCondition 0x0B08).l2Put (off / 128 * 128) (sliceBytes bytes 0 128)).dirEnd (off / 128 * 128) 1 16)) ∧
      (r.kind ≠ 0 → Gives (.recallData t off bytes) s t
        (((c.endCondition 0x0B08).l2Put (off / 128 * 128) (sliceBytes bytes 0 128)).dirEnd (off / 128 * 128) 0 0)))) ∧
  (∀ (s : State) (t off : Nat) (c : Chip) (e : DirEnt), c = s.chip.begin t → c.live .app = true → e = c.dirAt (off / 128 * 128) →
    (∀ who : Fin 5, e.trans = 1 → who.val ≠ 4 → setBit e.acks who false ≠ 0 →
      Gives (.invAck t who off) s t (c.setDir { e with acks := setBit e.acks who false })) ∧
    (∀ who : Fin 5, e.trans = 1 → who.val ≠ 4 → setBit e.acks who false = 0 → e.sharers / 16 % 2 = 0 →
      Gives (.invAck t who off) s t (c.dirEnd (off / 128 * 128) 0 0)) ∧
    (∀ who : Fin 5, e.trans ≠ 1 → Gives (.invAck t who off) s t c) ∧
    (e.trans ≠ 0 → bitAt e.acks 4 = true → 10000 ≤ c.now - e.since → Gives (.appCoherenceTimeout t off) s t (c.raiseArg 0x0B08 0 off)) ∧
    (c.now - e.since < 10000 → Gives (.appCoherenceTimeout t off) s t c))

/-- Partitions and counters (R261 to R266): a write to the configuration of a partition in use sets WR_ERR and nothing else; of an idle one it flushes the
partition and takes SLICES and MODE; a write-back cleans its lines and a write-back with invalidate removes them, on an idle partition only; a write
to VMC_PMCk_SEL takes event and scope, and CLEAR sets the counter to 0. -/
def Obligations.PartitionsAndCounters : Prop :=
  ∀ (s : State) (t : Nat) (p : Fin 5) (v : Word) (c k : Chip), c = s.chip.begin t → c.live .app = true →
    (c.partIdle p = false → Gives (.partitionReconfig t p v) s t (c.put VMC_STAT_WR_ERR true) ∧ Gives (.vmcWriteBack t p) s t c ∧
      Gives (.vmcWriteBackInvalidate t p) s t c) ∧
    (c.partIdle p = true → k = ((c.partFlush p).set (VMC_PART_CFG_SLICES p) (bitsOf v.toNat 0 16)).set (VMC_PART_CFG_MODE p)
        (bitsOf v.toNat 16 1) →
      Gives (.partitionReconfig t p v) s t (k.set (VMC_PART_STAT_NSLICE p) (k.slices p).length) ∧
      Gives (.vmcWriteBack t p) s t (c.partClean p) ∧ Gives (.vmcWriteBackInvalidate t p) s t (c.partFlush p)) ∧
    (∀ n : Fin 8, k = (c.set (VMC_PMC_SEL_EVENT n) (bitsOf v.toNat 0 4)).set (VMC_PMC_SEL_SCOPE n) (bitsOf v.toNat 4 3) →
      (bitAt v.toNat 8 = false → Gives (.pmcClear t n v) s t k) ∧
      (bitAt v.toNat 8 = true → Gives (.pmcClear t n v) s t
        (({ k with vmc := { k.vmc with pmcRest := modAt k.vmc.pmcRest n (fun _ => 0) } } : Chip).set64 (VMC_PMC_LO_CNT n) (VMC_PMC_HI_CNT n) 0)))

/-! ### CAN FD (spec/12) -/

/-- Frames on the bus of a controller (R274 to R288): a controller that is not on its bus takes no frame and sends none; a frame without ECC errors lowers the
receive error counter by one where it stood at 1 to 127, is received, and the bus is free for the next transmission; a frame sent from the selected
buffer clears its pending bit, sets its sent bit, requests line bit 0, counts, leaves its event and leaves the chip. -/
def Obligations.CanFrames : Prop :=
  ∀ (s : State) (t : Nat) (n : Fin 3) (c k : Chip), c = s.chip.begin t → c.live .app = true →
    (∀ f a u, c.canOnBus n = false → Gives (.canFrameReceived t n f a u) s t c) ∧
    (∀ f, c.canOnBus n = true → f.fdf = false → (c.cc n).mode ≠ 1 → 0 < (c.cc n).rec_ → (c.cc n).rec_ ≤ 127 →
      k = (c.setCc n (fun x => { x with rec_ := (c.cc n).rec_ - 1 })).canShow n →
      Gives (.canFrameReceived t n f 0 none) s t (((k.canReceive n f).put (CAN_STAT_BUSY n) false).canSelect n)) ∧
    (∀ sof l u, (c.cc n).sel = none → Gives (.canFrameTransmitted t n sof l u) s t c) ∧
    (∀ sof b, (c.cc n).sel = some b → c.canOnBus n = true → c.bit (CAN_TX_PEND_BITS n) b = true →
      k = ((((((c.putBit (CAN_TX_PEND_BITS n) b false).putBit (CAN_TX_SENT_BITS n) b true).canIr n 0).incWrap (CAN_CNT_TX_N n)).txEvent n b 1
        (sof / 1000)).setCc n (fun x => { x with cancel := setBit x.cancel b false, tec := x.tec - 1 })) →
      ∀ m, m = (k.put (CAN_STAT_BUSY n) false).canShow n → (m.cc n).mode ≠ 2 →
      Gives (.canFrameTransmitted t n sof none false) s t
        ((m.emit (.canSent n b [m.mrd n (m.txElem n b), m.mrd n (m.txElem n b + 4)] (c.txFrame n b sof).data)).canSelect n))

/-- Errors and recovery (R285, R288): an error goes to the counters, and to bus-off the reference of the controller is lost; the recovery
from bus-off clears both counters and the state and requests its line bit; arbitration lost puts the attempt aside with the bus busy,
cancelled where that was asked for; a controller that has seen 11 recessive bits takes part in the traffic. INIT and MODE (R272 to R274):
INIT on an idle controller enters at once, and during a frame waits for its end; the entry, once asked for, cancels every pending
transmission; leaving INIT with a layout that fits the message RAM clears INIT and INIT_ACK, with one that does not INIT stays; the mode is
taken from CANn_CTRL. The time-stamp counter that has wrapped requests its line bit once. -/
def Obligations.CanErrorsAndModes : Prop :=
  (∀ (s : State) (t : Nat) (n : Fin 3) (c k : Chip), c = s.chip.begin t → c.live .app = true →
    (∀ e, k = c.canError n e → (k.is (CAN_STAT_BO n) = false ∨ c.is (CAN_STAT_BO n) = true) → Gives (.canBusError t n e) s t k) ∧
    (∀ e, k = c.canError n e → k.is (CAN_STAT_BO n) = true → c.is (CAN_STAT_BO n) = false → Gives (.canBusError t n e) s t (k.canTimeLost n)) ∧
    (c.is (CAN_STAT_BO n) = false → Gives (.busOffRecovery t n) s t c) ∧
    (c.is (CAN_STAT_BO n) = true →
      k = ((c.put (CAN_STAT_BO n) false).set (CAN_STAT_BO_SEQ n) 128).setCc n (fun x => { x with tec := 0, rec_ := 0 }) →
      Gives (.busOffRecovery t n) s t ((((k.canShow n).canIr n 16).endCondition (0x0C01 + 16 * n)).canSelect n)) ∧
    (∀ b, (c.cc n).sel = some b → c.canOnBus n = true → bitAt (c.cc n).cancel b = false →
      Gives (.arbitrationLost t n) s t ((c.setCc n (fun x => { x with sel := none })).put (CAN_STAT_BUSY n) true)) ∧
    (∀ b, (c.cc n).sel = some b → c.canOnBus n = true → bitAt (c.cc n).cancel b = true →
      Gives (.arbitrationLost t n) s t (((c.txCancelled n b).setCc n (fun x => { x with sel := none })).put (CAN_STAT_BUSY n) true)) ∧
    ((c.cc n).sel = none → Gives (.arbitrationLost t n) s t c) ∧
    (c.is (CAN_CTRL_EN n) = true → c.is (CAN_STAT_INIT_ACK n) = false →
      Gives (.busSynchronisation t n) s t ((c.setCc n (fun x => { x with synced := true })).canSelect n)) ∧
    (c.is (CAN_STAT_INIT_ACK n) = true → Gives (.busSynchronisation t n) s t c)) ∧
  (∀ (s : State) (t : Nat) (n : Fin 3) (c : Chip), c = s.chip.begin t → c.live .app = true →
    Gives (.initRequest t n false) s t (((c.put (CAN_CTRL_INIT n) true).put (CAN_STAT_BUSY n) false).canEnterInit n) ∧
    Gives (.initRequest t n true) s t ((c.put (CAN_CTRL_INIT n) true).put (CAN_STAT_BUSY n) true) ∧
    (c.is (CAN_CTRL_INIT n) = true → Gives (.initEntered t n) s t (c.canEnterInit n)) ∧
    (c.is (CAN_CTRL_INIT n) = false → Gives (.initEntered t n) s t c) ∧
    (c.is (CAN_STAT_INIT_ACK n) = true → c.canInitOk n = true → Gives (.initClear t n) s t
      ((((c.put (CAN_CTRL_INIT n) false).put (CAN_STAT_INIT_ACK n) false).canShowLayout n).setCc n (fun x => { x with synced := false }))) ∧
    (c.is (CAN_STAT_INIT_ACK n) = true → c.canInitOk n = false → Gives (.initClear t n) s t c) ∧
    (c.is (CAN_STAT_INIT_ACK n) = false → Gives (.initClear t n) s t (c.put (CAN_CTRL_INIT n) false)) ∧
    Gives (.modeChange t n) s t ((c.setCc n (fun x => { x with mode := c.get (CAN_CTRL_MODE n) })).canSelect n) ∧
    ((c.cc n).wraps < c.now / 1000 / 2 ^ 32 → Gives (.timestampWrap t n) s t
      ((c.canIr n 19).setCc n (fun x => { x with wraps := c.now / 1000 / 2 ^ 32 }))) ∧
    (c.now / 1000 / 2 ^ 32 ≤ (c.cc n).wraps → Gives (.timestampWrap t n) s t c))

/-- Transmit requests and buffers (R282 to R287): TX_GO of no buffer on a busy bus and TX_ABORT of none do nothing; a release of more elements than the FIFO or the
event FIFO holds, or of none, takes the watermark and sets WR_ERR, and one within frees them; a lock sets the buffer's lock bit and reads its first word,
and a release of a locked buffer without a held frame clears lock and NEW and reads its last word. -/
def Obligations.CanBuffers : Prop :=
  ∀ (s : State) (t : Nat) (n : Fin 3) (c k : Chip), c = s.chip.begin t → c.live .app = true →
    (∀ v : Word, (c.cc n).sel ≠ none → k = c.forBits v.toNat (fun c b => c.txRequest n b) (c.get (CAN_MRCFG1_NTX n)) → (k.cc n).sel ≠ none →
      Gives (.txGo t n v) s t k) ∧
    (∀ (v : Word) st, Gives (.txAbort t n v st) s t
      (c.forBits v.toNat (fun c b => c.txAbortOne n b st) (c.get (CAN_MRCFG1_NTX n)))) ∧
    (∀ (m : Fin 2) (v : Word), k = c.set (CAN_RXF_REL_WM n m) (bitsOf v.toNat 8 6) →
      (bitsOf v.toNat 0 6 = 0 ∨ k.get (CAN_RXF_STAT_FILL n m) < bitsOf v.toNat 0 6 →
        Gives (.fifoRelease t n m v) s t (k.put (CAN_STAT_WR_ERR n) true)) ∧
      (0 < bitsOf v.toNat 0 6 → bitsOf v.toNat 0 6 ≤ k.get (CAN_RXF_STAT_FILL n m) →
        ∀ r, r = k.set (CAN_RXF_STAT_FILL n m) (k.get (CAN_RXF_STAT_FILL n m) - bitsOf v.toNat 0 6) →
        Gives (.fifoRelease t n m v) s t ((r.set (CAN_RXF_STAT_GET n m)
          ((r.get (CAN_RXF_STAT_GET n m) + bitsOf v.toNat 0 6) % max (k.fifoDepth n m) 1)).put (CAN_RXF_STAT_FULL n m) false))) ∧
    (∀ v : Word, k = c.set (CAN_TEV_REL_WM n) (bitsOf v.toNat 8 6) → bitsOf v.toNat 0 6 = 0 →
      Gives (.tevRelease t n v) s t (k.put (CAN_STAT_WR_ERR n) true)) ∧
    (∀ (v : Word) r, k = c.set (CAN_TEV_REL_WM n) (bitsOf v.toNat 8 6) → 0 < bitsOf v.toNat 0 6 →
      bitsOf v.toNat 0 6 ≤ k.get (CAN_TEV_STAT_FILL n) →
      r = k.set (CAN_TEV_STAT_FILL n) (k.get (CAN_TEV_STAT_FILL n) - bitsOf v.toNat 0 6) →
      Gives (.tevRelease t n v) s t ((r.set (CAN_TEV_STAT_GET n)
        ((r.get (CAN_TEV_STAT_GET n) + bitsOf v.toNat 0 6) % max (c.get (CAN_MRCFG1_NTEV n)) 1)).put (CAN_TEV_STAT_FULL n) false)) ∧
    (∀ b : Fin 32, b.val < c.get (CAN_MRCFG1_NBUF n) → Gives (.bufferLock t n b) s t
      { c.putBit (CAN_RXB_LOCK_BITS n) b true with resp := some (some (c.bufWord n b 0)) }) ∧
    (∀ b : Fin 32, c.bit (CAN_RXB_LOCK_BITS n) b = true → bitAt (c.cc n).shadow b = false → Gives (.bufferRelease t n b) s t
      { (c.putBit (CAN_RXB_LOCK_BITS n) b false).putBit (CAN_RXB_NEW_BITS n) b false with
        resp := some (some (c.bufWord n b (2 + canSize (c.get (CAN_MRCFG2_SZBUF n)) / 4))) }) ∧
    (∀ b : Fin 32, c.bit (CAN_RXB_LOCK_BITS n) b = false → Gives (.bufferRelease t n b) s t
      { c with resp := some (some (c.bufWord n b (2 + canSize (c.get (CAN_MRCFG2_SZBUF n)) / 4))) }) ∧
    (∀ v : Word, Gives (.bufferUnlock t n v) s t (c.forBits v.toNat (fun c b => c.bufRelease n b) 32))

/-! ### Ethernet (spec/13) -/

/-- Frames and links (R295, R296, R298): a frame with a bad FCS or a length outside 64 to 1,522 bytes is dropped and counted, and a MAC
control frame counts as received and goes nowhere; a link that comes up shows its speed and ends F0D02, and one that goes down raises F0D01,
and F0D02 with it where the other is down; an address not seen for AGE_S leaves the table, and the number of entries is shown. The host's
protocols (R298, R299, R315 to R317, R390): ARP and ICMP are answered for the host's own address over a link that is up, and for no other; a
UDP datagram whose header is not right is counted as dropped, and a good one is delivered; a TCP connection finds the lowest free session,
or is reset where all four are open, and closes with its session, also after CON_IDLE without a line. -/
def Obligations.NetworkPorts : Prop :=
  (∀ (s : State) (t : Nat) (p : Fin 2) (c k : Chip), c = s.chip.begin t → c.live .app = true →
    (∀ ok f, c.portUp p = false → Gives (.ethFrameReceived t p ok f) s t c) ∧
    (∀ ok (f : List Byte), c.portUp p = true → (ok = false ∨ f.length < 60 ∨ 1518 < f.length) →
      Gives (.ethFrameReceived t p ok f) s t (c.incSat (ETH_PORT_CNT1_DROP p))) ∧
    (∀ f : List Byte, c.portUp p = true → 60 ≤ f.length → f.length ≤ 1518 → beAt f 12 2 = 0x8808 →
      Gives (.ethFrameReceived t p true f) s t (c.incWrap (ETH_PORT_CNT0_RX p))) ∧
    (∀ f : List Byte, c.portUp p = true → 60 ≤ f.length → f.length ≤ 1518 → beAt f 12 2 ≠ 0x8808 →
      k = (c.incWrap (ETH_PORT_CNT0_RX p)).learnSource (beAt f 6 6) p → k.forwardTo p (beAt f 0 6) = (true, false) →
      k.portUp (1 - p.val) = true → Gives (.ethFrameReceived t p true f) s t (k.emit (.eth (1 - p.val) f))) ∧
    (∀ sp : Fin 3, Gives (.linkStatusChange t p true sp) s t
      (((c.put (ETH_PORT_STAT_LINK p) true).set (ETH_PORT_STAT_SPEED p) sp).endCondition 0x0D02)) ∧
    (∀ sp : Fin 3, c.is (ETH_PORT_STAT_LINK p) = false → Gives (.linkStatusChange t p false sp) s t c) ∧
    (∀ sp : Fin 3, c.is (ETH_PORT_STAT_LINK p) = true → (c.gptpPort == p.val) = false →
      k = (c.put (ETH_PORT_STAT_LINK p) false).raiseArg 0x0D01 0 p →
      Gives (.linkStatusChange t p false sp) s t (if k.is (ETH_PORT_STAT_LINK (1 - p.val)) then k else k.raise 0x0D02)) ∧
    (∀ mac l, l = c.eth.table.filter (fun e => !(e.mac == mac && decide (c.get ETH_SW_AGE_S * 1000000000 ≤ c.now - e.seen))) →
      Gives (.addressAgeOut t mac) s t (({ c with eth := { c.eth with table := l } } : Chip).set ETH_SW_ENTRIES l.length))) ∧
  (∀ (s : State) (t : Nat) (c : Chip), c = s.chip.begin t → c.live .app = true →
    (∀ (p : Fin 2) mac ip, c.portUp p = true → c.ownIp ip = true → Gives (.arpRequest t p mac ip) s t (c.emit (.arp p mac ip))) ∧
    (∀ (p : Fin 2) mac ip, c.ownIp ip = false → Gives (.arpRequest t p mac ip) s t c) ∧
    (∀ src dst data, c.portUp 0 = true → c.ownIp dst = true → Gives (.icmpEcho t src dst data) s t (c.emit (.icmp dst src data))) ∧
    (∀ src dst data, c.ownIp dst = false → Gives (.icmpEcho t src dst data) s t c) ∧
    (∀ src sport dst ck (d : List Byte), c.hostUp = true → c.ownIp dst = true → (d.length < 8 ∨ ck = false ∨ leAt d 0 2 ≠ 0x5643) →
      Gives (.udpDatagram t src sport dst ck d) s t (c.incSat ETH_DROP_OTHER)) ∧
    (∀ src sport dst (d : List Byte), c.hostUp = true → c.ownIp dst = true → 8 ≤ d.length → leAt d 0 2 = 0x5643 → leAt d 2 1 = 1 →
      leAt d 6 2 + 8 = d.length → (leAt d 3 1 = 0 ∨ leAt d 3 1 = 4 ∨ leAt d 3 1 = 7) → Gives (.udpDatagram t src sport dst true d) s t
        (c.emit (.deliver src sport (leAt d 3 1) (leAt d 4 1) (leAt d 5 1) (d.drop 8)))) ∧
    (∀ ip port, (∀ k, 2 ≤ k → k ≤ 5 → c.sessOpen k = true) → Gives (.tcpConnect t ip port) s t (c.emit (.tcp 6 false))) ∧
    (∀ ip port, c.sessOpen 2 = false → c.hostUp = true → c.bit SYS_FRST_STAT_BUSY 9 = false → Gives (.tcpConnect t ip port) s t
      (((c.windowClear 10).emit (.tcp 2 true)).sessOpens 2 { peerIp := ip, peerPort := port })) ∧
    (∀ k : Fin 4, c.sessOpen (k.val + 2) = false → Gives (.tcpClose t k) s t c) ∧
    (∀ k : Fin 4, Gives (.tcpClose t k) s t (c.sessCloses (k.val + 2) "peer")) ∧
    (∀ (k : Fin 4) x, c.sess[k.val + 2]? = some x → c.sessOpen (k.val + 2) = true → c.get CON_CFG_CON_IDLE * 1000000000 ≤ c.now - x.lastLine →
      Gives (.conIdleTimeout t k) s t (c.sessCloses (k.val + 2) "idle")) ∧
    (∀ (k : Fin 4) x, c.sess[k.val + 2]? = some x → c.now - x.lastLine < c.get CON_CFG_CON_IDLE * 1000000000 →
      Gives (.conIdleTimeout t k) s t c))

/-! ### Time (spec/13) -/

/-- gPTP messages (R303, R304): a Sync of the domain on the gPTP port is measured at its ingress less the receive latency and the path
delay; an Announce of another grandmaster disqualifies the reference, and of the same one keeps it; Pdelay requests go out of the gPTP port
and are answered; a response to the outstanding request gives the path delay, and AS_CAPABLE where it is within the threshold. Messages of
another domain or port do nothing. References and TB_VEH (R304 to R311): a gPTP reference whose messages are late is disqualified, and a CAN
reference after three periods without VEH_TIME; references that are ready qualify and the best is selected; a servo at its limit for 10 s
raises F0D06 once; selection goes on 5 s after a reset of ETHS; TSYN_PPS is low in the first 100 ms of each second of a set TB_VEH. -/
def Obligations.TimeMessages : Prop :=
  (∀ (s : State) (t : Nat) (p : Fin 2) (c : Chip), c = s.chip.begin t → c.live .app = true →
    (∀ dom i o (li : Fin 6), dom ≠ c.get TSYN_GPTP_DOMAIN → Gives (.syncReceived t p dom i o li) s t c) ∧
    (∀ i o (li : Fin 6) k, c.gptpOn p = true → c.tsyn.gptp.meas = [] →
      k = c.setRef 3 (fun r => { r with interval := 1000000000 / 2 ^ (5 - li.val) }) →
      Gives (.syncReceived t p (c.get TSYN_GPTP_DOMAIN) i o li) s t
        (k.measure 3 (i - c.get TSYN_LAT_RX_LAT - c.get TSYN_PDELAY_PD) o true k.gptpAble)) ∧
    (∀ dom gm iv, c.gptpOn p = false → Gives (.announceReceived t p dom gm iv) s t c) ∧
    (∀ gm iv, c.gptpOn p = true → c.tsyn.gm = none → Gives (.announceReceived t p (c.get TSYN_GPTP_DOMAIN) gm iv) s t
      (({ c with tsyn := { c.tsyn with gm := some (gm, c.now, iv) } } : Chip).set64 TSYN_GM_LO_ID TSYN_GM_HI_ID gm)) ∧
    (c.gptpOn c.gptpPort = true → c.tsyn.reqAt = none → c.tsyn.lost ≤ 9 → Gives (.pdelayReqSend t) s t
      (({ c with tsyn := { c.tsyn with reqAt := some (c.now + c.get TSYN_LAT_TX_LAT) } } : Chip).emit (.gptp c.gptpPort 1 []))) ∧
    (c.gptpOn c.gptpPort = false → Gives (.pdelayReqSend t) s t c) ∧
    (∀ i, c.gptpOn p = true → Gives (.pdelayReqReceived t p i) s t (c.emit (.gptp p 2 (leBytes 8 (i - c.get TSYN_LAT_RX_LAT))))) ∧
    (∀ i, c.gptpOn p = false → Gives (.pdelayReqReceived t p i) s t c) ∧
    (∀ r o i, c.tsyn.reqAt = none → Gives (.pdelayRespReceived t p r o i) s t c) ∧
    (∀ (r o i : Nat) t1, c.tsyn.reqAt = some t1 → c.gptpOn p = true → c.tsyn.lastResp = none → ∀ d : Int,
      d = (((i - c.get TSYN_LAT_RX_LAT : Nat) : Int) - t1 - ((o : Int) - r)) / 2 → d ≤ c.get TSYN_GPTP_PD_THRESH * 10 →
      Gives (.pdelayRespReceived t p r o i) s t
        ((({ c with tsyn := { c.tsyn with reqAt := none, lost := 0, lastResp := some (o, i - c.get TSYN_LAT_RX_LAT) } } : Chip).set
          TSYN_PDELAY_PD (satNat 32 d.toNat)).put TSYN_STAT_AS_CAPABLE true))) ∧
  (∀ (s : State) (t : Nat) (c : Chip), c = s.chip.begin t → c.live .app = true →
    (c.receiptLate = true → Gives (.receiptTimeout t) s t (c.disqualify 3)) ∧
    (c.receiptLate = false → Gives (.receiptTimeout t) s t c) ∧
    (c.refReady 3 = true → (c.put TSYN_STAT_Q_GPTP true).refReady 2 = false →
      Gives (.referenceQualified t) s t (c.put TSYN_STAT_Q_GPTP true).selectBest) ∧
    (c.refReady 3 = false → c.refReady 2 = true → Gives (.referenceQualified t) s t (c.put TSYN_STAT_Q_CAN true).selectBest) ∧
    (∀ a, c.tsyn.satSince = some a → 10000000000 ≤ c.now - a → c.inForce 0x0D06 = false → Gives (.servoSaturation t) s t (c.raise 0x0D06)) ∧
    (c.tsyn.satSince = none → Gives (.servoSaturation t) s t c) ∧
    (∀ a, c.tsyn.suspend = some a → 5000000000 ≤ c.now - a → c.bit SYS_FRST_STAT_BUSY 8 = false →
      Gives (.ethsSelectionResume t) s t (({ c with tsyn := { c.tsyn with suspend := none } } : Chip).selectBest)) ∧
    (∀ a, c.tsyn.suspend = some a → c.now - a < 5000000000 → Gives (.ethsSelectionResume t) s t c) ∧
    (∀ m l, c.tsyn.can.meas = m :: l → 3 * c.get VM_VT_PERIOD_VALUE * 1000000 < c.now - m.1 → Gives (.vehTimeGap t) s t (c.disqualify 2)) ∧
    (c.tsyn.can.meas = [] → Gives (.vehTimeGap t) s t c) ∧
    (∀ i, i ∈ [Instr.ppsStart t, .ppsEnd t] → Gives i s t { c with pins := { c.pins with
      pps := !(c.is TSYN_CFG_PPS_EN && c.is TSYN_STAT_SET && decide (c.tbVeh % 1000000000 < 100000000)) } }))

/-! ### Vehicle messages (spec/14) -/

/-- DOOR_CMD (R319 to R323): a chip that is not the active, a path that is down and another door's address are not heard; a command of the
wrong form is refused with reason 4, one of a path that may not command with reason 5; a good one of an allowed path is offered to the queue
of its source, and what the offer answers goes out. DOOR_STATUS and INTERLOCK_STATUS (R324, R325): a chip that is not the active sends
neither; DOOR_STATUS goes out once for each slot of 20 ms of TB_VEH, offset by 0.5 ms for each door address, and INTERLOCK_STATUS on a
change or after 100 ms, with its ALIVE counting. -/
def Obligations.VehicleMessages : Prop :=
  (∀ (s : State) (t : Nat) (p : Path) (d : List Byte) (c : Chip), c = s.chip.begin t → c.live .app = true →
    (∀ addr, (c.isActive = false ∨ c.pathUp p = false) → Gives (.doorCmd t p addr d) s t c) ∧
    (∀ addr, addr ≠ c.get VM_DOOR_ADDR_VALUE → addr ≠ 31 → Gives (.doorCmd t p addr d) s t c) ∧
    (∀ addr, addr = c.get VM_DOOR_ADDR_VALUE → addr ≠ 31 → c.isActive = true → c.pathUp p = true →
      (doorCmdOk d = false → Gives (.doorCmd t p addr d) s t (c.refuseAck p (leAt d 0 2) 0 4)) ∧
      (doorCmdOk d = true → c.allowed p = false → Gives (.doorCmd t p addr d) s t (c.refuseAck p (leAt d 0 2) 0 5)) ∧
      (∀ q op k a, doorCmdOk d = true → c.allowed p = true → c.pathInSet p = true → c.queueOf (c.vehicleSource p) 128 = some q →
        doorOpOf (leAt d 2 1) = some op → op ≠ .doorIsolate → op ≠ .doorUnisolate →
        c.offer q (c.vehicleSource p) (leAt d 0 2) (crc32 d) (c.opMotion op) { op := op, a := leAt d 3 1, b := 0, v := pathCode p } (.vehicle [p]) =
          (k, a) →
        Gives (.doorCmd t p addr d) s t
          (match a with | .refused r _ => k.refuseAck p (leAt d 0 2) 0 r | .replay w => k.sendAck p (ackReplay w.reply) | _ => k)))) ∧
  (∀ (s : State) (t off k : Nat) (b : List Byte) (c : Chip), c = s.chip.begin t → c.live .app = true → off = c.get VM_DOOR_ADDR_VALUE * 500000 →
    k = (c.tbVeh - off) / 20000000 → b = c.interlockBytes →
    (c.isActive = false → Gives (.doorStatus t) s t c ∧ Gives (.interlockStatus t) s t c) ∧
    (c.isActive = true → off ≤ c.tbVeh → c.msg.dsK ≠ some k → Gives (.doorStatus t) s t
      (({ c with msg := { c.msg with dsK := some k } } : Chip).sendStatus 3 0x60 (c.doorStatusBytes k))) ∧
    (c.msg.dsK = some k → Gives (.doorStatus t) s t c) ∧
    (c.isActive = true → b ≠ c.msg.ilk → Gives (.interlockStatus t) s t
      (({ c with msg := { c.msg with ilk := b, ilkAt := some c.now, ilkAlive := (c.msg.ilkAlive + 1) % 256 } } : Chip).sendStatus 2 0x40
        (b ++ leBytes 1 c.msg.ilkAlive ++ leBytes 2 0))) ∧
    (∀ a, b = c.msg.ilk → c.msg.ilkAt = some a → c.now - a < 100000000 → Gives (.interlockStatus t) s t c))

/-- The ledger's export (R330 to R333): requests that the chip does not hear do nothing; one of the wrong form is refused with its reason; START without a session
opens it, ACKN of the session's path moves it on and acknowledges the ledger, STOP of that path closes it; without a session nothing is sent or
sent again; a session whose acknowledgements have stood for RTO sends from the first unacknowledged record. -/
def Obligations.LedgerExport : Prop :=
  ∀ (s : State) (t : Nat) (p : Path) (addr : Nat) (d : List Byte) (c : Chip), c = s.chip.begin t → c.live .app = true →
    (c.exportHears p addr = false → Gives (.exportStart t p addr d) s t c ∧ Gives (.exportAckn t p addr d) s t c ∧
      Gives (.exportStop t p addr d) s t c) ∧
    (∀ r, c.exportHears p addr = true → c.exportRefusal p 1 d = some r → Gives (.exportStart t p addr d) s t (c.refuseAck p (leAt d 0 2) 4 r)) ∧
    (c.exportHears p addr = true → c.exportRefusal p 1 d = none → c.msg.exp = none → Gives (.exportStart t p addr d) s t
      ((c.exportAccept p (leAt d 0 2)).exportOpen p (leAt d 3 1) (leAt d 4 6))) ∧
    (∀ x q, c.exportHears p addr = true → exportReqOk 2 d = true → c.allowed p = true → c.msg.exp = some x → x.path = p → q = leAt d 4 6 →
      x.una ≤ q → (∃ h, x.high = some h ∧ q ≤ h) → Gives (.exportAckn t p addr d) s t
        (({ c with msg := { c.msg with exp := some { x with una := q + 1, next := max x.next (q + 1), lastAckn := c.now,
                                                            lastAdv := c.now } } } : Chip).ledgerAck q)) ∧
    (∀ x, c.exportHears p addr = true → c.exportRefusal p 3 d = none → c.msg.exp = some x → x.path = p →
      Gives (.exportStop t p addr d) s t ((c.exportAccept p (leAt d 0 2)).exportClose (some 1))) ∧
    (c.msg.exp = none → Gives (.exportDataSend t) s t c ∧ Gives (.exportRetransmit t) s t c) ∧
    (∀ x, c.msg.exp = some x → c.isActive = true → c.pathUp x.path = true → c.ledg.ring = [] → x.endSent = false →
      Gives (.exportDataSend t) s t (({ c with msg := { c.msg with exp := some { x with endSent := true } } } : Chip).sendEnd x.path 0)) ∧
    (∀ x, c.msg.exp = some x → c.isActive = true → x.una < x.next → c.get VM_EXP_RTO_VALUE * 1000000 ≤ c.now - x.lastAdv →
      Gives (.exportRetransmit t) s t { c with msg := { c.msg with exp := some { x with next := x.una, lastAdv := c.now, endSent := false } } })

/-- Messages from the vehicle and to it (R327 to R329): SPEED_IN of its path with VALID and a new ALIVE gives the speed to voter and wheel function; one whose
ALIVE has not changed only stands as heard; VEH_TIME of its controller and identifier is measured at its start of frame, and of another is not;
OCCUPANCY older than 2 ms is discarded. -/
def Obligations.VehicleSpeedTime : Prop :=
  ∀ (s : State) (t : Nat) (d : List Byte) (c : Chip), c = s.chip.begin t → c.live .app = true →
    (∀ p id, c.isActive = false → Gives (.speedIn t p id d) s t c) ∧
    (∀ n, c.isActive = true → c.pathUp (.can n) = true → c.isSpeedPath (.can n) = true → d.length = 8 → leAt d 4 1 % 2 = 1 →
      c.msg.spAlive ≠ some (leAt d 5 1) → Gives (.speedIn t (.can n) (c.get VM_SPEED_ID_VALUE) d) s t
        { c with msg := { c.msg with spAlive := some (leAt d 5 1) }
                 vote := { c.vote with speedIn := some (signedOf 32 (leAt d 0 4), c.now) }
                 wheel := { c.wheel with can := some (signedOf 32 (leAt d 0 4), c.now) } }) ∧
    (∀ n, c.isActive = true → c.pathUp (.can n) = true → c.isSpeedPath (.can n) = true → d.length = 8 →
      c.msg.spAlive = some (leAt d 5 1) → Gives (.speedIn t (.can n) (c.get VM_SPEED_ID_VALUE) d) s t
        { c with msg := { c.msg with spAlive := some (leAt d 5 1) } }) ∧
    (∀ (n : Fin 3) id sof, id ≠ c.get VM_TIME_ID_VALUE → Gives (.vehTime t n id sof d) s t c) ∧
    (∀ (n : Fin 3) sof k, c.isActive = true → c.pathUp (.can n) = true → c.is TSYN_CFG_CAN_EN = true → c.get TSYN_CFG_CAN_CTRL = n.val →
      d.length = 8 → c.tsyn.can.meas = [] → k = c.setRef 2 (fun r => { r with interval := c.get VM_VT_PERIOD_VALUE * 1000000 }) →
      Gives (.vehTime t n (c.get VM_TIME_ID_VALUE) sof d) s t (k.measure 2 sof (leAt d 0 8) true true)) ∧
    Gives (.occupancyDiscard t) s t
      { c with nos := { c.nos with occ := c.nos.occ.filter (fun o => decide (c.now - o.2.1 ≤ 2000000)) } }

/-! ### The lichen pair (spec/15) -/

/-- Frames of the pair link (R335 to R356): a frame that is not taken (`pairFrame`) has no other effect; RENEW to a chip that holds the
lease raises F0309, and of a newer epoch to a standby sets epoch and lease timer; MIRROR states go to a standby and its acknowledgements to
the active; PAIR_HEALTH goes to the active; SAFE sets PAIR_SAFE; TRANSFER makes a fit standby claim; HO_REQ is answered with HO_ACK by a
healthy standby; HO_ACK in a handover lets the active hand over. HELLO (R336, R343, R344): the peer's words and side are kept with the
offset of its clock; a chip in the election looks at the election again. -/
def Obligations.PairFrames : Prop :=
  (∀ (s : State) (t : Nat) (h : PairHdr) (c k : Chip) (ok : Bool), c = s.chip.begin t → c.live .app = true → c.pairFrame h = (k, ok) →
    (∀ f st ch i, ok = false → Gives (.renew t h) s t k ∧ Gives (.mirror t h f) s t k.settle ∧ Gives (.health t h st ch) s t k.settle ∧
      Gives (.hello t h i) s t k.settle ∧ Gives (.hoReq t h) s t k ∧ Gives (.hoAck t h) s t k.settle ∧ Gives (.transfer t h) s t k ∧
      Gives (.safe t h) s t k.settle) ∧
    (ok = true → k.is PAIR_STAT_HELD = true → Gives (.renew t h) s t (k.raise 0x0309)) ∧
    (∀ m, ok = true → k.is PAIR_STAT_HELD = false → k.isStandby = true → serialNewer 32 h.epoch (k.get PAIR_PEER_EPOCH_EPOCH) = true →
      m = (k.set PAIR_PEER_EPOCH_EPOCH h.epoch).set PAIR_EPOCH_EPOCH h.epoch →
      Gives (.renew t h) s t (({ m with pair := { m.pair with renewRx := some m.now, epochAt := m.now } } : Chip).splitOver)) ∧
    (∀ b, ok = true → k.isStandby = true → Gives (.mirror t h (.state b)) s t (k.mirrorApply h b).settle) ∧
    (∀ a, ok = true → k.isActive = true → Gives (.mirror t h (.ack a)) s t (k.mirrorAcked a).settle) ∧
    (∀ st ch, ok = true → k.isActive = true → Gives (.health t h st ch) s t (k.peerHealth (min st 2) ch).settle) ∧
    (ok = true → k.isStandby = true → k.healthShow.get PAIR_STAT_OWN_HEALTH = 0 → Gives (.hoReq t h) s t (k.healthShow.sendPair 6 [])) ∧
    (ok = true → k.is PAIR_HO_STAT_BUSY = true → k.get PAIR_STAT_PEER_HEALTH = 0 → Gives (.hoAck t h) s t
      ((((((k.incSat PAIR_CNT_HANDOVERS).hoFinish 0).mirrorSend).sendPair 7 []).release false).settle)) ∧
    (ok = true → k.is PAIR_HO_STAT_BUSY = true → k.get PAIR_STAT_PEER_HEALTH ≠ 0 → Gives (.hoAck t h) s t (k.hoFinish 2).settle) ∧
    (ok = true → k.isStandby = true → k.get PAIR_STAT_OWN_HEALTH ≠ 2 → Gives (.transfer t h) s t (k.claim 1)) ∧
    (ok = true → Gives (.safe t h) s t (k.enterPairSafe false).settle)) ∧
  (∀ (s : State) (t : Nat) (h : PairHdr) (i : HelloInfo) (c k m : Chip), c = s.chip.begin t → c.live .app = true → c.pairFrame h = (k, true) →
    m = ({ k.pairOffset h i with pair := { (k.pairOffset h i).pair with peer := some (i, h.side), helloRx := some (h.tb, (k.pairOffset h i).now) } } : Chip) →
    m.sameSide = false → (m.get PAIR_STAT_ROLE = 0 → Gives (.hello t h i) s t m.elect.settle) ∧
    (m.get PAIR_STAT_ROLE = 2 → Gives (.hello t h i) s t m.settle))

/-- The lease (R337 to R342): a holder whose renewal is due renews where its conditions have held for two cycles and no fault of S5 is in force, and else
releases it; after 300 us without a renewal it releases; a standby whose lease timer has run claims where LEASE_IN stands still and its health allows,
and waits in SPLIT where it toggles; LEASE_IN is shown as it is; a claim that STEER_FB has not confirmed in T_STEER is released. -/
def Obligations.Lease : Prop :=
  ∀ (s : State) (t : Nat) (c : Chip), c = s.chip.begin t → c.live .app = true →
    (c.is PAIR_STAT_HELD = true → 100000 ≤ c.now - c.pair.renewTx → 2 ≤ c.pair.okCycles → c.flt.inForce.any (fun e => e.sev == 5) = false →
      Gives (.leaseRenewal t) s t (({ c with pair := { c.pair with renewTx := c.now } } : Chip).sendPair 1 [])) ∧
    (c.is PAIR_STAT_HELD = true → 100000 ≤ c.now - c.pair.renewTx → c.pair.okCycles < 2 → Gives (.leaseRenewal t) s t (c.release true)) ∧
    (c.is PAIR_STAT_HELD = true → 300000 ≤ c.now - c.pair.renewTx → Gives (.leaseRelease t) s t (c.release true)) ∧
    (c.is PAIR_STAT_HELD = false → Gives (.leaseRenewal t) s t c ∧ Gives (.leaseRelease t) s t c) ∧
    (c.leaseOver = true → c.is PAIR_STAT_SPLIT = false → c.is PAIR_STAT_LEASE_IN = true → Gives (.leaseExpiry t) s t c.splitWait) ∧
    (c.leaseOver = true → c.is PAIR_STAT_SPLIT = false → c.is PAIR_STAT_LEASE_IN = false → c.get PAIR_STAT_OWN_HEALTH ≤ 1 →
      Gives (.leaseExpiry t) s t (c.claim 0)) ∧
    (c.leaseOver = false → Gives (.leaseExpiry t) s t c) ∧
    Gives (.leaseInToggling t) s t (c.put PAIR_STAT_LEASE_IN true) ∧
    (c.is PAIR_STAT_LEASE_IN = true → Gives (.leaseInStopped t) s t
      (({ c with pair := { c.pair with idleSince := c.now } } : Chip).put PAIR_STAT_LEASE_IN false)) ∧
    (∀ a, c.pair.claimAt = some a → c.get PAIR_CFG_T_STEER * 1000 ≤ c.now - a → c.pins.steerFb = true →
      Gives (.steerTimeout t) s t ((c.release false).splitWait)) ∧
    (∀ a, c.pair.claimAt = some a → c.now - a < c.get PAIR_CFG_T_STEER * 1000 → Gives (.steerTimeout t) s t c)

/-- The pair's timers and messages (R335, R343, R346, R349, R355, R356, R358): the link is down after 200 us without a frame, on a standby with F0301 and the peer
absent; HELLO goes out except in PAIR_SAFE; an election that is over does nothing; a standby sends its health on the link and on CAN2; a missed MIRROR is
counted with F0304; a handover that may not begin shows its refusal; HO_ACK that is 1 ms late ends it with RESULT 5; a lane that fails is dropped once, with
F0302; in SPLIT a claim is tried again after its rest. -/
def Obligations.PairTimers : Prop :=
  ∀ (s : State) (t : Nat) (c k : Chip), c = s.chip.begin t → c.live .app = true →
    (c.is PAIR_STAT_LINK = true → 200000 ≤ c.now - c.pair.frameAt →
      k = (((c.put PAIR_STAT_LINK false).set PAIR_STAT_PEER_HEALTH 3).raise 0x0301).pairNote → k.isActive = false →
      Gives (.pairLinkDown t) s t (({ k with pair := { k.pair with work := [] } } : Chip).settle)) ∧
    (c.is PAIR_STAT_LINK = false → Gives (.pairLinkDown t) s t c.settle) ∧
    (c.get PAIR_STAT_ROLE = 3 → Gives (.helloSend t) s t c) ∧
    (c.get PAIR_STAT_ROLE ≠ 3 → Gives (.helloSend t) s t (c.sendPair 4 c.helloBytes)) ∧
    (c.pair.electSince = none → Gives (.electWaitExpiry t) s t c) ∧
    (∀ a, c.pair.electSince = some a → c.get PAIR_STAT_ROLE = 0 → c.paired = false → c.r74 = true → Gives (.electWaitExpiry t) s t (c.claim 3)) ∧
    (∀ a, c.pair.electSince = some a → c.get PAIR_STAT_ROLE = 0 → c.paired = true → c.is PAIR_STAT_LEASE_IN = true →
      Gives (.electWaitExpiry t) s t c.becomeStandby) ∧
    (c.isStandby = true → Gives (.healthSend t) s t (c.healthShow.sendPair 3 (leBytes 1 (c.healthShow.get PAIR_STAT_OWN_HEALTH) ++
      leBytes 2 (c.healthShow.get PAIR_HEALTH_CHECKS)))) ∧
    (c.isStandby = false → Gives (.healthSend t) s t c ∧ Gives (.pairHealth t) s t c ∧ Gives (.mirrorMissed t) s t c) ∧
    (c.isStandby = true → c.is (CAN_CTRL_EN 2) = true → Gives (.pairHealth t) s t
      (({ c with pair := { c.pair with alive := (c.pair.alive + 1) % 256 } } : Chip).sendCan 2 0xC0
        (leBytes 1 (c.get PAIR_STAT_OWN_HEALTH + 4 * c.get PAIR_STAT_SIDE) ++ leBytes 2 (c.get PAIR_HEALTH_CHECKS) ++ leBytes 1 c.pair.alive ++
          leBytes 4 (c.get PAIR_EPOCH_EPOCH)))) ∧
    (c.isStandby = true → c.is PAIR_STAT_LEASE_IN = true → 70000 ≤ c.now - c.pair.mirAt → Gives (.mirrorMissed t) s t
      (((c.incSat PAIR_LINK_CNT_MISSED).put PAIR_STAT_MIRROR_STALE true).raise 0x0304)) ∧
    (c.hoRefusal = 0 → Gives (.hoGo t) s t
      ((({ c with pair := { c.pair with hoSince := some c.now } } : Chip).put PAIR_HO_STAT_BUSY true).sendPair 5 [])) ∧
    (c.hoRefusal ≠ 0 → c.is PAIR_HO_STAT_BUSY = false → Gives (.hoGo t) s t (c.set PAIR_HO_STAT_RESULT c.hoRefusal)) ∧
    (∀ a, c.pair.hoSince = some a → c.is PAIR_HO_STAT_BUSY = true → 1000000 ≤ c.now - a → Gives (.hoAckTimeout t) s t (c.hoFinish 5).settle) ∧
    (∀ l : Fin 2, c.paired = true → (c.pair.dropped[l.val]?).getD true = false → Gives (.symbolLockLoss t l) s t
      ((({ c with pair := { c.pair with dropped := modAt c.pair.dropped l (fun _ => true) } } : Chip).put PAIR_STAT_ONE_LANE true).raise 0x0302)) ∧
    (∀ l : Fin 2, c.paired = false → Gives (.symbolLockLoss t l) s t c) ∧
    (c.is PAIR_STAT_SPLIT = false → Gives (.splitRetry t) s t c) ∧
    (c.leaseOver = true → c.is PAIR_STAT_SPLIT = true → c.is PAIR_STAT_LEASE_IN = false → 1000000 ≤ c.now - c.pair.idleSince →
      c.pair.triedAt = none → c.get PAIR_STAT_OWN_HEALTH ≤ 1 → Gives (.splitRetry t) s t (c.claim 0))

/-! ### Acceptance and the ledger (spec/16) -/

/-- The journal and the ledger's stores (R370 to R375, R382 to R385): an accepted entry whose copy the standby has not confirmed in 1.8 ms is voided with E503 and F0E02; a
resynchronisation that is complete ends with RESYNC and ALONE clear; the ledger's oldest record is stored where the energy gate lets it, and else the store
shows as gated, and an empty queue stores nothing; a state cell is written when a value has changed and 100 ms have passed since the last. -/
def Obligations.JournalAndLedger : Prop :=
  ∀ (s : State) (t : Nat) (c k : Chip), c = s.chip.begin t → c.live .app = true →
    (∀ (slot : Fin 4096) e, c.entryAt slot.val = some e → e.stored = true → e.visible = false → c.isActive = true → 1800000 ≤ c.now - e.tArr →
      Gives (.mirrorConfirmTimeout t slot) s t ((c.voidEntry slot 2 503).raise 0x0E02).settle) ∧
    (∀ slot : Fin 4096, c.entryAt slot.val = none → Gives (.mirrorConfirmTimeout t slot) s t c.settle) ∧
    (c.isActive = true → c.is WQM_STAT_RESYNC = true → c.is PAIR_STAT_LINK = true → c.pair.needSnap = false →
      k = { c with wqm := { c.wqm with resyncSince := none, resyncBreaks := 0,
                                       entries := c.wqm.entries.map (fun e => { e with doneMirrored := true }) } } →
      Gives (.resynchronisationEnd t) s t (((k.put WQM_STAT_RESYNC false).put PAIR_STAT_ALONE false).wqmShow 0)) ∧
    (c.is WQM_STAT_RESYNC = false → Gives (.resynchronisationEnd t) s t c) ∧
    (c.ledg.queue = [] → Gives (.ledgerRecordStore t) s t c) ∧
    (∀ r rest, c.ledg.queue = r :: rest → c.gateOpen .ledger = true →
      Gives (.ledgerRecordStore t) s t (({ c with ledg := { c.ledg with queue := rest } } : Chip).storeRecord r)) ∧
    (∀ r rest, c.ledg.queue = r :: rest → c.gateOpen .ledger = false → Gives (.ledgerRecordStore t) s t (c.put SUP_STATUS_STORE_GATED true)) ∧
    (c.ledg.cellDirty = true → c.ledg.cellAt = none → c.gateOpen .stateCell = true → Gives (.stateCellWrite t) s t c.writeCell) ∧
    (∀ a, c.ledg.cellAt = some a → c.now - a < 100000000 → Gives (.stateCellWrite t) s t c) ∧
    (c.sup.waiting = [] → c.cfg.repair = none → c.sys.frst = [] → Gives (.gatedStoreStart t) s t c.gatedShow.settle) ∧
    (∀ w rest, c.sup.waiting = w :: rest → c.gateOpen w.kind = true → Gives (.gatedStoreStart t) s t ((c.startStore w).gatedShow.settle))

/-! ### The fault manager (spec/21) -/

/-- The manager takes the raise of highest severity, then of lowest code, counts it, and coalesces it where its code is known, handles it where no
handling runs, suspends a handling of lower severity for it, queues it in a FIFO that holds less than 16, and else keeps its code in FLT_OVF, counts
that, records it and raises F0230 (R476 to R481). With nothing raised it does nothing but look at vision. -/
def Obligations.FaultTaken : Prop :=
  ∀ (s : State) (t : Nat) (c k : Chip) (r : Raise) (h : Handling), c = s.chip.begin t → c.live .app = true →
    h = { code := r.code, sev := r.sev, esc := r.esc, func := r.func, since := r.at_, last := r.at_, count := 1, detail := r.detail } →
    k = ({ c with flt := { c.flt with inbox := c.flt.inbox.erase r } } : Chip).incWrap FLT_RAISED_N →
    (c.flt.inbox = [] → Gives (.faultTake t) s t c.visionCheck.settle) ∧
    (c.nextRaise = some r →
      (k.fltKnown r.code = true → Gives (.faultTake t) s t (k.coalesce r.code r.at_).visionCheck.settle) ∧
      (k.fltKnown r.code = false → c.flt.cur = none → Gives (.faultTake t) s t (k.handle h).visionCheck.settle) ∧
      (∀ x, k.fltKnown r.code = false → c.flt.cur = some x → x.sev < r.sev → Gives (.faultTake t) s t
        ((({ k with flt := { k.flt with susp := x :: k.flt.susp } } : Chip).handle h).visionCheck.settle)) ∧
      (∀ x, k.fltKnown r.code = false → c.flt.cur = some x → r.sev ≤ x.sev → c.flt.fifo.length < 16 → Gives (.faultTake t) s t
        ((({ k with flt := { k.flt with fifo := k.flt.fifo ++ [h] } } : Chip).fltStat).visionCheck.settle)) ∧
      (∀ x, k.fltKnown r.code = false → c.flt.cur = some x → r.sev ≤ x.sev → 16 ≤ c.flt.fifo.length → Gives (.faultTake t) s t
        ((((((k.faultRecord r.code r.sev (if r.esc then 5 else 1) 1 r.detail).set FLT_OVF_CODE r.code).incSat FLT_OVF_COUNT).overflowFault).fltStat)
          |>.visionCheck.settle)))

/-- After a handling (R478) the latest suspended one goes on, else the FIFO's oldest is handled, else the manager rests; while it lasts nothing
happens. An event fault of S2 clears 10 s after its last raise, a condition does not (R486); the coalesced raises of a code in force are recorded
with their number once its time has come (R479). -/
def Obligations.FaultHandling : Prop :=
  ∀ (s : State) (t : Nat) (c k : Chip), c = s.chip.begin t → c.live .app = true →
    (c.flt.cur = none → Gives (.faultHandlingEnd t) s t c.settle) ∧
    (∀ h, c.flt.cur = some h → c.handlingOver h = false → Gives (.faultHandlingEnd t) s t c.settle) ∧
    (∀ h, c.flt.cur = some h → c.handlingOver h = true → k = { c with flt := { c.flt with cur := none } } →
      (∀ x rest, c.flt.susp = x :: rest → Gives (.faultHandlingEnd t) s t
        (({ k with flt := { k.flt with cur := some x, susp := rest } } : Chip).fltStat).settle) ∧
      (∀ x rest, c.flt.susp = [] → c.flt.fifo = x :: rest → Gives (.faultHandlingEnd t) s t
        (({ k with flt := { k.flt with fifo := rest } } : Chip).handle x).settle) ∧
      (c.flt.susp = [] → c.flt.fifo = [] → Gives (.faultHandlingEnd t) s t k.fltStat.settle)) ∧
    (∀ code e, c.flt.inForce.find? (fun x => x.code == code) = some e →
      (e.sev = 2 → isCondition code = false → 10000000000 ≤ c.now - e.last → Gives (.eventFaultClear t code) s t (c.dropFault code)) ∧
      (e.sev ≠ 2 ∨ isCondition code = true ∨ c.now - e.last < 10000000000 → Gives (.eventFaultClear t code) s t c) ∧
      (0 < e.since → e.lastRec ≤ c.now → Gives (.coalescedRecord t code) s t
        (({ c with flt := { c.flt with inForce := c.flt.inForce.map (fun x =>
            if x.code = code then { x with since := 0, lastRec := c.now + 10000000000 } else x) } } : Chip).faultRecord
          code e.sev 8 e.since e.detail)) ∧
      (e.since = 0 → Gives (.coalescedRecord t code) s t c))

/-- A chip that holds the lease and accepts a RENEW from its peer raises F0309 at severity S5 (R359): a raise of F0309 at S5 is on its way to the
fault manager and PAIR_FAULT keeps its bit; beside the frame's own arrival no other register, no memory, queue or ledger record changes. -/
def Obligations.RenewWhileHeld : Prop :=
  ∀ (s : State) (t : Nat) (h : PairHdr) (c k : Chip), c = s.chip.begin t → c.live .app = true → c.pairFrame h = (k, true) →
    k.is PAIR_STAT_HELD = true →
    Yields (.renew t h) s (fun m => (∃ r, r.code = 0x0309 ∧ r.sev = 5 ∧ r.at_ = c.now ∧ m.flt.inbox = k.flt.inbox ++ [r]) ∧
      m.bit PAIR_FAULT_SEEN 8 = true ∧ SameRegs [PAIR_FAULT_SEEN.addr] k m ∧ SameStore k m ∧ m.wqm = k.wqm ∧ m.ledg = k.ledg ∧ m.pair = k.pair ∧
      m.door = k.door)

/-! ### Accesses of the cores (spec/22) -/

/-- A register read (R491 to R496): an unaligned one is answered with a bus error; a register outside a companion word answers its word, with its
companions snapshot for the requester; a companion answers the requester's snapshot; every register of a function in reset answers 0; memory
answers its four bytes, little-endian; an address outside every region is a bus error. -/
def Obligations.SnapshotReads : Prop :=
  ∀ (s : State) (t a : Nat) (who : Fin 7) (c : Chip), c = s.chip.begin t →
    (a % 4 ≠ 0 → Gives (.snapshotRead t who a) s t { c with resp := some none }) ∧
    (a % 4 = 0 → inBlocks a = true → isCompanion a = true → c.inReset a = false → (c.fuses.partN && inVision a) = false →
      within a 0x400A0000 0x400D0000 = false →
      Gives (.snapshotRead t who a) s t { c with resp := some (some (lookupD c.snaps (8 * a + who) 0)) }) ∧
    (a % 4 = 0 → inBlocks a = true → isCompanion a = false → c.inReset a = false → within a 0x400A0000 0x400D0000 = false →
      Gives (.snapshotRead t who a) s t
        { c with snaps := (companions a).foldl (fun l x => insertD l (8 * x + who) (c.readWord x)) c.snaps
                 resp := some (some (c.readWord a)) }) ∧
    (a % 4 = 0 → inBlocks a = true → c.inReset a = true → Gives (.snapshotRead t who a) s t { c with resp := some (some 0) }) ∧
    (a % 4 = 0 → (within a 0x10000000 0x10400000 = true ∨ within a 0x20000000 0x20200000 = true) →
      Gives (.snapshotRead t who a) s t { c with resp := some (some (BitVec.ofNat 32 (c.rdLe a 4))) }) ∧
    (a % 4 = 0 → 0x52000000 ≤ a → a < 0x80000000 → Gives (.snapshotRead t who a) s t { c with resp := some none })

/-- Accesses that end in a bus error have no other effect (R491, R493): wrong widths, misaligned ones, registers at another width than 32 bits, writes of
MRAM and boot ROM, and addresses of no region; an access that is none of these is not answered by this command, which then does nothing. -/
def Obligations.BusErrors : Prop :=
  ∀ (s : State) (t a w : Nat) (wr : Bool) (c : Chip), c = s.chip.begin t → inVision a = false →
    (c.busFails a w wr = true → Gives (.busErrorAccess t a w wr) s t { c with resp := some none }) ∧
    (c.busFails a w wr = false → Gives (.busErrorAccess t a w wr) s t c) ∧
    (w ∉ [1, 2, 4, 8] ∨ a % w ≠ 0 → c.busFails a w wr = true) ∧
    (inBlocks a = true → w ≠ 4 → c.busFails a w wr = true) ∧
    (within a 0x10000000 0x10400000 = true → c.busFails a w true = true) ∧
    (0x52000000 ≤ a → a < 0x80000000 → c.busFails a w wr = true) ∧
    (within a 0x20000000 0x20200000 = true → w ∈ [1, 2, 4, 8] → a % w = 0 → c.busFails a w wr = false)

/-- A write to SRAM stores its four bytes, least significant first, and no other byte, register, queue or fault changes (R493, R7); a write to MRAM, to an
unaligned address or to no region is answered with a bus error and changes nothing (R491 to R493); a write to a register of a block in reset
is ignored (R496); SYS_FRST_CTRL asks for a reset only with GO, and FBK_CHn_ICTL arms and disarms (R65, R82). -/
def Obligations.RegisterWrites : Prop :=
  ∀ (s : State) (t a : Nat) (v : Word) (c : Chip), c = s.chip.begin t → c.live .app = true →
    (c.sys.started = false → a % 4 = 0 → within a 0x20000000 0x20200000 = true → Yields (.registerWrite t a v) s (fun k =>
      k.rdLe a 4 = v.toNat ∧ (∀ b, b < a ∨ a + 4 ≤ b → k.rdB b = c.rdB b) ∧ k.regs = c.regs ∧ k.wqm = c.wqm ∧ k.flt = c.flt ∧ k.nor = c.nor)) ∧
    (a % 4 ≠ 0 ∨ within a 0x10000000 0x10400000 = true ∨ (0x52000000 ≤ a ∧ a < 0x80000000) →
      Gives (.registerWrite t a v) s t ({ c with resp := some none } : Chip).settle) ∧
    (a % 4 = 0 → inBlocks a = true → c.inReset a = true → Gives (.registerWrite t a v) s t c.settle) ∧
    (bitAt v.toNat 8 = false → c.inReset SYS_FRST_CTRL_REG = false → Gives (.registerWrite t SYS_FRST_CTRL_REG v) s t c.settle) ∧
    (∀ n : Fin 6, c.inReset (FBK_CH_ICTL_REG n) = false → bitsOf v.toNat 0 2 = 1 →
      Gives (.registerWrite t (FBK_CH_ICTL_REG n) v) s t (c.put (FBK_CH_STAT_ARMED n) true).settle) ∧
    (∀ n : Fin 6, c.inReset (FBK_CH_ICTL_REG n) = false → bitsOf v.toNat 0 2 = 3 →
      Gives (.registerWrite t (FBK_CH_ICTL_REG n) v) s t ((c.put (FBK_CH_STAT_ARMED n) true).put (FBK_CH_STAT_ARMED n) false).settle)

/-! ### Update and the boot ROM's service image (spec/20) -/

/-- The update timers (R460, R467, R470): the end of a verification leaves the slot VERIFIED with event 3, or LOADED-refused with F0F02, and completes the command
that asked for it; the trial time is stored every 10 s; at 600 s a trial is over, by the gate or once the gate lets its store, and a confirmation that already waits at the
gate goes first; the pulse of the
self-reset goes out when its time has come. -/
def Obligations.UpdateTimers : Prop :=
  ∀ (s : State) (t : Nat) (c k : Chip), c = s.chip.begin t → c.live .app = true →
    (c.upd.verify = none → Gives (.verificationEnd t) s t c.settle) ∧
    (∀ i js, c.upd.verify = some (i, js) → k = { c with upd := { c.upd with verify := none } } →
      Gives (.verificationEnd t) s t (if c.imgErr i = 0 then ((k.setSlot i 4).updEvent i 3 0).complete js 0 ""
        else ((k.setSlot i 2).raise 0x0F02).complete js (c.imgErr i) "").settle) ∧
    (c.upd.since = none → Gives (.trialTimeStore t) s t c) ∧
    (∀ a, c.upd.since = some a → c.now - a < 10000000000 → Gives (.trialTimeStore t) s t c) ∧
    (∀ a, c.upd.since = some a → c.trialSlots ≠ [] → 10000000000 ≤ c.now - a →
      k = { c with upd := { c.upd with secs := satNat 10 c.trialSecs, since := some c.now } } →
      Gives (.trialTimeStore t) s t ((c.trialSlots.foldl (fun c i => c.slotStore i) k).updShow)) ∧
    (c.trialSlots = [] ∨ c.trialSecs < 600 → Gives (.trialTimeLimit t) s t c.settle) ∧
    (c.trialSlots ≠ [] → 600 ≤ c.trialSecs → c.gateOpen .pointer = true → Gives (.trialTimeLimit t) s t c.trialOver.settle) ∧
    (c.trialSlots ≠ [] → 600 ≤ c.trialSecs → c.gateOpen .pointer = false → c.sup.waiting = [] → c.confirmWaits = false →
      Gives (.trialTimeLimit t) s t (c.deferStore .pointer 8191 []).settle) ∧
    (c.trialSlots ≠ [] → 600 ≤ c.trialSecs → c.gateOpen .pointer = false → c.confirmWaits = true → Gives (.trialTimeLimit t) s t c.settle) ∧
    (c.upd.resetAt = none → Gives (.selfResetPulse t) s t c) ∧
    (∀ a, c.upd.resetAt = some a → c.now < a → Gives (.selfResetPulse t) s t c) ∧
    (∀ a, c.upd.resetAt = some a → a ≤ c.now → k = { c with upd := { c.upd with resetAt := none } } → k.domOwns (k.get UPD_CFG_RST_GPIO) = false →
      Gives (.selfResetPulse t) s t (k.emit (.pulse (k.get UPD_CFG_RST_GPIO) 10)))

/-- The boot ROM on CAN0 (R470, R471): it answers only while it waits with boot source CAN0; a request of the sequence number last
answered gets the same reply; BEGIN takes a size from 200 bytes to the limit and starts from nothing received, DATA the next bytes of the image,
VERIFY checks a complete image, and RUN starts a verified one; each is refused with its status otherwise. -/
def Obligations.BootCommands : Prop :=
  ∀ (s : State) (t : Nat) (q : Fin 256) (c : Chip), c = s.chip.begin t → c.sys.held = none →
    (∀ n off b, c.sys.bootWait = false ∨ c.get SYS_BOOT_STAT_SOURCE ≠ 3 → Gives (.bootBegin t q n) s t c.settle ∧
      Gives (.bootData t q off b) s t c.settle ∧ Gives (.bootVerify t q) s t c.settle ∧ Gives (.bootRun t q) s t c.settle) ∧
    (∀ r n off b, c.sys.bootWait = true → c.get SYS_BOOT_STAT_SOURCE = 3 → c.upd.svc.last = some (q.val, r) →
      ∀ k, k = c.emit (.can 0 (0x7E8 + c.get SYS_STRAP_SIDE) false true r) →
      Gives (.bootBegin t q n) s t k.settle ∧ Gives (.bootData t q off b) s t k.settle ∧ Gives (.bootVerify t q) s t k.settle ∧
      Gives (.bootRun t q) s t k.settle) ∧
    (c.sys.bootWait = true → c.get SYS_BOOT_STAT_SOURCE = 3 → (∀ n r, c.upd.svc.last = some (n, r) → n ≠ q.val) →
      (∀ n, n < 200 ∨ svcMax < n → Gives (.bootBegin t q n) s t (c.bootReply 1 q 603).settle) ∧
      (∀ n, 200 ≤ n → n ≤ svcMax → Gives (.bootBegin t q n) s t
        ((({ c with upd := { c.upd with svc := { c.upd.svc with size := n, got := 0, verified := false } } } : Chip).bootReply 1 q 0).settle)) ∧
      (∀ off b, c.upd.svc.size = 0 → Gives (.bootData t q off b) s t (c.bootReply 2 q 606).settle) ∧
      (∀ off b, c.upd.svc.size ≠ 0 → off = c.upd.svc.got → off < c.upd.svc.size → off % (b.take 32).length = 0 → Gives (.bootData t q off b) s t
        (((({ c.wrBytes (0x20000000 + off) ((b.take 32).take (c.upd.svc.size - off)) with
               upd := { c.upd with svc := { c.upd.svc with
                                              got := off + ((b.take 32).take (c.upd.svc.size - off)).length
                                              verified := false } } } : Chip).bootReply 2 q 0).settle))) ∧
      (c.upd.svc.size = 0 ∨ c.upd.svc.got < c.upd.svc.size → Gives (.bootVerify t q) s t (c.bootReply 3 q 606).settle) ∧
      (∀ e, c.upd.svc.size ≠ 0 → c.upd.svc.size ≤ c.upd.svc.got → e = c.containerErr 9 c.upd.svc.size (c.rdBytes 0x20000000 c.upd.svc.size) →
        Gives (.bootVerify t q) s t
          ((({ c with upd := { c.upd with svc := { c.upd.svc with verified := decide (e = 0) } } } : Chip).bootReply 3 q e).settle)) ∧
      (c.upd.svc.verified = false → Gives (.bootRun t q) s t (c.bootReply 4 q 606).settle) ∧
      (c.upd.svc.verified = true → Gives (.bootRun t q) s t
        ((((({ c with upd := { c.upd with svc := { c.upd.svc with running := true } }, sys := { c.sys with bootWait := false } } : Chip).appStart
          false).bootReply 4 q 0).settle))))

/-! ### The console (spec/17, spec/18) -/

/-- Queries: a line its session takes up in role view is answered, and an answer changes nothing but what the session is sent: no register, no
memory, no queue, no fault, no ledger record, no axis and no door (R413, R419, R426). -/
def Obligations.ConsoleQueries : Prop :=
  ∀ (s : State) (t : Nat) (l : Ln) (c k x : Chip) (i : Instr), c = s.chip.begin t → c.LineReady k l 0 →
    (∀ (n4 n4b : Fin 4) (n6 : Fin 6) (n64 : Fin 64) (n3 : Fin 3) (n2 n2b : Fin 2) (q : Fin 128) (key seq count : Nat) (names : List String) (pend : Bool)
      (fam : Option String) (img : Option (Fin 9)), 
      (i, x) ∈ [(Instr.help t l fam, k.helpReply l fam), (.ping t l, k.okay l ""), (.get_ t l names pend, k.getReply l names pend),
        (.configShow t l n4, k.configShow l n4), (.configCrc t l, k.configCrcs l), (.doorStatusQuery t l, k.doorQuery l),
        (.doorMeas t l, k.doorMeas l), (.axisStatus t l n4, k.axisQuery l n4), (.curStatus t l n4, k.curQuery l n4),
        (.fbkStatus t l n6, k.fbkQuery l n6), (.fbkWheel t l, k.wheelQuery l), (.domStatus t l, k.domQuery l),
        (.domSlot t l n64, k.slotQuery l n64), (.domLf t l, k.lfQuery l), (.canStatus t l n3, k.canQuery l n3), (.ethStatus t l, k.ethQuery l),
        (.ethPort t l n2, k.portQuery l n2), (.timeStatus t l, k.timeQuery l), (.timeNow t l, k.nowQuery l), (.pairStatus t l, k.pairQuery l),
        (.pairHealthQuery t l, k.healthQuery l), (.queue t l q, k.queueQuery l q), (.queueKey t l q key, k.keyQuery l q key),
        (.faultList t l, k.faultQuery l), (.ledgerStatus t l, k.ledgerQuery l), (.ledgerRead t l seq count, k.ledgerReadReply l seq count),
        (.updateStatus t l (img.map (·.val)), k.updateQuery l (img.map (·.val))), (.sysInfo t l, k.infoQuery l), (.sysCause t l, k.causeQuery l),
        (.sysFrst t l, k.frstQuery l), (.sysSupply t l, k.supplyQuery l)] ++
        (if c.fuses.partN then [] else [(.visionStatus t l, k.visionQuery l), (.visionCam t l n2, k.camQuery l n2),
          (.visionTenant t l n4b, k.tenantQuery l n4b), (.visionGrid t l n2 (n2b + 1), k.gridQuery l n2 (n2b + 1))]) →
      Gives i s t x.settle ∧ x = { k with sess := x.sess, out := x.out })

/-- On the CV-4410N every vision command is refused with E203 (R426), whatever its operands and whoever sends it. -/
def Obligations.VisionRefusedOnN : Prop :=
  ∀ (s : State) (t a b : Nat) (l : Ln) (c k : Chip) (i : Instr), c = s.chip.begin t → c.fuses.partN = true → c.LineReady k l 0 →
    i ∈ [Instr.visionStatus t l, .visionCam t l a, .visionTenant t l a, .visionGrid t l a b, .visionTenantStart t l a, .visionTenantStop t l a] →
    Gives i s t (k.fail l 203 "").settle

/-- Direct commands with an effect: mode, subscriptions, role, challenge and response (R394, R404, R407, R408), set and config on the working copy
(R420), the release hold at once (R421), stop, emergency stop and halt of an axis (R425), the latch FIFO's pop (R116), and data of
a download (R458); each is answered, those of the doorway on the active only. -/
def Obligations.ConsoleDirect : Prop :=
  ∀ (s : State) (t : Nat) (l : Ln) (c k : Chip), c = s.chip.begin t →
    (c.LineReady k l 0 →
      Gives (.modeGen t l) s t ((k.okay l "").putBit CON_SESS_STAT_GEN l.sess true).settle ∧
      Gives (.modeTyped t l) s t ((k.okay l "").putBit CON_SESS_STAT_GEN l.sess false).settle ∧
      (∀ kind on, Gives (.sub t l kind on) s t (k.subReply l kind on).settle) ∧
      (∀ op, Gives (.role t l op) s t (k.roleReply l op).settle) ∧
      Gives (.auth t l) s t (k.authReply l).settle ∧ (∀ r, Gives (.authResp t l r) s t (k.authRespReply l r).settle)) ∧
    (c.LineReady k l 1 → k.isStandby = false →
      (∀ on, Gives (.setRelHold t l on) s t ((k.put VOTE_HOLD_REL_HOLD on).okay l "").settle) ∧
      (∀ n : Fin 4, Gives (.axisStop t l n) s t (k.axisStopReply l n).settle ∧
        Gives (.axisEmerg t l n) s t ((k.emergency n none).okay l "").settle)) ∧
    (c.LineReady k l 2 →
      (∀ items, Gives (.set_ t l items) s t (k.setReply l items).settle) ∧
      Gives (.configRevert t l) s t (({ k with cfg := { k.cfg with work := k.running } } : Chip).okay l "").settle ∧
      Gives (.configFactory t l) s t (({ k with cfg := { k.cfg with work := [] } } : Chip).okay l "").settle ∧
      Gives (.domLfPop t l) s t (k.lfPopReply l).settle ∧
      (∀ off bytes fails, bytes.length = 128 → Gives (.updateData t l off bytes fails) s t (k.updateDataReply l off bytes fails).settle) ∧
      (k.isStandby = false → ∀ n : Fin 4, Gives (.axisHalt t l n) s t ((k.motHalt n).okay l "").settle))

/-- Queued commands (R402, R411): a line of sufficient role, and of the doorway on the active only, is offered to the queue bound to its session's
source with its tag as key, and the session is told what `queueTold` says. Slots below 32, sets below 32 and axes 0 and 1 belong to DOOR (E402: log 64).
The fault acknowledgement by register acts at once (R486). -/
def Obligations.ConsoleQueued : Prop :=
  ∀ (s : State) (t : Nat) (l : Ln) (c k : Chip), c = s.chip.begin t →
    (c.LineReady k l 1 → k.isStandby = false →
      (∀ ramp, Gives (.doorOpen t l ramp) s t (k.queueTold l { op := .doorOpen, a := cond ramp 1 0, b := 0, v := 0 }).settle) ∧
      Gives (.doorClose t l) s t (k.queueTold l { op := .doorClose, a := 0, b := 0, v := 0 }).settle ∧
      Gives (.doorRelease t l) s t (k.queueTold l { op := .doorRelease, a := 0, b := 0, v := 0 }).settle ∧
      Gives (.doorUnrelease t l) s t (k.queueTold l { op := .doorUnrelease, a := 0, b := 0, v := 0 }).settle ∧
      Gives (.doorReset t l) s t (k.queueTold l { op := .doorReset, a := 0, b := 0, v := 0 }).settle) ∧
    (c.LineReady k l 2 → k.isStandby = false →
      Gives (.configApply t l) s t (k.queueTold l { op := .configApply, a := 0, b := 0, v := 0 }).settle ∧
      Gives (.doorIsolate t l) s t (k.queueTold l { op := .doorIsolate, a := 0, b := 0, v := 0 }).settle ∧
      Gives (.doorUnisolate t l) s t (k.queueTold l { op := .doorUnisolate, a := 0, b := 0, v := 0 }).settle ∧
      (∀ n set, 2 ≤ n → n < 4 → 32 ≤ set → set < 64 →
        Gives (.axisStart t l n set) s t (k.queueTold l { op := .axisStart, a := n, b := set, v := 0 }).settle) ∧
      (∀ n : Fin 4, Gives (.axisReref t l n) s t (k.queueTold l { op := .axisReref, a := n, b := 0, v := 0 }).settle ∧
        Gives (.curCal t l n) s t (k.queueTold l { op := .curCal, a := n, b := 0, v := 0 }).settle ∧
        Gives (.curClrofs t l n) s t (k.queueTold l { op := .curClrofs, a := n, b := 0, v := 0 }).settle) ∧
      (∀ n : Fin 6, Gives (.fbkArm t l n) s t (k.queueTold l { op := .fbkArm, a := n, b := 0, v := 0 }).settle ∧
        Gives (.fbkDisarm t l n) s t (k.queueTold l { op := .fbkDisarm, a := n, b := 0, v := 0 }).settle ∧
        (∀ v : Word, Gives (.fbkCount t l n v.toInt) s t (k.queueTold l { op := .fbkCount, a := n, b := 0, v := v.toNat }).settle)) ∧
      (∀ n, 32 ≤ n → n < 64 → Gives (.domArm t l n) s t (k.queueTold l { op := .domArm, a := n, b := 0, v := 0 }).settle ∧
        Gives (.domDisarm t l n) s t (k.queueTold l { op := .domDisarm, a := n, b := 0, v := 0 }).settle) ∧
      (∀ v : Word, Gives (.domD4 t l v.toNat) s t (k.queueTold l { op := .domD4, a := 0, b := 0, v := v.toNat }).settle) ∧
      (∀ n m : Fin 3, Gives (.canMode t l n m) s t (k.queueTold l { op := .canMode, a := n, b := m, v := 0 }).settle) ∧
      (∀ (n : Fin 3) on, Gives (.canInit t l n on) s t (k.queueTold l { op := .canInit, a := n, b := cond on 1 0, v := 0 }).settle) ∧
      Gives (.pairHandover t l) s t (k.queueTold l { op := .handover, a := 0, b := 0, v := 0 }).settle ∧
      (∀ code, Gives (.faultAck t (some l) code) s t (k.queueTold l { op := .faultAck, a := code, b := 0, v := 0 }).settle) ∧
      (∀ seq, k.ledgerAckErr seq = 0 → Gives (.ledgerAck t l seq) s t (k.queueTold l { op := .ledgerAck, a := 0, b := 0, v := seq }).settle) ∧
      (∀ n : Fin 4, c.fuses.partN = false →
        Gives (.visionTenantStart t l n) s t (k.queueTold l { op := .tenantStart, a := n, b := 0, v := 0 }).settle ∧
        Gives (.visionTenantStop t l n) s t (k.queueTold l { op := .tenantStop, a := n, b := 0, v := 0 }).settle) ∧
      (∀ f : Fin 10, Gives (.resetFunction t l f) s t (k.queueTold l { op := .fnReset, a := f, b := 0, v := 0 }).settle)) ∧
    (c.LineReady k l 2 →
      Gives (.configSave t l) s t (k.queueTold l { op := .configSave, a := 0, b := 0, v := 0 }).settle ∧
      (∀ (img : Fin 10) (sl : Fin 2) size,
        Gives (.updateBegin t l img sl size) s t (k.queueTold l { op := .updBegin, a := img, b := sl, v := size }).settle ∧
        Gives (.updateVerify t l img sl) s t (k.queueTold l { op := .updVerify, a := img, b := sl, v := 0 }).settle ∧
        Gives (.updateActivate t l img sl) s t (k.queueTold l { op := .updActivate, a := img, b := sl, v := 0 }).settle ∧
        Gives (.updateConfirm t l img) s t (k.queueTold l { op := .updConfirm, a := img, b := 0, v := 0 }).settle ∧
        Gives (.updateAbort t l img sl) s t (k.queueTold l { op := .updAbort, a := img, b := sl, v := 0 }).settle) ∧
      (∀ f : Fin 10, 3 ≤ f.val → Gives (.resetFunction t l f) s t (k.queueTold l { op := .fnReset, a := f, b := 0, v := 0 }).settle) ∧
      (∀ mask : Word, Gives (.sysCauseClear t l mask.toNat) s t
        (k.queueTold l { op := .causeClear, a := 0, b := 0, v := mask.toNat }).settle)) ∧
    (∀ code, c.live .app = true → Gives (.faultAck t none code) s t (c.ackFault code).1.settle)

/-- The acceptance of an offered entry (R368, R370, R371, R402). A key that is still being accepted joins it with the same PCRC; one in its window set
with the same PCRC is answered from there and counted; either with another PCRC is refused with E506. A new entry is refused with E501 where its
queue has 256 waiting, and else joins the journal in a free slot with its queue's next sequence number; its store starts at once, or waits for
the energy gate. -/
def Obligations.OfferTakes : Prop :=
  ∀ (c : Chip) (q src key pcrc : Nat) (mo : Bool) (cmd : QCmd) (r : ReplyTo) (same : Option Entry) (win : Option WinEntry),
    same = c.wqm.entries.find? (fun e => e.source == src && e.key == key && !e.visible && e.cstate == 0) →
    win = c.findWindow ((winSet src).getD 15) key →
    (key ≠ 0 → (winSet src).isSome = true →
      (∀ e, same = some e → (c.offer q src key pcrc mo cmd r).2 = (if e.pcrc = pcrc then .copy else (c.refuse 6 506).2)) ∧
      (∀ w, same = none → win = some w → c.offer q src key pcrc mo cmd r =
        if w.pcrc = pcrc then (c.incSat WQM_CNT_RPL_N, .replay w) else c.refuse 6 506)) ∧
    (key = 0 ∨ winSet src = none ∨ (same = none ∧ win = none) →
      (256 ≤ (c.wqm.entries.filter (fun e => e.queue == q && e.cstate == 0)).length → c.offer q src key pcrc mo cmd r = c.refuse 3 501) ∧
      (∀ slot, (c.wqm.entries.filter (fun e => e.queue == q && e.cstate == 0)).length < 256 →
        freeSlotFrom c.wqm.entries 4096 (c.get WQM_JRN_HEAD_SLOT) = some slot → ∃ (e : Entry) (k : Chip),
          e.slot = slot ∧ e.queue = q ∧ e.source = src ∧ e.key = key ∧ e.cmd = cmd ∧ e.pcrc = pcrc ∧ e.visible = false ∧ e.cstate = 0 ∧
          e.heldAcc = (mo && c.is SUP_STATUS_WARN) ∧
          (c.wqm.entries.any (fun x => x.queue == q) = false → e.qseq = (c.get (WQM_Q_SEQ_QSEQ q) + 1) % 2 ^ 32) ∧
          k = { c with wqm := { c.wqm with entries := c.wqm.entries ++ [e] } } ∧
          (k.gateOpen .accept = true → c.offer q src key pcrc mo cmd r = (k.commit slot, .taken slot)) ∧
          (k.gateOpen .accept = false → c.offer q src key pcrc mo cmd r = (k.deferStore .accept slot [], .taken slot))))

/-- What a line is refused for, in this order (R398, R406, R410, R414): without a tag in generated mode E102, with one of more than 16
bits E110, with too low a role E401, on the doorway at the standby E403; a line of a closed session, or while a reset holds the chip or before
start-up ends, has no effect. -/
def Obligations.ConsoleRefusals : Prop :=
  ∀ (s : State) (t : Nat) (l : Ln) (c k : Chip) (i : Instr) (role : Nat) (dw : Bool), c = s.chip.begin t →
    (∀ (on : Bool) (n4 : Fin 4) (f : Fin 10) (code : Nat) (items : List (String × Int)) (layer : Fin 4),
      (i, role, dw) ∈ [(Instr.modeGen t l, 0, false), (.role t l on, 0, false), (.auth t l, 0, false), (.doorStatusQuery t l, 0, false),
        (.configShow t l layer, 0, false), (.setRelHold t l on, 1, true), (.doorOpen t l on, 1, true), (.doorClose t l, 1, true), (.doorReset t l, 1, true),
        (.axisStop t l n4, 1, true), (.axisEmerg t l n4, 1, true), (.axisHalt t l n4, 2, true), (.set_ t l items, 2, false),
        (.configApply t l, 2, true), (.configSave t l, 2, false), (.configRevert t l, 2, false), (.configFactory t l, 2, false),
        (.doorIsolate t l, 2, true), (.doorUnisolate t l, 2, true), (.axisReref t l n4, 2, true), (.pairHandover t l, 2, true),
        (.faultAck t (some l) code, 2, true), (.ledgerAck t l code, 2, true), (.resetFunction t l f, 2, decide (f.val < 3)),
        (.domLfPop t l, 2, false)] →
      (c.sys.held.isSome = true → Gives i s t c) ∧
      (c.serving = true → c.sessOpen l.sess = false → Gives i s t c.settle) ∧
      (c.serving = true → c.sessOpen l.sess = true → k = c.lineTaken l.sess l.tag.isSome →
        (k.sessGen l.sess = true → l.tag = none → Gives i s t (k.fail l 102 "").settle) ∧
        (∀ g, l.tag = some g → 65535 < g → Gives i s t (k.fail { l with tag := none } 110 "").settle) ∧
        ((k.sessGen l.sess = true → l.tag ≠ none) → l.tag.getD 0 ≤ 65535 →
          (k.sessRole l.sess < role → Gives i s t (k.fail l 401 "").settle) ∧
          (role ≤ k.sessRole l.sess → dw = true → k.isStandby = true → Gives i s t (k.fail l 403 "").settle))))

/-- The console's timers, editing and malformed lines (R393, R397, R408, R409): service falls to view after 900 s without a line; the lock of a session ends
after 60 s; bytes go to the edited line of an open typed session only; a malformed line is answered with its error, tagged where its tag
was legible, and an acceptable one is none of this command's. -/
def Obligations.ConsoleTimers : Prop :=
  ∀ (s : State) (t : Nat) (n : Fin 6) (c : Chip) (x : Sess), c = s.chip.begin t → c.sess[n.val]? = some x →
    (c.live .app = true →
      (c.sessRole n = 2 → 900000000000 ≤ c.now - x.lastLine → Gives (.roleIdleTimeout t n) s t (c.roleFall n "idle")) ∧
      (c.sessRole n ≠ 2 ∨ c.now - x.lastLine < 900000000000 → Gives (.roleIdleTimeout t n) s t c) ∧
      (∀ a, x.lockedAt = some a → 60000000000 ≤ c.now - a → Gives (.authLockEnd t n) s t
        { c with sess := modAt c.sess n (fun y => { y with lockedAt := none, wrong := 0 }) }) ∧
      (∀ a, x.lockedAt = some a → c.now - a < 60000000000 → Gives (.authLockEnd t n) s t c) ∧
      (∀ bytes, c.sessOpen n = true → c.sessGen n = false → Gives (.typedEdit t n bytes) s t (bytes.foldl (fun c b => c.typeByte n b) c)) ∧
      (∀ bytes, c.sessOpen n = false ∨ c.sessGen n = true → Gives (.typedEdit t n bytes) s t c)) ∧
    (∀ bytes fr full, c.serving = true → c.sessOpen n = true →
      ((lineErr (c.sessGen n) bytes fr full).2 = 0 → Gives (.malformedLine t n bytes fr full) s t c.settle) ∧
      ((lineErr (c.sessGen n) bytes fr full).2 ≠ 0 → Gives (.malformedLine t n bytes fr full) s t
        (((c.lineTaken n (bytes.head? == some 0x21)).reply n (lineErr (c.sessGen n) bytes fr full).1
          ("err " ++ errName (lineErr (c.sessGen n) bytes fr full).2)).settle)))

/-- The hold of the door release (R421): `set vote.rel_hold=0|1` takes role operate, acts at once on VOTE_HOLD, on no other register and not on the working
copy, and is a doorway command, refused to a session in role view with E401 and on the standby with E403; it is the single exception: every other `set`
changes no register at all. -/
def Obligations.ReleaseHold : Prop :=
  ∀ (s : State) (t : Nat) (l : Ln) (on : Bool) (c k : Chip), c = s.chip.begin t → c.LineReady k l 0 →
    (1 ≤ k.sessRole l.sess → k.isStandby = false → ∃ x, Gives (.setRelHold t l on) s t x.settle ∧ x.is VOTE_HOLD_REL_HOLD = on ∧
      SameRegs [VOTE_HOLD_REL_HOLD.addr] k x ∧ x.cfg = k.cfg ∧ x.wqm = k.wqm ∧ x.flt = k.flt ∧ SameStore k x) ∧
    (k.sessRole l.sess = 0 → Gives (.setRelHold t l on) s t (k.fail l 401 "").settle) ∧
    (1 ≤ k.sessRole l.sess → k.isStandby = true → Gives (.setRelHold t l on) s t (k.fail l 403 "").settle) ∧
    (2 ≤ k.sessRole l.sess → ∀ items, ∃ x, Gives (.set_ t l items) s t x.settle ∧ x.regs = k.regs ∧ SameStore k x)

/-! ### The block as a whole -/

/-- A step runs the command at the front of the queue with the queue's rest; on an empty queue the block idles (log 3: the model's choice); no table
word spells a command. -/
def Obligations.StepRunsFront : Prop :=
  (∀ (i : Instr) (s : State), step { s with pending := i :: s.pending } = exec i s) ∧
  (∀ s : State, s.pending = [] → step s = .next s) ∧
  (∀ (s : State) (nbits w : Nat), Sys2Proof.decodeTableWord nbits w = none ∧ s.withFetchWord nbits w = s)

/-- Every command goes on to a next state and leaves the queue as it was: the block has no stop. -/
def Obligations.EveryCommandGoesOn : Prop :=
  ∀ (i : Instr) (s : State), ∃ u, exec i s = .next u ∧ u.pending = s.pending

/-- Reset (R9, Tables 22-5 to 22-8): no command waits, every register reads its reset value, of which some are given here, no fault is on its way or in
force, no entry is in the journal, and the outputs are gated. That the chip starts here with its reset released is the model's choice (log 4). -/
def Obligations.ResetState : Prop :=
  State.reset.pending = [] ∧ (∀ a, State.reset.chip.rd a = resetWord a) ∧
  (∀ p ∈ [(SYS_RST_CAUSE_REG, 1), (SUP_VSENSE_CFG_REG, 0x2BC), (PAIR_CFG_REG, 0x281403), (FBK_CH_SPD_REG 0, 0x1F400C8),
    (FBK_CH_SPD_REG 5, 0x1F40014), (DOM_STAT_REG, 0x80), (DOOR_STATUS_REG, 0xA), (TSYN_STAT_REG, 0xF000), (WQM_Q_CFG_REG 0, 0xE1),
    (WQM_Q_CFG_REG 13, 0xEE), (CON_SESS_STAT_REG, 3), (UPD_CFG_REG, 0x50), (VMC_STAT_REG, 0)], State.reset.chip.rd p.1 = BitVec.ofNat 32 p.2) ∧
  State.reset.chip.flt = {} ∧ State.reset.chip.wqm = {} ∧ State.reset.chip.Gated

/-- Time that passes before a command takes the clock on, never back, and follows it with TB_VEH and the pair epoch's count of 100 us (R106, R339);
no other register, no memory, no fault, no queue entry and no engine changes. -/
def Obligations.TimePasses : Prop :=
  ∀ (c k : Chip) (t : Nat), k = c.begin t →
    k.now = max c.now t ∧ c.tbVeh ≤ k.tbVeh ∧ (t ≤ c.now → k.regs = c.regs ∧ k.tbVeh = c.tbVeh) ∧
    (c.now < t → k.get PAIR_EPOCH_EPOCH = (c.get PAIR_EPOCH_EPOCH + (t - c.pair.epochAt) / 100000) % 2 ^ 32) ∧
    SameRegs [PAIR_EPOCH_EPOCH.addr] c k ∧ SameStore c k ∧ k.flt = c.flt ∧ k.wqm = c.wqm ∧ k.ledg = c.ledg ∧ k.sys = c.sys ∧ k.sup = c.sup ∧
    k.door = c.door ∧ k.axes = c.axes ∧ k.vote = c.vote ∧ k.pins = c.pins ∧ k.cfg = c.cfg ∧ k.upd = c.upd ∧ k.sess = c.sess ∧ k.free = c.free

/-- While an L0 or L1 reset holds the chip, a command of the application side or of the island does nothing but let time pass (R63, R64, R496); so does a
console line, and a command of the supply supervisor under L0. -/
def Obligations.HeldChipOnlyWaits : Prop :=
  ∀ (s : State) (t : Nat) (i : Instr) (l : Ln) (lv : Nat), s.chip.sys.held = some lv → lv ≤ 1 →
    (∀ (n4 : Fin 4) (n64 : Fin 64) (n6 : Fin 6) (n2 : Fin 2) (n24 : Fin 24) (n3 : Fin 3) (p : Path) (h : PairHdr) (a v : Nat) (w : Word) (d : List Byte) (b : Bool)
      (x : BitVec 3),
      i ∈ [Instr.slotArm t n64, .slotDisarm t n64, .motReref t n4, .motEmerg t n4, .motHalt t n4, .stall t n4, .overcurrent t n4 n2,
        .indexArm t n6, .rawTransition t n6 b b, .observerUpdate t n6, .standstill t n6, .openTimeout t, .warningTimeElapsed t,
        .staticInputChange t n24 x, .votedStandstill t, .frameStart t n2 a, .nosEnable t, .conv t n4, .jobDispatch t n4, .l2Read t 4 a v 0,
        .doorCmd t p a d, .exportStart t p a d, .renew t h, .transfer t h, .leaseRenewal t, .leaseExpiry t, .ledgerRecordStore t, .faultTake t,
        .registerWrite t a w, .verificationEnd t, .functionResetRequest t 3, .resynchronisationEnd t] → exec i s = .next { s with chip := s.chip.begin t }) ∧
    (∀ (a : Nat) (on : Bool) (items : List (String × Int)),
      i ∈ [Instr.ping t l, .help t l none, .doorOpen t l on, .set_ t l items, .configApply t l, .faultAck t (some l) a, .updateBegin t l a 0 a] →
      Gives i s t (s.chip.begin t)) ∧
    (lv = 0 → exec (.holdupEnergyUpdate t 0) s = .next { s with chip := s.chip.begin t } ∧
      exec (.supplyWarningAssert t) s = .next { s with chip := s.chip.begin t })

/-- The outputs stay safe (R16, R38, R342): whatever command is at the front, if a chip that may not drive the outputs drives the restrictive ones before a step, it
does after it. -/
def Obligations.OutputsStayGated : Prop :=
  ∀ s u : State, s.chip.Gated → step s = .next u → u.chip.Gated
end

