-- ==== Sys2Proof/Laws/Ops.lean ====
section
/-! SUPPORT. The laws of the sparse maps, of registers and fields, of memory, and of the passing of time. -/

namespace Sys2Proof.Machine

-- One theorem after another: a theorem that waits for the kernel holds a thread of its own.
set_option Elab.async false

/-! ### Bits -/

theorem bitsOf_lt (n lo w : Nat) : bitsOf n lo w < 2 ^ w := Nat.mod_lt _ (Nat.two_pow_pos w)

/-- A number splits into what lies above a field, the field, and what lies below it. -/
theorem split_bits (n lo w : Nat) : n = n / 2 ^ (lo + w) * 2 ^ (lo + w) + bitsOf n lo w * 2 ^ lo + n % 2 ^ lo := by
  have h1 := Nat.div_add_mod n (2 ^ lo)
  have h2 := Nat.div_add_mod (n / 2 ^ lo) (2 ^ w)
  rw [Nat.div_div_eq_div_mul, ← Nat.pow_add] at h2
  have h3 : 2 ^ lo * (2 ^ w * (n / 2 ^ (lo + w)) + n / 2 ^ lo % 2 ^ w) = n / 2 ^ (lo + w) * 2 ^ (lo + w) + n / 2 ^ lo % 2 ^ w * 2 ^ lo := by
    rw [Nat.pow_add]; ring
  unfold bitsOf
  rw [← h3, h2]; omega

theorem putBits_eq (n lo w v : Nat) :
    putBits n lo w v = n / 2 ^ (lo + w) * 2 ^ (lo + w) + v % 2 ^ w * 2 ^ lo + n % 2 ^ lo := by
  have h := split_bits n lo w
  unfold putBits
  omega

/-- A field written reads as the low bits of what was written. -/
@[simp] theorem bitsOf_putBits (n lo w v : Nat) : bitsOf (putBits n lo w v) lo w = v % 2 ^ w := by
  have hlo : 0 < 2 ^ lo := Nat.two_pow_pos lo
  rw [putBits_eq]; unfold bitsOf
  have e : n / 2 ^ (lo + w) * 2 ^ (lo + w) + v % 2 ^ w * 2 ^ lo + n % 2 ^ lo
      = n % 2 ^ lo + 2 ^ lo * (2 ^ w * (n / 2 ^ (lo + w)) + v % 2 ^ w) := by rw [Nat.pow_add]; ring
  rw [e, Nat.add_mul_div_left _ _ hlo, Nat.div_eq_of_lt (Nat.mod_lt _ hlo), Nat.zero_add, Nat.mul_add_mod, Nat.mod_mod]

/-- A field that lies below the one written keeps its value. -/
theorem bitsOf_putBits_below (n lo w v lo' w' : Nat) (h : lo' + w' ≤ lo) :
    bitsOf (putBits n lo w v) lo' w' = bitsOf n lo' w' := by
  have key : ∀ m k, bitsOf (m * 2 ^ lo + k) lo' w' = bitsOf k lo' w' := by
    intro m k
    obtain ⟨d, rfl⟩ := Nat.exists_eq_add_of_le h
    unfold bitsOf
    rw [show m * 2 ^ (lo' + w' + d) + k = k + 2 ^ lo' * (2 ^ w' * (2 ^ d * m)) by rw [Nat.pow_add, Nat.pow_add]; ring,
      Nat.add_mul_div_left _ _ (Nat.two_pow_pos lo'), Nat.add_mul_mod_self_left]
  have e1 : putBits n lo w v = (n / 2 ^ (lo + w) * 2 ^ w + v % 2 ^ w) * 2 ^ lo + n % 2 ^ lo := by
    rw [putBits_eq, Nat.pow_add]; ring
  have e2 : n = (n / 2 ^ lo) * 2 ^ lo + n % 2 ^ lo := by
    have := Nat.div_add_mod n (2 ^ lo); rw [Nat.mul_comm] at this; exact this.symm
  rw [e1, key]
  conv => rhs; rw [e2, key]

/-- A field that lies above the one written keeps its value. -/
theorem bitsOf_putBits_above (n lo w v lo' w' : Nat) (h : lo + w ≤ lo') :
    bitsOf (putBits n lo w v) lo' w' = bitsOf n lo' w' := by
  obtain ⟨d, rfl⟩ := Nat.exists_eq_add_of_le h
  have hlo : 0 < 2 ^ lo := Nat.two_pow_pos lo
  have hw : 0 < 2 ^ w := Nat.two_pow_pos w
  have key : putBits n lo w v / 2 ^ (lo + w) = n / 2 ^ (lo + w) := by
    have b1 : v % 2 ^ w * 2 ^ lo + n % 2 ^ lo < 2 ^ (lo + w) := by
      have a1 := Nat.mod_lt n hlo
      have a2 := Nat.mod_lt v hw
      rw [Nat.pow_add, Nat.mul_comm (2 ^ lo)]
      calc v % 2 ^ w * 2 ^ lo + n % 2 ^ lo < v % 2 ^ w * 2 ^ lo + 2 ^ lo := by omega
        _ = (v % 2 ^ w + 1) * 2 ^ lo := by ring
        _ ≤ 2 ^ w * 2 ^ lo := Nat.mul_le_mul_right _ a2
    rw [putBits_eq, Nat.add_assoc, Nat.add_comm, Nat.add_mul_div_right _ _ (Nat.two_pow_pos _), Nat.div_eq_of_lt b1, Nat.zero_add]
  unfold bitsOf
  rw [Nat.pow_add 2 (lo + w) d, ← Nat.div_div_eq_div_mul, ← Nat.div_div_eq_div_mul, key]

theorem putBits_lt (n lo w v k : Nat) (hn : n < 2 ^ k) (hk : lo + w ≤ k) : putBits n lo w v < 2 ^ k := by
  obtain ⟨d, rfl⟩ := Nat.exists_eq_add_of_le hk
  have hlo : 0 < 2 ^ lo := Nat.two_pow_pos lo
  have a1 := Nat.mod_lt n hlo
  have a2 := Nat.mod_lt v (Nat.two_pow_pos w)
  have a3 : n / 2 ^ (lo + w) < 2 ^ d := by
    rw [Nat.div_lt_iff_lt_mul (Nat.two_pow_pos _), Nat.mul_comm, ← Nat.pow_add]; exact hn
  rw [putBits_eq]
  have b1 : v % 2 ^ w * 2 ^ lo + n % 2 ^ lo < 2 ^ (lo + w) := by
    rw [Nat.pow_add, Nat.mul_comm (2 ^ lo)]
    calc v % 2 ^ w * 2 ^ lo + n % 2 ^ lo < v % 2 ^ w * 2 ^ lo + 2 ^ lo := by omega
      _ = (v % 2 ^ w + 1) * 2 ^ lo := by ring
      _ ≤ 2 ^ w * 2 ^ lo := Nat.mul_le_mul_right _ a2
  calc n / 2 ^ (lo + w) * 2 ^ (lo + w) + v % 2 ^ w * 2 ^ lo + n % 2 ^ lo
      < n / 2 ^ (lo + w) * 2 ^ (lo + w) + 2 ^ (lo + w) := by omega
    _ = (n / 2 ^ (lo + w) + 1) * 2 ^ (lo + w) := by ring
    _ ≤ 2 ^ d * 2 ^ (lo + w) := Nat.mul_le_mul_right _ a3
    _ = 2 ^ (lo + w + d) := by rw [← Nat.pow_add]; congr 1; omega

/-- One bit of a number with a bit set. -/
theorem bitAt_setBit (n k j : Nat) (b : Bool) : bitAt (setBit n k b) j = if j = k then b else bitAt n j := by
  have e : ∀ m i, bitAt m i = (bitsOf m i 1 == 1) := by intro m i; rfl
  rw [e, e]
  by_cases h : j = k
  · subst h; simp only [setBit, bitsOf_putBits, if_true]; cases b <;> rfl
  · rw [if_neg h]; unfold setBit
    rcases Nat.lt_or_gt_of_ne h with h' | h'
    · rw [bitsOf_putBits_below _ _ _ _ _ _ (by omega)]
    · rw [bitsOf_putBits_above _ _ _ _ _ _ (by omega)]

/-! ### Sparse maps -/

theorem sread_sins {α : Type} (d : Nat → α) (m : List (Nat × α)) (a b : Nat) (x : α) :
    sread d (sins m a x) b = if b = a then x else sread d m b := by
  induction m with
  | nil => simp only [sins, sread, eq_comm (a := b)]
  | cons p m ih =>
    obtain ⟨k, v⟩ := p
    simp only [sins]
    by_cases h1 : k = a
    · subst h1
      rw [if_pos rfl]; simp only [sread]
      by_cases h : k = b
      · rw [if_pos h, if_pos h.symm]
      · rw [if_neg h, if_neg (Ne.symm h), if_neg h]
    · rw [if_neg h1]
      by_cases h2 : a < k
      · rw [if_pos h2]; simp only [sread]
        by_cases h : a = b
        · rw [if_pos h, if_pos h.symm]
        · rw [if_neg h, if_neg (Ne.symm h)]
      · rw [if_neg h2]; simp only [sread, ih]
        by_cases h : k = b
        · rw [if_pos h, if_pos h, if_neg (by omega)]
        · rw [if_neg h, if_neg h]

theorem sread_sdel {α : Type} (d : Nat → α) (m : List (Nat × α)) (a b : Nat) :
    sread d (sdel m a) b = if b = a then d a else sread d m b := by
  induction m with
  | nil => simp only [sdel, List.filter_nil, sread]; split <;> simp_all
  | cons p m ih =>
    obtain ⟨k, v⟩ := p
    simp only [sdel, List.filter_cons] at ih ⊢
    by_cases h : k = a
    · subst h; simp only [bne_self_eq_false, Bool.false_eq_true, if_false, ih, sread]
      by_cases h2 : b = k
      · simp [h2]
      · simp [h2, Ne.symm h2]
    · have : (k != a) = true := by simpa using h
      simp only [this, if_true, sread, ih]
      by_cases h2 : k = b
      · subst h2; simp [h]
      · simp [h2]

/-- A key written reads as what was written; every other key reads as before. -/
theorem sread_swrite {α : Type} [DecidableEq α] (d : Nat → α) (m : List (Nat × α)) (a b : Nat) (x : α) :
    sread d (swrite d m a x) b = if b = a then x else sread d m b := by
  unfold swrite
  split
  · next h => rw [sread_sdel, h]
  · rw [sread_sins]

theorem swfFrom_mono {α : Type} [DecidableEq α] (d : Nat → α) (m : List (Nat × α)) (lo lo' : Option Nat)
    (h : ∀ k, aboveKey lo k = true → aboveKey lo' k = true)
    (w : swfFrom d lo m = true) : swfFrom d lo' m = true := by
  cases m with
  | nil => rfl
  | cons p m =>
    obtain ⟨k, v⟩ := p
    simp only [swfFrom, Bool.and_eq_true] at w ⊢
    exact ⟨⟨h k w.1.1, w.1.2⟩, w.2⟩

theorem swfFrom_tail {α : Type} [DecidableEq α] (d : Nat → α) (k : Nat) (v : α) (m : List (Nat × α)) (lo : Option Nat)
    (w : swfFrom d lo ((k, v) :: m) = true) : swfFrom d lo m = true := by
  simp only [swfFrom, Bool.and_eq_true] at w
  refine swfFrom_mono d m (some k) lo ?_ w.2
  intro j hj
  cases lo with
  | none => rfl
  | some l =>
    have h1 := w.1.1
    simp only [aboveKey, decide_eq_true_eq] at h1 hj ⊢
    omega

theorem swfFrom_sdel {α : Type} [DecidableEq α] (d : Nat → α) (a : Nat) : ∀ (m : List (Nat × α)) (lo : Option Nat),
    swfFrom d lo m = true → swfFrom d lo (sdel m a) = true
  | [], _, _ => rfl
  | (k, v) :: m, lo, w => by
    have w2 := w
    simp only [swfFrom, Bool.and_eq_true] at w2
    simp only [sdel, List.filter_cons]
    split
    · simp only [swfFrom, Bool.and_eq_true]
      exact ⟨w2.1, swfFrom_sdel d a m (some k) w2.2⟩
    · exact swfFrom_sdel d a m lo (swfFrom_tail d k v m lo w)

theorem swfFrom_sins {α : Type} [DecidableEq α] (d : Nat → α) (a : Nat) (x : α) (hx : x ≠ d a) : ∀ (m : List (Nat × α)) (lo : Option Nat),
    aboveKey lo a = true → swfFrom d lo m = true → swfFrom d lo (sins m a x) = true
  | [], lo, hl, _ => by simp only [sins, swfFrom, Bool.and_eq_true]; exact ⟨⟨hl, by simpa using hx⟩, trivial⟩
  | (k, v) :: m, lo, hl, w => by
    have w2 := w
    simp only [swfFrom, Bool.and_eq_true] at w2
    simp only [sins]
    split
    · next h => subst h; simp only [swfFrom, Bool.and_eq_true]; exact ⟨⟨hl, by simpa using hx⟩, w2.2⟩
    · next h =>
      split
      · next h2 =>
        simp only [swfFrom, Bool.and_eq_true]
        exact ⟨⟨hl, by simpa using hx⟩, ⟨by simpa [aboveKey] using h2, w2.1.2⟩, w2.2⟩
      · next h2 =>
        simp only [swfFrom, Bool.and_eq_true]
        refine ⟨w2.1, swfFrom_sins d a x hx m (some k) ?_ w2.2⟩
        simp only [aboveKey, decide_eq_true_eq]; omega

/-- A write keeps the canonical form. -/
theorem swf_swrite {α : Type} [DecidableEq α] (d : Nat → α) (m : List (Nat × α)) (a : Nat) (x : α) (w : swf d m = true) :
    swf d (swrite d m a x) = true := by
  unfold swrite swf at *
  split
  · exact swfFrom_sdel d a m none w
  · next h => exact swfFrom_sins d a x h m none rfl w

/-- Leaving entries out keeps the canonical form. -/
theorem swf_filter {α : Type} [DecidableEq α] (d : Nat → α) (p : Nat × α → Bool) : ∀ (m : List (Nat × α)) (lo : Option Nat),
    swfFrom d lo m = true → swfFrom d lo (m.filter p) = true
  | [], _, _ => rfl
  | (k, v) :: m, lo, w => by
    have w2 := w
    simp only [swfFrom, Bool.and_eq_true] at w2
    simp only [List.filter_cons]
    split
    · simp only [swfFrom, Bool.and_eq_true]
      exact ⟨w2.1, swf_filter d p m (some k) w2.2⟩
    · exact swf_filter d p m lo (swfFrom_tail d k v m lo w)

/-! ### Registers and fields -/

/-- A register written reads as what was written; every other register reads as before. -/
theorem Chip.rd_wr (c : Chip) (a b : Nat) (v : Word) : (c.wr a v).rd b = if b = a then v else c.rd b := by
  unfold Chip.rd Chip.wr; exact sread_swrite _ _ _ _ _

theorem Chip.rd_wr_self (c : Chip) (a : Nat) (v : Word) : (c.wr a v).rd a = v := by rw [Chip.rd_wr, if_pos rfl]

theorem Chip.rd_wr_ne (c : Chip) (a b : Nat) (v : Word) (h : b ≠ a) : (c.wr a v).rd b = c.rd b := by rw [Chip.rd_wr, if_neg h]

/-- A register write keeps the canonical form of the register file. -/
theorem Chip.wr_regs_wf (c : Chip) (a : Nat) (v : Word) (w : Regs.wf c.regs = true) : Regs.wf (c.wr a v).regs = true :=
  swf_swrite resetWord c.regs a v w

/-- A field set leaves every other register alone. -/
theorem Chip.rd_set_ne (c : Chip) (f : Fld) (v b : Nat) (h : b ≠ f.addr) : (c.set f v).rd b = c.rd b := Chip.rd_wr_ne _ _ _ _ h

/-- A field that lies in the register's 32 bits reads as the low bits of what it was set to. -/
theorem Chip.get_set_self (c : Chip) (f : Fld) (v : Nat) (h : f.lo + f.w ≤ 32) : (c.set f v).get f = v % 2 ^ f.w := by
  unfold Chip.get Chip.set
  rw [Chip.rd_wr_self, BitVec.toNat_ofNat, Nat.mod_eq_of_lt (putBits_lt _ _ _ _ 32 (c.rd f.addr).isLt h), bitsOf_putBits]

/-- A field set leaves the fields of other registers alone. -/
theorem Chip.get_set_ne (c : Chip) (f g : Fld) (v : Nat) (h : g.addr ≠ f.addr) : (c.set f v).get g = c.get g := by
  unfold Chip.get; rw [Chip.rd_set_ne _ _ _ _ h]

/-- A field set leaves the fields of its register that do not overlap it alone. -/
theorem Chip.get_set_apart (c : Chip) (f g : Fld) (v : Nat) (h : f.lo + f.w ≤ 32) (ha : g.addr = f.addr)
    (hd : g.lo + g.w ≤ f.lo ∨ f.lo + f.w ≤ g.lo) : (c.set f v).get g = c.get g := by
  unfold Chip.get Chip.set
  rw [ha, Chip.rd_wr_self, BitVec.toNat_ofNat, Nat.mod_eq_of_lt (putBits_lt _ _ _ _ 32 (c.rd f.addr).isLt h)]
  rcases hd with hd | hd
  · exact bitsOf_putBits_below _ _ _ _ _ _ hd
  · exact bitsOf_putBits_above _ _ _ _ _ _ hd

/-- A one-bit field reads as it was put. -/
theorem Chip.is_put_self (c : Chip) (f : Fld) (b : Bool) (hw : f.w = 1) (h : f.lo + f.w ≤ 32) : (c.put f b).is f = b := by
  unfold Chip.is Chip.put
  rw [Chip.get_set_self _ _ _ h, hw]; cases b <;> rfl

/-- A field put leaves the fields of other registers alone. -/
theorem Chip.is_put_ne (c : Chip) (f g : Fld) (b : Bool) (h : g.addr ≠ f.addr) : (c.put f b).is g = c.is g := by
  unfold Chip.is Chip.put; rw [Chip.get_set_ne _ _ _ _ h]

/-! ### Memory -/

/-- A byte written reads as what was written; every other byte reads as before. -/
theorem Chip.rdB_wrB (c : Chip) (a b : Nat) (x : Byte) : (c.wrB a x).rdB b = if b = a then x else c.rdB b := by
  unfold Chip.rdB Chip.wrB; exact sread_swrite _ _ _ _ _

/-- A byte write keeps the canonical form of memory. -/
theorem Chip.wrB_wf (c : Chip) (a : Nat) (x : Byte) (w : Memory.wf c.mem = true) : Memory.wf (c.wrB a x).mem = true :=
  swf_swrite memDefault c.mem a x w

/-- A write of bytes leaves every byte outside them alone. -/
theorem Chip.rdB_wrBytes_ne (bs : List Byte) : ∀ (c : Chip) (a b : Nat), (b < a ∨ a + bs.length ≤ b) → (c.wrBytes a bs).rdB b = c.rdB b := by
  induction bs with
  | nil => intro c a b _; rfl
  | cons x bs ih =>
    intro c a b h
    simp only [List.length_cons] at h
    have := ih (c.wrB a x) (a + 1) b (by omega)
    rw [show c.wrBytes a (x :: bs) = (c.wrB a x).wrBytes (a + 1) bs from rfl, this, Chip.rdB_wrB, if_neg (by omega)]

/-- A write of bytes keeps the canonical form of memory. -/
theorem Chip.wrBytes_wf (bs : List Byte) : ∀ (c : Chip) (a : Nat), Memory.wf c.mem = true → Memory.wf (c.wrBytes a bs).mem = true := by
  induction bs with
  | nil => intro c a w; exact w
  | cons x bs ih => intro c a w; exact ih (c.wrB a x) (a + 1) (Chip.wrB_wf c a x w)

/-- A write of bytes touches memory alone. -/
theorem Chip.wrBytes_regs (bs : List Byte) : ∀ (c : Chip) (a : Nat), (c.wrBytes a bs).regs = c.regs := by
  induction bs with
  | nil => intro c a; rfl
  | cons x bs ih => intro c a; exact ih (c.wrB a x) (a + 1)

end Sys2Proof.Machine
end

