-- ==== Sys2Proof/Laws/State.lean ====
section
/-! SUPPORT. What each primitive update of the chip leaves alone, one lemma for each field, and what a read of a register sees after an
update of a field that is not the register file. -/

namespace Sys2Proof.Machine

/-! ### wr -/

@[simp] theorem Chip.wr_now (c : Chip) (a : Nat) (v : Word) : (c.wr a v).now = c.now := rfl
@[simp] theorem Chip.wr_tbVeh (c : Chip) (a : Nat) (v : Word) : (c.wr a v).tbVeh = c.tbVeh := rfl
@[simp] theorem Chip.wr_vehRest (c : Chip) (a : Nat) (v : Word) : (c.wr a v).vehRest = c.vehRest := rfl
@[simp] theorem Chip.wr_mem (c : Chip) (a : Nat) (v : Word) : (c.wr a v).mem = c.mem := rfl
@[simp] theorem Chip.wr_nor (c : Chip) (a : Nat) (v : Word) : (c.wr a v).nor = c.nor := rfl
@[simp] theorem Chip.wr_norSize (c : Chip) (a : Nat) (v : Word) : (c.wr a v).norSize = c.norSize := rfl
@[simp] theorem Chip.wr_fuses (c : Chip) (a : Nat) (v : Word) : (c.wr a v).fuses = c.fuses := rfl
@[simp] theorem Chip.wr_pins (c : Chip) (a : Nat) (v : Word) : (c.wr a v).pins = c.pins := rfl
@[simp] theorem Chip.wr_sup (c : Chip) (a : Nat) (v : Word) : (c.wr a v).sup = c.sup := rfl
@[simp] theorem Chip.wr_sys (c : Chip) (a : Nat) (v : Word) : (c.wr a v).sys = c.sys := rfl
@[simp] theorem Chip.wr_flt (c : Chip) (a : Nat) (v : Word) : (c.wr a v).flt = c.flt := rfl
@[simp] theorem Chip.wr_wqm (c : Chip) (a : Nat) (v : Word) : (c.wr a v).wqm = c.wqm := rfl
@[simp] theorem Chip.wr_ledg (c : Chip) (a : Nat) (v : Word) : (c.wr a v).ledg = c.ledg := rfl
@[simp] theorem Chip.wr_fbk (c : Chip) (a : Nat) (v : Word) : (c.wr a v).fbk = c.fbk := rfl
@[simp] theorem Chip.wr_wheel (c : Chip) (a : Nat) (v : Word) : (c.wr a v).wheel = c.wheel := rfl
@[simp] theorem Chip.wr_dom (c : Chip) (a : Nat) (v : Word) : (c.wr a v).dom = c.dom := rfl
@[simp] theorem Chip.wr_axes (c : Chip) (a : Nat) (v : Word) : (c.wr a v).axes = c.axes := rfl
@[simp] theorem Chip.wr_cur (c : Chip) (a : Nat) (v : Word) : (c.wr a v).cur = c.cur := rfl
@[simp] theorem Chip.wr_vote (c : Chip) (a : Nat) (v : Word) : (c.wr a v).vote = c.vote := rfl
@[simp] theorem Chip.wr_door (c : Chip) (a : Nat) (v : Word) : (c.wr a v).door = c.door := rfl
@[simp] theorem Chip.wr_nos (c : Chip) (a : Nat) (v : Word) : (c.wr a v).nos = c.nos := rfl
@[simp] theorem Chip.wr_vmc (c : Chip) (a : Nat) (v : Word) : (c.wr a v).vmc = c.vmc := rfl
@[simp] theorem Chip.wr_can (c : Chip) (a : Nat) (v : Word) : (c.wr a v).can = c.can := rfl
@[simp] theorem Chip.wr_eth (c : Chip) (a : Nat) (v : Word) : (c.wr a v).eth = c.eth := rfl
@[simp] theorem Chip.wr_tsyn (c : Chip) (a : Nat) (v : Word) : (c.wr a v).tsyn = c.tsyn := rfl
@[simp] theorem Chip.wr_msg (c : Chip) (a : Nat) (v : Word) : (c.wr a v).msg = c.msg := rfl
@[simp] theorem Chip.wr_pair (c : Chip) (a : Nat) (v : Word) : (c.wr a v).pair = c.pair := rfl
@[simp] theorem Chip.wr_cfg (c : Chip) (a : Nat) (v : Word) : (c.wr a v).cfg = c.cfg := rfl
@[simp] theorem Chip.wr_upd (c : Chip) (a : Nat) (v : Word) : (c.wr a v).upd = c.upd := rfl
@[simp] theorem Chip.wr_sess (c : Chip) (a : Nat) (v : Word) : (c.wr a v).sess = c.sess := rfl
@[simp] theorem Chip.wr_free (c : Chip) (a : Nat) (v : Word) : (c.wr a v).free = c.free := rfl
@[simp] theorem Chip.wr_out (c : Chip) (a : Nat) (v : Word) : (c.wr a v).out = c.out := rfl
@[simp] theorem Chip.wr_irq (c : Chip) (a : Nat) (v : Word) : (c.wr a v).irq = c.irq := rfl
@[simp] theorem Chip.wr_snaps (c : Chip) (a : Nat) (v : Word) : (c.wr a v).snaps = c.snaps := rfl
@[simp] theorem Chip.wr_resp (c : Chip) (a : Nat) (v : Word) : (c.wr a v).resp = c.resp := rfl
@[simp] theorem Chip.wr_tickRegs (c : Chip) (a : Nat) (v : Word) : (c.wr a v).tickRegs = c.tickRegs := rfl

/-! ### set -/

@[simp] theorem Chip.set_now (c : Chip) (f : Fld) (v : Nat) : (c.set f v).now = c.now := rfl
@[simp] theorem Chip.set_tbVeh (c : Chip) (f : Fld) (v : Nat) : (c.set f v).tbVeh = c.tbVeh := rfl
@[simp] theorem Chip.set_vehRest (c : Chip) (f : Fld) (v : Nat) : (c.set f v).vehRest = c.vehRest := rfl
@[simp] theorem Chip.set_mem (c : Chip) (f : Fld) (v : Nat) : (c.set f v).mem = c.mem := rfl
@[simp] theorem Chip.set_nor (c : Chip) (f : Fld) (v : Nat) : (c.set f v).nor = c.nor := rfl
@[simp] theorem Chip.set_norSize (c : Chip) (f : Fld) (v : Nat) : (c.set f v).norSize = c.norSize := rfl
@[simp] theorem Chip.set_fuses (c : Chip) (f : Fld) (v : Nat) : (c.set f v).fuses = c.fuses := rfl
@[simp] theorem Chip.set_pins (c : Chip) (f : Fld) (v : Nat) : (c.set f v).pins = c.pins := rfl
@[simp] theorem Chip.set_sup (c : Chip) (f : Fld) (v : Nat) : (c.set f v).sup = c.sup := rfl
@[simp] theorem Chip.set_sys (c : Chip) (f : Fld) (v : Nat) : (c.set f v).sys = c.sys := rfl
@[simp] theorem Chip.set_flt (c : Chip) (f : Fld) (v : Nat) : (c.set f v).flt = c.flt := rfl
@[simp] theorem Chip.set_wqm (c : Chip) (f : Fld) (v : Nat) : (c.set f v).wqm = c.wqm := rfl
@[simp] theorem Chip.set_ledg (c : Chip) (f : Fld) (v : Nat) : (c.set f v).ledg = c.ledg := rfl
@[simp] theorem Chip.set_fbk (c : Chip) (f : Fld) (v : Nat) : (c.set f v).fbk = c.fbk := rfl
@[simp] theorem Chip.set_wheel (c : Chip) (f : Fld) (v : Nat) : (c.set f v).wheel = c.wheel := rfl
@[simp] theorem Chip.set_dom (c : Chip) (f : Fld) (v : Nat) : (c.set f v).dom = c.dom := rfl
@[simp] theorem Chip.set_axes (c : Chip) (f : Fld) (v : Nat) : (c.set f v).axes = c.axes := rfl
@[simp] theorem Chip.set_cur (c : Chip) (f : Fld) (v : Nat) : (c.set f v).cur = c.cur := rfl
@[simp] theorem Chip.set_vote (c : Chip) (f : Fld) (v : Nat) : (c.set f v).vote = c.vote := rfl
@[simp] theorem Chip.set_door (c : Chip) (f : Fld) (v : Nat) : (c.set f v).door = c.door := rfl
@[simp] theorem Chip.set_nos (c : Chip) (f : Fld) (v : Nat) : (c.set f v).nos = c.nos := rfl
@[simp] theorem Chip.set_vmc (c : Chip) (f : Fld) (v : Nat) : (c.set f v).vmc = c.vmc := rfl
@[simp] theorem Chip.set_can (c : Chip) (f : Fld) (v : Nat) : (c.set f v).can = c.can := rfl
@[simp] theorem Chip.set_eth (c : Chip) (f : Fld) (v : Nat) : (c.set f v).eth = c.eth := rfl
@[simp] theorem Chip.set_tsyn (c : Chip) (f : Fld) (v : Nat) : (c.set f v).tsyn = c.tsyn := rfl
@[simp] theorem Chip.set_msg (c : Chip) (f : Fld) (v : Nat) : (c.set f v).msg = c.msg := rfl
@[simp] theorem Chip.set_pair (c : Chip) (f : Fld) (v : Nat) : (c.set f v).pair = c.pair := rfl
@[simp] theorem Chip.set_cfg (c : Chip) (f : Fld) (v : Nat) : (c.set f v).cfg = c.cfg := rfl
@[simp] theorem Chip.set_upd (c : Chip) (f : Fld) (v : Nat) : (c.set f v).upd = c.upd := rfl
@[simp] theorem Chip.set_sess (c : Chip) (f : Fld) (v : Nat) : (c.set f v).sess = c.sess := rfl
@[simp] theorem Chip.set_free (c : Chip) (f : Fld) (v : Nat) : (c.set f v).free = c.free := rfl
@[simp] theorem Chip.set_out (c : Chip) (f : Fld) (v : Nat) : (c.set f v).out = c.out := rfl
@[simp] theorem Chip.set_irq (c : Chip) (f : Fld) (v : Nat) : (c.set f v).irq = c.irq := rfl
@[simp] theorem Chip.set_snaps (c : Chip) (f : Fld) (v : Nat) : (c.set f v).snaps = c.snaps := rfl
@[simp] theorem Chip.set_resp (c : Chip) (f : Fld) (v : Nat) : (c.set f v).resp = c.resp := rfl
@[simp] theorem Chip.set_tickRegs (c : Chip) (f : Fld) (v : Nat) : (c.set f v).tickRegs = c.tickRegs := rfl

/-! ### setI -/

@[simp] theorem Chip.setI_now (c : Chip) (f : Fld) (v : Int) : (c.setI f v).now = c.now := rfl
@[simp] theorem Chip.setI_tbVeh (c : Chip) (f : Fld) (v : Int) : (c.setI f v).tbVeh = c.tbVeh := rfl
@[simp] theorem Chip.setI_vehRest (c : Chip) (f : Fld) (v : Int) : (c.setI f v).vehRest = c.vehRest := rfl
@[simp] theorem Chip.setI_mem (c : Chip) (f : Fld) (v : Int) : (c.setI f v).mem = c.mem := rfl
@[simp] theorem Chip.setI_nor (c : Chip) (f : Fld) (v : Int) : (c.setI f v).nor = c.nor := rfl
@[simp] theorem Chip.setI_norSize (c : Chip) (f : Fld) (v : Int) : (c.setI f v).norSize = c.norSize := rfl
@[simp] theorem Chip.setI_fuses (c : Chip) (f : Fld) (v : Int) : (c.setI f v).fuses = c.fuses := rfl
@[simp] theorem Chip.setI_pins (c : Chip) (f : Fld) (v : Int) : (c.setI f v).pins = c.pins := rfl
@[simp] theorem Chip.setI_sup (c : Chip) (f : Fld) (v : Int) : (c.setI f v).sup = c.sup := rfl
@[simp] theorem Chip.setI_sys (c : Chip) (f : Fld) (v : Int) : (c.setI f v).sys = c.sys := rfl
@[simp] theorem Chip.setI_flt (c : Chip) (f : Fld) (v : Int) : (c.setI f v).flt = c.flt := rfl
@[simp] theorem Chip.setI_wqm (c : Chip) (f : Fld) (v : Int) : (c.setI f v).wqm = c.wqm := rfl
@[simp] theorem Chip.setI_ledg (c : Chip) (f : Fld) (v : Int) : (c.setI f v).ledg = c.ledg := rfl
@[simp] theorem Chip.setI_fbk (c : Chip) (f : Fld) (v : Int) : (c.setI f v).fbk = c.fbk := rfl
@[simp] theorem Chip.setI_wheel (c : Chip) (f : Fld) (v : Int) : (c.setI f v).wheel = c.wheel := rfl
@[simp] theorem Chip.setI_dom (c : Chip) (f : Fld) (v : Int) : (c.setI f v).dom = c.dom := rfl
@[simp] theorem Chip.setI_axes (c : Chip) (f : Fld) (v : Int) : (c.setI f v).axes = c.axes := rfl
@[simp] theorem Chip.setI_cur (c : Chip) (f : Fld) (v : Int) : (c.setI f v).cur = c.cur := rfl
@[simp] theorem Chip.setI_vote (c : Chip) (f : Fld) (v : Int) : (c.setI f v).vote = c.vote := rfl
@[simp] theorem Chip.setI_door (c : Chip) (f : Fld) (v : Int) : (c.setI f v).door = c.door := rfl
@[simp] theorem Chip.setI_nos (c : Chip) (f : Fld) (v : Int) : (c.setI f v).nos = c.nos := rfl
@[simp] theorem Chip.setI_vmc (c : Chip) (f : Fld) (v : Int) : (c.setI f v).vmc = c.vmc := rfl
@[simp] theorem Chip.setI_can (c : Chip) (f : Fld) (v : Int) : (c.setI f v).can = c.can := rfl
@[simp] theorem Chip.setI_eth (c : Chip) (f : Fld) (v : Int) : (c.setI f v).eth = c.eth := rfl
@[simp] theorem Chip.setI_tsyn (c : Chip) (f : Fld) (v : Int) : (c.setI f v).tsyn = c.tsyn := rfl
@[simp] theorem Chip.setI_msg (c : Chip) (f : Fld) (v : Int) : (c.setI f v).msg = c.msg := rfl
@[simp] theorem Chip.setI_pair (c : Chip) (f : Fld) (v : Int) : (c.setI f v).pair = c.pair := rfl
@[simp] theorem Chip.setI_cfg (c : Chip) (f : Fld) (v : Int) : (c.setI f v).cfg = c.cfg := rfl
@[simp] theorem Chip.setI_upd (c : Chip) (f : Fld) (v : Int) : (c.setI f v).upd = c.upd := rfl
@[simp] theorem Chip.setI_sess (c : Chip) (f : Fld) (v : Int) : (c.setI f v).sess = c.sess := rfl
@[simp] theorem Chip.setI_free (c : Chip) (f : Fld) (v : Int) : (c.setI f v).free = c.free := rfl
@[simp] theorem Chip.setI_out (c : Chip) (f : Fld) (v : Int) : (c.setI f v).out = c.out := rfl
@[simp] theorem Chip.setI_irq (c : Chip) (f : Fld) (v : Int) : (c.setI f v).irq = c.irq := rfl
@[simp] theorem Chip.setI_snaps (c : Chip) (f : Fld) (v : Int) : (c.setI f v).snaps = c.snaps := rfl
@[simp] theorem Chip.setI_resp (c : Chip) (f : Fld) (v : Int) : (c.setI f v).resp = c.resp := rfl
@[simp] theorem Chip.setI_tickRegs (c : Chip) (f : Fld) (v : Int) : (c.setI f v).tickRegs = c.tickRegs := rfl

/-! ### setSatI -/

@[simp] theorem Chip.setSatI_now (c : Chip) (f : Fld) (v : Int) : (c.setSatI f v).now = c.now := rfl
@[simp] theorem Chip.setSatI_tbVeh (c : Chip) (f : Fld) (v : Int) : (c.setSatI f v).tbVeh = c.tbVeh := rfl
@[simp] theorem Chip.setSatI_vehRest (c : Chip) (f : Fld) (v : Int) : (c.setSatI f v).vehRest = c.vehRest := rfl
@[simp] theorem Chip.setSatI_mem (c : Chip) (f : Fld) (v : Int) : (c.setSatI f v).mem = c.mem := rfl
@[simp] theorem Chip.setSatI_nor (c : Chip) (f : Fld) (v : Int) : (c.setSatI f v).nor = c.nor := rfl
@[simp] theorem Chip.setSatI_norSize (c : Chip) (f : Fld) (v : Int) : (c.setSatI f v).norSize = c.norSize := rfl
@[simp] theorem Chip.setSatI_fuses (c : Chip) (f : Fld) (v : Int) : (c.setSatI f v).fuses = c.fuses := rfl
@[simp] theorem Chip.setSatI_pins (c : Chip) (f : Fld) (v : Int) : (c.setSatI f v).pins = c.pins := rfl
@[simp] theorem Chip.setSatI_sup (c : Chip) (f : Fld) (v : Int) : (c.setSatI f v).sup = c.sup := rfl
@[simp] theorem Chip.setSatI_sys (c : Chip) (f : Fld) (v : Int) : (c.setSatI f v).sys = c.sys := rfl
@[simp] theorem Chip.setSatI_flt (c : Chip) (f : Fld) (v : Int) : (c.setSatI f v).flt = c.flt := rfl
@[simp] theorem Chip.setSatI_wqm (c : Chip) (f : Fld) (v : Int) : (c.setSatI f v).wqm = c.wqm := rfl
@[simp] theorem Chip.setSatI_ledg (c : Chip) (f : Fld) (v : Int) : (c.setSatI f v).ledg = c.ledg := rfl
@[simp] theorem Chip.setSatI_fbk (c : Chip) (f : Fld) (v : Int) : (c.setSatI f v).fbk = c.fbk := rfl
@[simp] theorem Chip.setSatI_wheel (c : Chip) (f : Fld) (v : Int) : (c.setSatI f v).wheel = c.wheel := rfl
@[simp] theorem Chip.setSatI_dom (c : Chip) (f : Fld) (v : Int) : (c.setSatI f v).dom = c.dom := rfl
@[simp] theorem Chip.setSatI_axes (c : Chip) (f : Fld) (v : Int) : (c.setSatI f v).axes = c.axes := rfl
@[simp] theorem Chip.setSatI_cur (c : Chip) (f : Fld) (v : Int) : (c.setSatI f v).cur = c.cur := rfl
@[simp] theorem Chip.setSatI_vote (c : Chip) (f : Fld) (v : Int) : (c.setSatI f v).vote = c.vote := rfl
@[simp] theorem Chip.setSatI_door (c : Chip) (f : Fld) (v : Int) : (c.setSatI f v).door = c.door := rfl
@[simp] theorem Chip.setSatI_nos (c : Chip) (f : Fld) (v : Int) : (c.setSatI f v).nos = c.nos := rfl
@[simp] theorem Chip.setSatI_vmc (c : Chip) (f : Fld) (v : Int) : (c.setSatI f v).vmc = c.vmc := rfl
@[simp] theorem Chip.setSatI_can (c : Chip) (f : Fld) (v : Int) : (c.setSatI f v).can = c.can := rfl
@[simp] theorem Chip.setSatI_eth (c : Chip) (f : Fld) (v : Int) : (c.setSatI f v).eth = c.eth := rfl
@[simp] theorem Chip.setSatI_tsyn (c : Chip) (f : Fld) (v : Int) : (c.setSatI f v).tsyn = c.tsyn := rfl
@[simp] theorem Chip.setSatI_msg (c : Chip) (f : Fld) (v : Int) : (c.setSatI f v).msg = c.msg := rfl
@[simp] theorem Chip.setSatI_pair (c : Chip) (f : Fld) (v : Int) : (c.setSatI f v).pair = c.pair := rfl
@[simp] theorem Chip.setSatI_cfg (c : Chip) (f : Fld) (v : Int) : (c.setSatI f v).cfg = c.cfg := rfl
@[simp] theorem Chip.setSatI_upd (c : Chip) (f : Fld) (v : Int) : (c.setSatI f v).upd = c.upd := rfl
@[simp] theorem Chip.setSatI_sess (c : Chip) (f : Fld) (v : Int) : (c.setSatI f v).sess = c.sess := rfl
@[simp] theorem Chip.setSatI_free (c : Chip) (f : Fld) (v : Int) : (c.setSatI f v).free = c.free := rfl
@[simp] theorem Chip.setSatI_out (c : Chip) (f : Fld) (v : Int) : (c.setSatI f v).out = c.out := rfl
@[simp] theorem Chip.setSatI_irq (c : Chip) (f : Fld) (v : Int) : (c.setSatI f v).irq = c.irq := rfl
@[simp] theorem Chip.setSatI_snaps (c : Chip) (f : Fld) (v : Int) : (c.setSatI f v).snaps = c.snaps := rfl
@[simp] theorem Chip.setSatI_resp (c : Chip) (f : Fld) (v : Int) : (c.setSatI f v).resp = c.resp := rfl
@[simp] theorem Chip.setSatI_tickRegs (c : Chip) (f : Fld) (v : Int) : (c.setSatI f v).tickRegs = c.tickRegs := rfl

/-! ### put -/

@[simp] theorem Chip.put_now (c : Chip) (f : Fld) (b : Bool) : (c.put f b).now = c.now := rfl
@[simp] theorem Chip.put_tbVeh (c : Chip) (f : Fld) (b : Bool) : (c.put f b).tbVeh = c.tbVeh := rfl
@[simp] theorem Chip.put_vehRest (c : Chip) (f : Fld) (b : Bool) : (c.put f b).vehRest = c.vehRest := rfl
@[simp] theorem Chip.put_mem (c : Chip) (f : Fld) (b : Bool) : (c.put f b).mem = c.mem := rfl
@[simp] theorem Chip.put_nor (c : Chip) (f : Fld) (b : Bool) : (c.put f b).nor = c.nor := rfl
@[simp] theorem Chip.put_norSize (c : Chip) (f : Fld) (b : Bool) : (c.put f b).norSize = c.norSize := rfl
@[simp] theorem Chip.put_fuses (c : Chip) (f : Fld) (b : Bool) : (c.put f b).fuses = c.fuses := rfl
@[simp] theorem Chip.put_pins (c : Chip) (f : Fld) (b : Bool) : (c.put f b).pins = c.pins := rfl
@[simp] theorem Chip.put_sup (c : Chip) (f : Fld) (b : Bool) : (c.put f b).sup = c.sup := rfl
@[simp] theorem Chip.put_sys (c : Chip) (f : Fld) (b : Bool) : (c.put f b).sys = c.sys := rfl
@[simp] theorem Chip.put_flt (c : Chip) (f : Fld) (b : Bool) : (c.put f b).flt = c.flt := rfl
@[simp] theorem Chip.put_wqm (c : Chip) (f : Fld) (b : Bool) : (c.put f b).wqm = c.wqm := rfl
@[simp] theorem Chip.put_ledg (c : Chip) (f : Fld) (b : Bool) : (c.put f b).ledg = c.ledg := rfl
@[simp] theorem Chip.put_fbk (c : Chip) (f : Fld) (b : Bool) : (c.put f b).fbk = c.fbk := rfl
@[simp] theorem Chip.put_wheel (c : Chip) (f : Fld) (b : Bool) : (c.put f b).wheel = c.wheel := rfl
@[simp] theorem Chip.put_dom (c : Chip) (f : Fld) (b : Bool) : (c.put f b).dom = c.dom := rfl
@[simp] theorem Chip.put_axes (c : Chip) (f : Fld) (b : Bool) : (c.put f b).axes = c.axes := rfl
@[simp] theorem Chip.put_cur (c : Chip) (f : Fld) (b : Bool) : (c.put f b).cur = c.cur := rfl
@[simp] theorem Chip.put_vote (c : Chip) (f : Fld) (b : Bool) : (c.put f b).vote = c.vote := rfl
@[simp] theorem Chip.put_door (c : Chip) (f : Fld) (b : Bool) : (c.put f b).door = c.door := rfl
@[simp] theorem Chip.put_nos (c : Chip) (f : Fld) (b : Bool) : (c.put f b).nos = c.nos := rfl
@[simp] theorem Chip.put_vmc (c : Chip) (f : Fld) (b : Bool) : (c.put f b).vmc = c.vmc := rfl
@[simp] theorem Chip.put_can (c : Chip) (f : Fld) (b : Bool) : (c.put f b).can = c.can := rfl
@[simp] theorem Chip.put_eth (c : Chip) (f : Fld) (b : Bool) : (c.put f b).eth = c.eth := rfl
@[simp] theorem Chip.put_tsyn (c : Chip) (f : Fld) (b : Bool) : (c.put f b).tsyn = c.tsyn := rfl
@[simp] theorem Chip.put_msg (c : Chip) (f : Fld) (b : Bool) : (c.put f b).msg = c.msg := rfl
@[simp] theorem Chip.put_pair (c : Chip) (f : Fld) (b : Bool) : (c.put f b).pair = c.pair := rfl
@[simp] theorem Chip.put_cfg (c : Chip) (f : Fld) (b : Bool) : (c.put f b).cfg = c.cfg := rfl
@[simp] theorem Chip.put_upd (c : Chip) (f : Fld) (b : Bool) : (c.put f b).upd = c.upd := rfl
@[simp] theorem Chip.put_sess (c : Chip) (f : Fld) (b : Bool) : (c.put f b).sess = c.sess := rfl
@[simp] theorem Chip.put_free (c : Chip) (f : Fld) (b : Bool) : (c.put f b).free = c.free := rfl
@[simp] theorem Chip.put_out (c : Chip) (f : Fld) (b : Bool) : (c.put f b).out = c.out := rfl
@[simp] theorem Chip.put_irq (c : Chip) (f : Fld) (b : Bool) : (c.put f b).irq = c.irq := rfl
@[simp] theorem Chip.put_snaps (c : Chip) (f : Fld) (b : Bool) : (c.put f b).snaps = c.snaps := rfl
@[simp] theorem Chip.put_resp (c : Chip) (f : Fld) (b : Bool) : (c.put f b).resp = c.resp := rfl
@[simp] theorem Chip.put_tickRegs (c : Chip) (f : Fld) (b : Bool) : (c.put f b).tickRegs = c.tickRegs := rfl

/-! ### incSat -/

@[simp] theorem Chip.incSat_now (c : Chip) (f : Fld) : (c.incSat f).now = c.now := rfl
@[simp] theorem Chip.incSat_tbVeh (c : Chip) (f : Fld) : (c.incSat f).tbVeh = c.tbVeh := rfl
@[simp] theorem Chip.incSat_vehRest (c : Chip) (f : Fld) : (c.incSat f).vehRest = c.vehRest := rfl
@[simp] theorem Chip.incSat_mem (c : Chip) (f : Fld) : (c.incSat f).mem = c.mem := rfl
@[simp] theorem Chip.incSat_nor (c : Chip) (f : Fld) : (c.incSat f).nor = c.nor := rfl
@[simp] theorem Chip.incSat_norSize (c : Chip) (f : Fld) : (c.incSat f).norSize = c.norSize := rfl
@[simp] theorem Chip.incSat_fuses (c : Chip) (f : Fld) : (c.incSat f).fuses = c.fuses := rfl
@[simp] theorem Chip.incSat_pins (c : Chip) (f : Fld) : (c.incSat f).pins = c.pins := rfl
@[simp] theorem Chip.incSat_sup (c : Chip) (f : Fld) : (c.incSat f).sup = c.sup := rfl
@[simp] theorem Chip.incSat_sys (c : Chip) (f : Fld) : (c.incSat f).sys = c.sys := rfl
@[simp] theorem Chip.incSat_flt (c : Chip) (f : Fld) : (c.incSat f).flt = c.flt := rfl
@[simp] theorem Chip.incSat_wqm (c : Chip) (f : Fld) : (c.incSat f).wqm = c.wqm := rfl
@[simp] theorem Chip.incSat_ledg (c : Chip) (f : Fld) : (c.incSat f).ledg = c.ledg := rfl
@[simp] theorem Chip.incSat_fbk (c : Chip) (f : Fld) : (c.incSat f).fbk = c.fbk := rfl
@[simp] theorem Chip.incSat_wheel (c : Chip) (f : Fld) : (c.incSat f).wheel = c.wheel := rfl
@[simp] theorem Chip.incSat_dom (c : Chip) (f : Fld) : (c.incSat f).dom = c.dom := rfl
@[simp] theorem Chip.incSat_axes (c : Chip) (f : Fld) : (c.incSat f).axes = c.axes := rfl
@[simp] theorem Chip.incSat_cur (c : Chip) (f : Fld) : (c.incSat f).cur = c.cur := rfl
@[simp] theorem Chip.incSat_vote (c : Chip) (f : Fld) : (c.incSat f).vote = c.vote := rfl
@[simp] theorem Chip.incSat_door (c : Chip) (f : Fld) : (c.incSat f).door = c.door := rfl
@[simp] theorem Chip.incSat_nos (c : Chip) (f : Fld) : (c.incSat f).nos = c.nos := rfl
@[simp] theorem Chip.incSat_vmc (c : Chip) (f : Fld) : (c.incSat f).vmc = c.vmc := rfl
@[simp] theorem Chip.incSat_can (c : Chip) (f : Fld) : (c.incSat f).can = c.can := rfl
@[simp] theorem Chip.incSat_eth (c : Chip) (f : Fld) : (c.incSat f).eth = c.eth := rfl
@[simp] theorem Chip.incSat_tsyn (c : Chip) (f : Fld) : (c.incSat f).tsyn = c.tsyn := rfl
@[simp] theorem Chip.incSat_msg (c : Chip) (f : Fld) : (c.incSat f).msg = c.msg := rfl
@[simp] theorem Chip.incSat_pair (c : Chip) (f : Fld) : (c.incSat f).pair = c.pair := rfl
@[simp] theorem Chip.incSat_cfg (c : Chip) (f : Fld) : (c.incSat f).cfg = c.cfg := rfl
@[simp] theorem Chip.incSat_upd (c : Chip) (f : Fld) : (c.incSat f).upd = c.upd := rfl
@[simp] theorem Chip.incSat_sess (c : Chip) (f : Fld) : (c.incSat f).sess = c.sess := rfl
@[simp] theorem Chip.incSat_free (c : Chip) (f : Fld) : (c.incSat f).free = c.free := rfl
@[simp] theorem Chip.incSat_out (c : Chip) (f : Fld) : (c.incSat f).out = c.out := rfl
@[simp] theorem Chip.incSat_irq (c : Chip) (f : Fld) : (c.incSat f).irq = c.irq := rfl
@[simp] theorem Chip.incSat_snaps (c : Chip) (f : Fld) : (c.incSat f).snaps = c.snaps := rfl
@[simp] theorem Chip.incSat_resp (c : Chip) (f : Fld) : (c.incSat f).resp = c.resp := rfl
@[simp] theorem Chip.incSat_tickRegs (c : Chip) (f : Fld) : (c.incSat f).tickRegs = c.tickRegs := rfl

/-! ### incWrap -/

@[simp] theorem Chip.incWrap_now (c : Chip) (f : Fld) : (c.incWrap f).now = c.now := rfl
@[simp] theorem Chip.incWrap_tbVeh (c : Chip) (f : Fld) : (c.incWrap f).tbVeh = c.tbVeh := rfl
@[simp] theorem Chip.incWrap_vehRest (c : Chip) (f : Fld) : (c.incWrap f).vehRest = c.vehRest := rfl
@[simp] theorem Chip.incWrap_mem (c : Chip) (f : Fld) : (c.incWrap f).mem = c.mem := rfl
@[simp] theorem Chip.incWrap_nor (c : Chip) (f : Fld) : (c.incWrap f).nor = c.nor := rfl
@[simp] theorem Chip.incWrap_norSize (c : Chip) (f : Fld) : (c.incWrap f).norSize = c.norSize := rfl
@[simp] theorem Chip.incWrap_fuses (c : Chip) (f : Fld) : (c.incWrap f).fuses = c.fuses := rfl
@[simp] theorem Chip.incWrap_pins (c : Chip) (f : Fld) : (c.incWrap f).pins = c.pins := rfl
@[simp] theorem Chip.incWrap_sup (c : Chip) (f : Fld) : (c.incWrap f).sup = c.sup := rfl
@[simp] theorem Chip.incWrap_sys (c : Chip) (f : Fld) : (c.incWrap f).sys = c.sys := rfl
@[simp] theorem Chip.incWrap_flt (c : Chip) (f : Fld) : (c.incWrap f).flt = c.flt := rfl
@[simp] theorem Chip.incWrap_wqm (c : Chip) (f : Fld) : (c.incWrap f).wqm = c.wqm := rfl
@[simp] theorem Chip.incWrap_ledg (c : Chip) (f : Fld) : (c.incWrap f).ledg = c.ledg := rfl
@[simp] theorem Chip.incWrap_fbk (c : Chip) (f : Fld) : (c.incWrap f).fbk = c.fbk := rfl
@[simp] theorem Chip.incWrap_wheel (c : Chip) (f : Fld) : (c.incWrap f).wheel = c.wheel := rfl
@[simp] theorem Chip.incWrap_dom (c : Chip) (f : Fld) : (c.incWrap f).dom = c.dom := rfl
@[simp] theorem Chip.incWrap_axes (c : Chip) (f : Fld) : (c.incWrap f).axes = c.axes := rfl
@[simp] theorem Chip.incWrap_cur (c : Chip) (f : Fld) : (c.incWrap f).cur = c.cur := rfl
@[simp] theorem Chip.incWrap_vote (c : Chip) (f : Fld) : (c.incWrap f).vote = c.vote := rfl
@[simp] theorem Chip.incWrap_door (c : Chip) (f : Fld) : (c.incWrap f).door = c.door := rfl
@[simp] theorem Chip.incWrap_nos (c : Chip) (f : Fld) : (c.incWrap f).nos = c.nos := rfl
@[simp] theorem Chip.incWrap_vmc (c : Chip) (f : Fld) : (c.incWrap f).vmc = c.vmc := rfl
@[simp] theorem Chip.incWrap_can (c : Chip) (f : Fld) : (c.incWrap f).can = c.can := rfl
@[simp] theorem Chip.incWrap_eth (c : Chip) (f : Fld) : (c.incWrap f).eth = c.eth := rfl
@[simp] theorem Chip.incWrap_tsyn (c : Chip) (f : Fld) : (c.incWrap f).tsyn = c.tsyn := rfl
@[simp] theorem Chip.incWrap_msg (c : Chip) (f : Fld) : (c.incWrap f).msg = c.msg := rfl
@[simp] theorem Chip.incWrap_pair (c : Chip) (f : Fld) : (c.incWrap f).pair = c.pair := rfl
@[simp] theorem Chip.incWrap_cfg (c : Chip) (f : Fld) : (c.incWrap f).cfg = c.cfg := rfl
@[simp] theorem Chip.incWrap_upd (c : Chip) (f : Fld) : (c.incWrap f).upd = c.upd := rfl
@[simp] theorem Chip.incWrap_sess (c : Chip) (f : Fld) : (c.incWrap f).sess = c.sess := rfl
@[simp] theorem Chip.incWrap_free (c : Chip) (f : Fld) : (c.incWrap f).free = c.free := rfl
@[simp] theorem Chip.incWrap_out (c : Chip) (f : Fld) : (c.incWrap f).out = c.out := rfl
@[simp] theorem Chip.incWrap_irq (c : Chip) (f : Fld) : (c.incWrap f).irq = c.irq := rfl
@[simp] theorem Chip.incWrap_snaps (c : Chip) (f : Fld) : (c.incWrap f).snaps = c.snaps := rfl
@[simp] theorem Chip.incWrap_resp (c : Chip) (f : Fld) : (c.incWrap f).resp = c.resp := rfl
@[simp] theorem Chip.incWrap_tickRegs (c : Chip) (f : Fld) : (c.incWrap f).tickRegs = c.tickRegs := rfl

/-! ### putBit -/

@[simp] theorem Chip.putBit_now (c : Chip) (f : Fld) (k : Nat) (b : Bool) : (c.putBit f k b).now = c.now := rfl
@[simp] theorem Chip.putBit_tbVeh (c : Chip) (f : Fld) (k : Nat) (b : Bool) : (c.putBit f k b).tbVeh = c.tbVeh := rfl
@[simp] theorem Chip.putBit_vehRest (c : Chip) (f : Fld) (k : Nat) (b : Bool) : (c.putBit f k b).vehRest = c.vehRest := rfl
@[simp] theorem Chip.putBit_mem (c : Chip) (f : Fld) (k : Nat) (b : Bool) : (c.putBit f k b).mem = c.mem := rfl
@[simp] theorem Chip.putBit_nor (c : Chip) (f : Fld) (k : Nat) (b : Bool) : (c.putBit f k b).nor = c.nor := rfl
@[simp] theorem Chip.putBit_norSize (c : Chip) (f : Fld) (k : Nat) (b : Bool) : (c.putBit f k b).norSize = c.norSize := rfl
@[simp] theorem Chip.putBit_fuses (c : Chip) (f : Fld) (k : Nat) (b : Bool) : (c.putBit f k b).fuses = c.fuses := rfl
@[simp] theorem Chip.putBit_pins (c : Chip) (f : Fld) (k : Nat) (b : Bool) : (c.putBit f k b).pins = c.pins := rfl
@[simp] theorem Chip.putBit_sup (c : Chip) (f : Fld) (k : Nat) (b : Bool) : (c.putBit f k b).sup = c.sup := rfl
@[simp] theorem Chip.putBit_sys (c : Chip) (f : Fld) (k : Nat) (b : Bool) : (c.putBit f k b).sys = c.sys := rfl
@[simp] theorem Chip.putBit_flt (c : Chip) (f : Fld) (k : Nat) (b : Bool) : (c.putBit f k b).flt = c.flt := rfl
@[simp] theorem Chip.putBit_wqm (c : Chip) (f : Fld) (k : Nat) (b : Bool) : (c.putBit f k b).wqm = c.wqm := rfl
@[simp] theorem Chip.putBit_ledg (c : Chip) (f : Fld) (k : Nat) (b : Bool) : (c.putBit f k b).ledg = c.ledg := rfl
@[simp] theorem Chip.putBit_fbk (c : Chip) (f : Fld) (k : Nat) (b : Bool) : (c.putBit f k b).fbk = c.fbk := rfl
@[simp] theorem Chip.putBit_wheel (c : Chip) (f : Fld) (k : Nat) (b : Bool) : (c.putBit f k b).wheel = c.wheel := rfl
@[simp] theorem Chip.putBit_dom (c : Chip) (f : Fld) (k : Nat) (b : Bool) : (c.putBit f k b).dom = c.dom := rfl
@[simp] theorem Chip.putBit_axes (c : Chip) (f : Fld) (k : Nat) (b : Bool) : (c.putBit f k b).axes = c.axes := rfl
@[simp] theorem Chip.putBit_cur (c : Chip) (f : Fld) (k : Nat) (b : Bool) : (c.putBit f k b).cur = c.cur := rfl
@[simp] theorem Chip.putBit_vote (c : Chip) (f : Fld) (k : Nat) (b : Bool) : (c.putBit f k b).vote = c.vote := rfl
@[simp] theorem Chip.putBit_door (c : Chip) (f : Fld) (k : Nat) (b : Bool) : (c.putBit f k b).door = c.door := rfl
@[simp] theorem Chip.putBit_nos (c : Chip) (f : Fld) (k : Nat) (b : Bool) : (c.putBit f k b).nos = c.nos := rfl
@[simp] theorem Chip.putBit_vmc (c : Chip) (f : Fld) (k : Nat) (b : Bool) : (c.putBit f k b).vmc = c.vmc := rfl
@[simp] theorem Chip.putBit_can (c : Chip) (f : Fld) (k : Nat) (b : Bool) : (c.putBit f k b).can = c.can := rfl
@[simp] theorem Chip.putBit_eth (c : Chip) (f : Fld) (k : Nat) (b : Bool) : (c.putBit f k b).eth = c.eth := rfl
@[simp] theorem Chip.putBit_tsyn (c : Chip) (f : Fld) (k : Nat) (b : Bool) : (c.putBit f k b).tsyn = c.tsyn := rfl
@[simp] theorem Chip.putBit_msg (c : Chip) (f : Fld) (k : Nat) (b : Bool) : (c.putBit f k b).msg = c.msg := rfl
@[simp] theorem Chip.putBit_pair (c : Chip) (f : Fld) (k : Nat) (b : Bool) : (c.putBit f k b).pair = c.pair := rfl
@[simp] theorem Chip.putBit_cfg (c : Chip) (f : Fld) (k : Nat) (b : Bool) : (c.putBit f k b).cfg = c.cfg := rfl
@[simp] theorem Chip.putBit_upd (c : Chip) (f : Fld) (k : Nat) (b : Bool) : (c.putBit f k b).upd = c.upd := rfl
@[simp] theorem Chip.putBit_sess (c : Chip) (f : Fld) (k : Nat) (b : Bool) : (c.putBit f k b).sess = c.sess := rfl
@[simp] theorem Chip.putBit_free (c : Chip) (f : Fld) (k : Nat) (b : Bool) : (c.putBit f k b).free = c.free := rfl
@[simp] theorem Chip.putBit_out (c : Chip) (f : Fld) (k : Nat) (b : Bool) : (c.putBit f k b).out = c.out := rfl
@[simp] theorem Chip.putBit_irq (c : Chip) (f : Fld) (k : Nat) (b : Bool) : (c.putBit f k b).irq = c.irq := rfl
@[simp] theorem Chip.putBit_snaps (c : Chip) (f : Fld) (k : Nat) (b : Bool) : (c.putBit f k b).snaps = c.snaps := rfl
@[simp] theorem Chip.putBit_resp (c : Chip) (f : Fld) (k : Nat) (b : Bool) : (c.putBit f k b).resp = c.resp := rfl
@[simp] theorem Chip.putBit_tickRegs (c : Chip) (f : Fld) (k : Nat) (b : Bool) : (c.putBit f k b).tickRegs = c.tickRegs := rfl

/-! ### set64 -/

@[simp] theorem Chip.set64_now (c : Chip) (lo hi : Fld) (v : Nat) : (c.set64 lo hi v).now = c.now := rfl
@[simp] theorem Chip.set64_tbVeh (c : Chip) (lo hi : Fld) (v : Nat) : (c.set64 lo hi v).tbVeh = c.tbVeh := rfl
@[simp] theorem Chip.set64_vehRest (c : Chip) (lo hi : Fld) (v : Nat) : (c.set64 lo hi v).vehRest = c.vehRest := rfl
@[simp] theorem Chip.set64_mem (c : Chip) (lo hi : Fld) (v : Nat) : (c.set64 lo hi v).mem = c.mem := rfl
@[simp] theorem Chip.set64_nor (c : Chip) (lo hi : Fld) (v : Nat) : (c.set64 lo hi v).nor = c.nor := rfl
@[simp] theorem Chip.set64_norSize (c : Chip) (lo hi : Fld) (v : Nat) : (c.set64 lo hi v).norSize = c.norSize := rfl
@[simp] theorem Chip.set64_fuses (c : Chip) (lo hi : Fld) (v : Nat) : (c.set64 lo hi v).fuses = c.fuses := rfl
@[simp] theorem Chip.set64_pins (c : Chip) (lo hi : Fld) (v : Nat) : (c.set64 lo hi v).pins = c.pins := rfl
@[simp] theorem Chip.set64_sup (c : Chip) (lo hi : Fld) (v : Nat) : (c.set64 lo hi v).sup = c.sup := rfl
@[simp] theorem Chip.set64_sys (c : Chip) (lo hi : Fld) (v : Nat) : (c.set64 lo hi v).sys = c.sys := rfl
@[simp] theorem Chip.set64_flt (c : Chip) (lo hi : Fld) (v : Nat) : (c.set64 lo hi v).flt = c.flt := rfl
@[simp] theorem Chip.set64_wqm (c : Chip) (lo hi : Fld) (v : Nat) : (c.set64 lo hi v).wqm = c.wqm := rfl
@[simp] theorem Chip.set64_ledg (c : Chip) (lo hi : Fld) (v : Nat) : (c.set64 lo hi v).ledg = c.ledg := rfl
@[simp] theorem Chip.set64_fbk (c : Chip) (lo hi : Fld) (v : Nat) : (c.set64 lo hi v).fbk = c.fbk := rfl
@[simp] theorem Chip.set64_wheel (c : Chip) (lo hi : Fld) (v : Nat) : (c.set64 lo hi v).wheel = c.wheel := rfl
@[simp] theorem Chip.set64_dom (c : Chip) (lo hi : Fld) (v : Nat) : (c.set64 lo hi v).dom = c.dom := rfl
@[simp] theorem Chip.set64_axes (c : Chip) (lo hi : Fld) (v : Nat) : (c.set64 lo hi v).axes = c.axes := rfl
@[simp] theorem Chip.set64_cur (c : Chip) (lo hi : Fld) (v : Nat) : (c.set64 lo hi v).cur = c.cur := rfl
@[simp] theorem Chip.set64_vote (c : Chip) (lo hi : Fld) (v : Nat) : (c.set64 lo hi v).vote = c.vote := rfl
@[simp] theorem Chip.set64_door (c : Chip) (lo hi : Fld) (v : Nat) : (c.set64 lo hi v).door = c.door := rfl
@[simp] theorem Chip.set64_nos (c : Chip) (lo hi : Fld) (v : Nat) : (c.set64 lo hi v).nos = c.nos := rfl
@[simp] theorem Chip.set64_vmc (c : Chip) (lo hi : Fld) (v : Nat) : (c.set64 lo hi v).vmc = c.vmc := rfl
@[simp] theorem Chip.set64_can (c : Chip) (lo hi : Fld) (v : Nat) : (c.set64 lo hi v).can = c.can := rfl
@[simp] theorem Chip.set64_eth (c : Chip) (lo hi : Fld) (v : Nat) : (c.set64 lo hi v).eth = c.eth := rfl
@[simp] theorem Chip.set64_tsyn (c : Chip) (lo hi : Fld) (v : Nat) : (c.set64 lo hi v).tsyn = c.tsyn := rfl
@[simp] theorem Chip.set64_msg (c : Chip) (lo hi : Fld) (v : Nat) : (c.set64 lo hi v).msg = c.msg := rfl
@[simp] theorem Chip.set64_pair (c : Chip) (lo hi : Fld) (v : Nat) : (c.set64 lo hi v).pair = c.pair := rfl
@[simp] theorem Chip.set64_cfg (c : Chip) (lo hi : Fld) (v : Nat) : (c.set64 lo hi v).cfg = c.cfg := rfl
@[simp] theorem Chip.set64_upd (c : Chip) (lo hi : Fld) (v : Nat) : (c.set64 lo hi v).upd = c.upd := rfl
@[simp] theorem Chip.set64_sess (c : Chip) (lo hi : Fld) (v : Nat) : (c.set64 lo hi v).sess = c.sess := rfl
@[simp] theorem Chip.set64_free (c : Chip) (lo hi : Fld) (v : Nat) : (c.set64 lo hi v).free = c.free := rfl
@[simp] theorem Chip.set64_out (c : Chip) (lo hi : Fld) (v : Nat) : (c.set64 lo hi v).out = c.out := rfl
@[simp] theorem Chip.set64_irq (c : Chip) (lo hi : Fld) (v : Nat) : (c.set64 lo hi v).irq = c.irq := rfl
@[simp] theorem Chip.set64_snaps (c : Chip) (lo hi : Fld) (v : Nat) : (c.set64 lo hi v).snaps = c.snaps := rfl
@[simp] theorem Chip.set64_resp (c : Chip) (lo hi : Fld) (v : Nat) : (c.set64 lo hi v).resp = c.resp := rfl
@[simp] theorem Chip.set64_tickRegs (c : Chip) (lo hi : Fld) (v : Nat) : (c.set64 lo hi v).tickRegs = c.tickRegs := rfl

/-! ### wrB -/

@[simp] theorem Chip.wrB_now (c : Chip) (a : Nat) (b : Byte) : (c.wrB a b).now = c.now := rfl
@[simp] theorem Chip.wrB_tbVeh (c : Chip) (a : Nat) (b : Byte) : (c.wrB a b).tbVeh = c.tbVeh := rfl
@[simp] theorem Chip.wrB_vehRest (c : Chip) (a : Nat) (b : Byte) : (c.wrB a b).vehRest = c.vehRest := rfl
@[simp] theorem Chip.wrB_regs (c : Chip) (a : Nat) (b : Byte) : (c.wrB a b).regs = c.regs := rfl
@[simp] theorem Chip.wrB_nor (c : Chip) (a : Nat) (b : Byte) : (c.wrB a b).nor = c.nor := rfl
@[simp] theorem Chip.wrB_norSize (c : Chip) (a : Nat) (b : Byte) : (c.wrB a b).norSize = c.norSize := rfl
@[simp] theorem Chip.wrB_fuses (c : Chip) (a : Nat) (b : Byte) : (c.wrB a b).fuses = c.fuses := rfl
@[simp] theorem Chip.wrB_pins (c : Chip) (a : Nat) (b : Byte) : (c.wrB a b).pins = c.pins := rfl
@[simp] theorem Chip.wrB_sup (c : Chip) (a : Nat) (b : Byte) : (c.wrB a b).sup = c.sup := rfl
@[simp] theorem Chip.wrB_sys (c : Chip) (a : Nat) (b : Byte) : (c.wrB a b).sys = c.sys := rfl
@[simp] theorem Chip.wrB_flt (c : Chip) (a : Nat) (b : Byte) : (c.wrB a b).flt = c.flt := rfl
@[simp] theorem Chip.wrB_wqm (c : Chip) (a : Nat) (b : Byte) : (c.wrB a b).wqm = c.wqm := rfl
@[simp] theorem Chip.wrB_ledg (c : Chip) (a : Nat) (b : Byte) : (c.wrB a b).ledg = c.ledg := rfl
@[simp] theorem Chip.wrB_fbk (c : Chip) (a : Nat) (b : Byte) : (c.wrB a b).fbk = c.fbk := rfl
@[simp] theorem Chip.wrB_wheel (c : Chip) (a : Nat) (b : Byte) : (c.wrB a b).wheel = c.wheel := rfl
@[simp] theorem Chip.wrB_dom (c : Chip) (a : Nat) (b : Byte) : (c.wrB a b).dom = c.dom := rfl
@[simp] theorem Chip.wrB_axes (c : Chip) (a : Nat) (b : Byte) : (c.wrB a b).axes = c.axes := rfl
@[simp] theorem Chip.wrB_cur (c : Chip) (a : Nat) (b : Byte) : (c.wrB a b).cur = c.cur := rfl
@[simp] theorem Chip.wrB_vote (c : Chip) (a : Nat) (b : Byte) : (c.wrB a b).vote = c.vote := rfl
@[simp] theorem Chip.wrB_door (c : Chip) (a : Nat) (b : Byte) : (c.wrB a b).door = c.door := rfl
@[simp] theorem Chip.wrB_nos (c : Chip) (a : Nat) (b : Byte) : (c.wrB a b).nos = c.nos := rfl
@[simp] theorem Chip.wrB_vmc (c : Chip) (a : Nat) (b : Byte) : (c.wrB a b).vmc = c.vmc := rfl
@[simp] theorem Chip.wrB_can (c : Chip) (a : Nat) (b : Byte) : (c.wrB a b).can = c.can := rfl
@[simp] theorem Chip.wrB_eth (c : Chip) (a : Nat) (b : Byte) : (c.wrB a b).eth = c.eth := rfl
@[simp] theorem Chip.wrB_tsyn (c : Chip) (a : Nat) (b : Byte) : (c.wrB a b).tsyn = c.tsyn := rfl
@[simp] theorem Chip.wrB_msg (c : Chip) (a : Nat) (b : Byte) : (c.wrB a b).msg = c.msg := rfl
@[simp] theorem Chip.wrB_pair (c : Chip) (a : Nat) (b : Byte) : (c.wrB a b).pair = c.pair := rfl
@[simp] theorem Chip.wrB_cfg (c : Chip) (a : Nat) (b : Byte) : (c.wrB a b).cfg = c.cfg := rfl
@[simp] theorem Chip.wrB_upd (c : Chip) (a : Nat) (b : Byte) : (c.wrB a b).upd = c.upd := rfl
@[simp] theorem Chip.wrB_sess (c : Chip) (a : Nat) (b : Byte) : (c.wrB a b).sess = c.sess := rfl
@[simp] theorem Chip.wrB_free (c : Chip) (a : Nat) (b : Byte) : (c.wrB a b).free = c.free := rfl
@[simp] theorem Chip.wrB_out (c : Chip) (a : Nat) (b : Byte) : (c.wrB a b).out = c.out := rfl
@[simp] theorem Chip.wrB_irq (c : Chip) (a : Nat) (b : Byte) : (c.wrB a b).irq = c.irq := rfl
@[simp] theorem Chip.wrB_snaps (c : Chip) (a : Nat) (b : Byte) : (c.wrB a b).snaps = c.snaps := rfl
@[simp] theorem Chip.wrB_resp (c : Chip) (a : Nat) (b : Byte) : (c.wrB a b).resp = c.resp := rfl
@[simp] theorem Chip.wrB_tickRegs (c : Chip) (a : Nat) (b : Byte) : (c.wrB a b).tickRegs = c.tickRegs := rfl
@[simp] theorem Chip.wrB_rd (c : Chip) (a : Nat) (b : Byte) (x : Nat) : (c.wrB a b).rd x = c.rd x := rfl
@[simp] theorem Chip.wrB_get (c : Chip) (a : Nat) (b : Byte) (g : Fld) : (c.wrB a b).get g = c.get g := rfl
@[simp] theorem Chip.wrB_is (c : Chip) (a : Nat) (b : Byte) (g : Fld) : (c.wrB a b).is g = c.is g := rfl

/-! ### emit -/

@[simp] theorem Chip.emit_now (c : Chip) (e : Emission) : (c.emit e).now = c.now := rfl
@[simp] theorem Chip.emit_tbVeh (c : Chip) (e : Emission) : (c.emit e).tbVeh = c.tbVeh := rfl
@[simp] theorem Chip.emit_vehRest (c : Chip) (e : Emission) : (c.emit e).vehRest = c.vehRest := rfl
@[simp] theorem Chip.emit_regs (c : Chip) (e : Emission) : (c.emit e).regs = c.regs := rfl
@[simp] theorem Chip.emit_mem (c : Chip) (e : Emission) : (c.emit e).mem = c.mem := rfl
@[simp] theorem Chip.emit_nor (c : Chip) (e : Emission) : (c.emit e).nor = c.nor := rfl
@[simp] theorem Chip.emit_norSize (c : Chip) (e : Emission) : (c.emit e).norSize = c.norSize := rfl
@[simp] theorem Chip.emit_fuses (c : Chip) (e : Emission) : (c.emit e).fuses = c.fuses := rfl
@[simp] theorem Chip.emit_pins (c : Chip) (e : Emission) : (c.emit e).pins = c.pins := rfl
@[simp] theorem Chip.emit_sup (c : Chip) (e : Emission) : (c.emit e).sup = c.sup := rfl
@[simp] theorem Chip.emit_sys (c : Chip) (e : Emission) : (c.emit e).sys = c.sys := rfl
@[simp] theorem Chip.emit_flt (c : Chip) (e : Emission) : (c.emit e).flt = c.flt := rfl
@[simp] theorem Chip.emit_wqm (c : Chip) (e : Emission) : (c.emit e).wqm = c.wqm := rfl
@[simp] theorem Chip.emit_ledg (c : Chip) (e : Emission) : (c.emit e).ledg = c.ledg := rfl
@[simp] theorem Chip.emit_fbk (c : Chip) (e : Emission) : (c.emit e).fbk = c.fbk := rfl
@[simp] theorem Chip.emit_wheel (c : Chip) (e : Emission) : (c.emit e).wheel = c.wheel := rfl
@[simp] theorem Chip.emit_dom (c : Chip) (e : Emission) : (c.emit e).dom = c.dom := rfl
@[simp] theorem Chip.emit_axes (c : Chip) (e : Emission) : (c.emit e).axes = c.axes := rfl
@[simp] theorem Chip.emit_cur (c : Chip) (e : Emission) : (c.emit e).cur = c.cur := rfl
@[simp] theorem Chip.emit_vote (c : Chip) (e : Emission) : (c.emit e).vote = c.vote := rfl
@[simp] theorem Chip.emit_door (c : Chip) (e : Emission) : (c.emit e).door = c.door := rfl
@[simp] theorem Chip.emit_nos (c : Chip) (e : Emission) : (c.emit e).nos = c.nos := rfl
@[simp] theorem Chip.emit_vmc (c : Chip) (e : Emission) : (c.emit e).vmc = c.vmc := rfl
@[simp] theorem Chip.emit_can (c : Chip) (e : Emission) : (c.emit e).can = c.can := rfl
@[simp] theorem Chip.emit_eth (c : Chip) (e : Emission) : (c.emit e).eth = c.eth := rfl
@[simp] theorem Chip.emit_tsyn (c : Chip) (e : Emission) : (c.emit e).tsyn = c.tsyn := rfl
@[simp] theorem Chip.emit_msg (c : Chip) (e : Emission) : (c.emit e).msg = c.msg := rfl
@[simp] theorem Chip.emit_pair (c : Chip) (e : Emission) : (c.emit e).pair = c.pair := rfl
@[simp] theorem Chip.emit_cfg (c : Chip) (e : Emission) : (c.emit e).cfg = c.cfg := rfl
@[simp] theorem Chip.emit_upd (c : Chip) (e : Emission) : (c.emit e).upd = c.upd := rfl
@[simp] theorem Chip.emit_sess (c : Chip) (e : Emission) : (c.emit e).sess = c.sess := rfl
@[simp] theorem Chip.emit_free (c : Chip) (e : Emission) : (c.emit e).free = c.free := rfl
@[simp] theorem Chip.emit_irq (c : Chip) (e : Emission) : (c.emit e).irq = c.irq := rfl
@[simp] theorem Chip.emit_snaps (c : Chip) (e : Emission) : (c.emit e).snaps = c.snaps := rfl
@[simp] theorem Chip.emit_resp (c : Chip) (e : Emission) : (c.emit e).resp = c.resp := rfl
@[simp] theorem Chip.emit_tickRegs (c : Chip) (e : Emission) : (c.emit e).tickRegs = c.tickRegs := rfl
@[simp] theorem Chip.emit_rd (c : Chip) (e : Emission) (x : Nat) : (c.emit e).rd x = c.rd x := rfl
@[simp] theorem Chip.emit_get (c : Chip) (e : Emission) (g : Fld) : (c.emit e).get g = c.get g := rfl
@[simp] theorem Chip.emit_is (c : Chip) (e : Emission) (g : Fld) : (c.emit e).is g = c.is g := rfl

/-! ### tickFree -/

@[simp] theorem Chip.tickFree_now (c : Chip) : (c.tickFree).now = c.now := rfl
@[simp] theorem Chip.tickFree_tbVeh (c : Chip) : (c.tickFree).tbVeh = c.tbVeh := rfl
@[simp] theorem Chip.tickFree_vehRest (c : Chip) : (c.tickFree).vehRest = c.vehRest := rfl
@[simp] theorem Chip.tickFree_regs (c : Chip) : (c.tickFree).regs = c.regs := rfl
@[simp] theorem Chip.tickFree_mem (c : Chip) : (c.tickFree).mem = c.mem := rfl
@[simp] theorem Chip.tickFree_nor (c : Chip) : (c.tickFree).nor = c.nor := rfl
@[simp] theorem Chip.tickFree_norSize (c : Chip) : (c.tickFree).norSize = c.norSize := rfl
@[simp] theorem Chip.tickFree_fuses (c : Chip) : (c.tickFree).fuses = c.fuses := rfl
@[simp] theorem Chip.tickFree_pins (c : Chip) : (c.tickFree).pins = c.pins := rfl
@[simp] theorem Chip.tickFree_sup (c : Chip) : (c.tickFree).sup = c.sup := rfl
@[simp] theorem Chip.tickFree_sys (c : Chip) : (c.tickFree).sys = c.sys := rfl
@[simp] theorem Chip.tickFree_flt (c : Chip) : (c.tickFree).flt = c.flt := rfl
@[simp] theorem Chip.tickFree_wqm (c : Chip) : (c.tickFree).wqm = c.wqm := rfl
@[simp] theorem Chip.tickFree_ledg (c : Chip) : (c.tickFree).ledg = c.ledg := rfl
@[simp] theorem Chip.tickFree_fbk (c : Chip) : (c.tickFree).fbk = c.fbk := rfl
@[simp] theorem Chip.tickFree_wheel (c : Chip) : (c.tickFree).wheel = c.wheel := rfl
@[simp] theorem Chip.tickFree_dom (c : Chip) : (c.tickFree).dom = c.dom := rfl
@[simp] theorem Chip.tickFree_axes (c : Chip) : (c.tickFree).axes = c.axes := rfl
@[simp] theorem Chip.tickFree_cur (c : Chip) : (c.tickFree).cur = c.cur := rfl
@[simp] theorem Chip.tickFree_vote (c : Chip) : (c.tickFree).vote = c.vote := rfl
@[simp] theorem Chip.tickFree_door (c : Chip) : (c.tickFree).door = c.door := rfl
@[simp] theorem Chip.tickFree_nos (c : Chip) : (c.tickFree).nos = c.nos := rfl
@[simp] theorem Chip.tickFree_vmc (c : Chip) : (c.tickFree).vmc = c.vmc := rfl
@[simp] theorem Chip.tickFree_can (c : Chip) : (c.tickFree).can = c.can := rfl
@[simp] theorem Chip.tickFree_eth (c : Chip) : (c.tickFree).eth = c.eth := rfl
@[simp] theorem Chip.tickFree_tsyn (c : Chip) : (c.tickFree).tsyn = c.tsyn := rfl
@[simp] theorem Chip.tickFree_msg (c : Chip) : (c.tickFree).msg = c.msg := rfl
@[simp] theorem Chip.tickFree_pair (c : Chip) : (c.tickFree).pair = c.pair := rfl
@[simp] theorem Chip.tickFree_cfg (c : Chip) : (c.tickFree).cfg = c.cfg := rfl
@[simp] theorem Chip.tickFree_upd (c : Chip) : (c.tickFree).upd = c.upd := rfl
@[simp] theorem Chip.tickFree_sess (c : Chip) : (c.tickFree).sess = c.sess := rfl
@[simp] theorem Chip.tickFree_out (c : Chip) : (c.tickFree).out = c.out := rfl
@[simp] theorem Chip.tickFree_irq (c : Chip) : (c.tickFree).irq = c.irq := rfl
@[simp] theorem Chip.tickFree_snaps (c : Chip) : (c.tickFree).snaps = c.snaps := rfl
@[simp] theorem Chip.tickFree_resp (c : Chip) : (c.tickFree).resp = c.resp := rfl
@[simp] theorem Chip.tickFree_tickRegs (c : Chip) : (c.tickFree).tickRegs = c.tickRegs := rfl
@[simp] theorem Chip.tickFree_rd (c : Chip) (x : Nat) : (c.tickFree).rd x = c.rd x := rfl
@[simp] theorem Chip.tickFree_get (c : Chip) (g : Fld) : (c.tickFree).get g = c.get g := rfl
@[simp] theorem Chip.tickFree_is (c : Chip) (g : Fld) : (c.tickFree).is g = c.is g := rfl

/-! ### Reads after an update of one field -/

@[simp] theorem Chip.rd_with_now (c : Chip) (v : Nat) (x : Nat) : (Chip.rd { c with now := v } x) = c.rd x := rfl
@[simp] theorem Chip.get_with_now (c : Chip) (v : Nat) (g : Fld) : (Chip.get { c with now := v } g) = c.get g := rfl
@[simp] theorem Chip.is_with_now (c : Chip) (v : Nat) (g : Fld) : (Chip.is { c with now := v } g) = c.is g := rfl
@[simp] theorem Chip.rd_with_tbVeh (c : Chip) (v : Nat) (x : Nat) : (Chip.rd { c with tbVeh := v } x) = c.rd x := rfl
@[simp] theorem Chip.get_with_tbVeh (c : Chip) (v : Nat) (g : Fld) : (Chip.get { c with tbVeh := v } g) = c.get g := rfl
@[simp] theorem Chip.is_with_tbVeh (c : Chip) (v : Nat) (g : Fld) : (Chip.is { c with tbVeh := v } g) = c.is g := rfl
@[simp] theorem Chip.rd_with_vehRest (c : Chip) (v : Int) (x : Nat) : (Chip.rd { c with vehRest := v } x) = c.rd x := rfl
@[simp] theorem Chip.get_with_vehRest (c : Chip) (v : Int) (g : Fld) : (Chip.get { c with vehRest := v } g) = c.get g := rfl
@[simp] theorem Chip.is_with_vehRest (c : Chip) (v : Int) (g : Fld) : (Chip.is { c with vehRest := v } g) = c.is g := rfl
@[simp] theorem Chip.rd_with_mem (c : Chip) (v : List Host.Cell) (x : Nat) : (Chip.rd { c with mem := v } x) = c.rd x := rfl
@[simp] theorem Chip.get_with_mem (c : Chip) (v : List Host.Cell) (g : Fld) : (Chip.get { c with mem := v } g) = c.get g := rfl
@[simp] theorem Chip.is_with_mem (c : Chip) (v : List Host.Cell) (g : Fld) : (Chip.is { c with mem := v } g) = c.is g := rfl
@[simp] theorem Chip.rd_with_nor (c : Chip) (v : List Host.Cell) (x : Nat) : (Chip.rd { c with nor := v } x) = c.rd x := rfl
@[simp] theorem Chip.get_with_nor (c : Chip) (v : List Host.Cell) (g : Fld) : (Chip.get { c with nor := v } g) = c.get g := rfl
@[simp] theorem Chip.is_with_nor (c : Chip) (v : List Host.Cell) (g : Fld) : (Chip.is { c with nor := v } g) = c.is g := rfl
@[simp] theorem Chip.rd_with_norSize (c : Chip) (v : Nat) (x : Nat) : (Chip.rd { c with norSize := v } x) = c.rd x := rfl
@[simp] theorem Chip.get_with_norSize (c : Chip) (v : Nat) (g : Fld) : (Chip.get { c with norSize := v } g) = c.get g := rfl
@[simp] theorem Chip.is_with_norSize (c : Chip) (v : Nat) (g : Fld) : (Chip.is { c with norSize := v } g) = c.is g := rfl
@[simp] theorem Chip.rd_with_fuses (c : Chip) (v : Fuses) (x : Nat) : (Chip.rd { c with fuses := v } x) = c.rd x := rfl
@[simp] theorem Chip.get_with_fuses (c : Chip) (v : Fuses) (g : Fld) : (Chip.get { c with fuses := v } g) = c.get g := rfl
@[simp] theorem Chip.is_with_fuses (c : Chip) (v : Fuses) (g : Fld) : (Chip.is { c with fuses := v } g) = c.is g := rfl
@[simp] theorem Chip.rd_with_pins (c : Chip) (v : Pins) (x : Nat) : (Chip.rd { c with pins := v } x) = c.rd x := rfl
@[simp] theorem Chip.get_with_pins (c : Chip) (v : Pins) (g : Fld) : (Chip.get { c with pins := v } g) = c.get g := rfl
@[simp] theorem Chip.is_with_pins (c : Chip) (v : Pins) (g : Fld) : (Chip.is { c with pins := v } g) = c.is g := rfl
@[simp] theorem Chip.rd_with_sup (c : Chip) (v : Sup) (x : Nat) : (Chip.rd { c with sup := v } x) = c.rd x := rfl
@[simp] theorem Chip.get_with_sup (c : Chip) (v : Sup) (g : Fld) : (Chip.get { c with sup := v } g) = c.get g := rfl
@[simp] theorem Chip.is_with_sup (c : Chip) (v : Sup) (g : Fld) : (Chip.is { c with sup := v } g) = c.is g := rfl
@[simp] theorem Chip.rd_with_sys (c : Chip) (v : Sys) (x : Nat) : (Chip.rd { c with sys := v } x) = c.rd x := rfl
@[simp] theorem Chip.get_with_sys (c : Chip) (v : Sys) (g : Fld) : (Chip.get { c with sys := v } g) = c.get g := rfl
@[simp] theorem Chip.is_with_sys (c : Chip) (v : Sys) (g : Fld) : (Chip.is { c with sys := v } g) = c.is g := rfl
@[simp] theorem Chip.rd_with_flt (c : Chip) (v : Flt) (x : Nat) : (Chip.rd { c with flt := v } x) = c.rd x := rfl
@[simp] theorem Chip.get_with_flt (c : Chip) (v : Flt) (g : Fld) : (Chip.get { c with flt := v } g) = c.get g := rfl
@[simp] theorem Chip.is_with_flt (c : Chip) (v : Flt) (g : Fld) : (Chip.is { c with flt := v } g) = c.is g := rfl
@[simp] theorem Chip.rd_with_wqm (c : Chip) (v : Wqm) (x : Nat) : (Chip.rd { c with wqm := v } x) = c.rd x := rfl
@[simp] theorem Chip.get_with_wqm (c : Chip) (v : Wqm) (g : Fld) : (Chip.get { c with wqm := v } g) = c.get g := rfl
@[simp] theorem Chip.is_with_wqm (c : Chip) (v : Wqm) (g : Fld) : (Chip.is { c with wqm := v } g) = c.is g := rfl
@[simp] theorem Chip.rd_with_ledg (c : Chip) (v : Ledg) (x : Nat) : (Chip.rd { c with ledg := v } x) = c.rd x := rfl
@[simp] theorem Chip.get_with_ledg (c : Chip) (v : Ledg) (g : Fld) : (Chip.get { c with ledg := v } g) = c.get g := rfl
@[simp] theorem Chip.is_with_ledg (c : Chip) (v : Ledg) (g : Fld) : (Chip.is { c with ledg := v } g) = c.is g := rfl
@[simp] theorem Chip.rd_with_fbk (c : Chip) (v : List FbkCh) (x : Nat) : (Chip.rd { c with fbk := v } x) = c.rd x := rfl
@[simp] theorem Chip.get_with_fbk (c : Chip) (v : List FbkCh) (g : Fld) : (Chip.get { c with fbk := v } g) = c.get g := rfl
@[simp] theorem Chip.is_with_fbk (c : Chip) (v : List FbkCh) (g : Fld) : (Chip.is { c with fbk := v } g) = c.is g := rfl
@[simp] theorem Chip.rd_with_wheel (c : Chip) (v : Wheel) (x : Nat) : (Chip.rd { c with wheel := v } x) = c.rd x := rfl
@[simp] theorem Chip.get_with_wheel (c : Chip) (v : Wheel) (g : Fld) : (Chip.get { c with wheel := v } g) = c.get g := rfl
@[simp] theorem Chip.is_with_wheel (c : Chip) (v : Wheel) (g : Fld) : (Chip.is { c with wheel := v } g) = c.is g := rfl
@[simp] theorem Chip.rd_with_dom (c : Chip) (v : Dom) (x : Nat) : (Chip.rd { c with dom := v } x) = c.rd x := rfl
@[simp] theorem Chip.get_with_dom (c : Chip) (v : Dom) (g : Fld) : (Chip.get { c with dom := v } g) = c.get g := rfl
@[simp] theorem Chip.is_with_dom (c : Chip) (v : Dom) (g : Fld) : (Chip.is { c with dom := v } g) = c.is g := rfl
@[simp] theorem Chip.rd_with_axes (c : Chip) (v : List Axis) (x : Nat) : (Chip.rd { c with axes := v } x) = c.rd x := rfl
@[simp] theorem Chip.get_with_axes (c : Chip) (v : List Axis) (g : Fld) : (Chip.get { c with axes := v } g) = c.get g := rfl
@[simp] theorem Chip.is_with_axes (c : Chip) (v : List Axis) (g : Fld) : (Chip.is { c with axes := v } g) = c.is g := rfl
@[simp] theorem Chip.rd_with_cur (c : Chip) (v : List CurAx) (x : Nat) : (Chip.rd { c with cur := v } x) = c.rd x := rfl
@[simp] theorem Chip.get_with_cur (c : Chip) (v : List CurAx) (g : Fld) : (Chip.get { c with cur := v } g) = c.get g := rfl
@[simp] theorem Chip.is_with_cur (c : Chip) (v : List CurAx) (g : Fld) : (Chip.is { c with cur := v } g) = c.is g := rfl
@[simp] theorem Chip.rd_with_vote (c : Chip) (v : VoteSt) (x : Nat) : (Chip.rd { c with vote := v } x) = c.rd x := rfl
@[simp] theorem Chip.get_with_vote (c : Chip) (v : VoteSt) (g : Fld) : (Chip.get { c with vote := v } g) = c.get g := rfl
@[simp] theorem Chip.is_with_vote (c : Chip) (v : VoteSt) (g : Fld) : (Chip.is { c with vote := v } g) = c.is g := rfl
@[simp] theorem Chip.rd_with_door (c : Chip) (v : DoorSt) (x : Nat) : (Chip.rd { c with door := v } x) = c.rd x := rfl
@[simp] theorem Chip.get_with_door (c : Chip) (v : DoorSt) (g : Fld) : (Chip.get { c with door := v } g) = c.get g := rfl
@[simp] theorem Chip.is_with_door (c : Chip) (v : DoorSt) (g : Fld) : (Chip.is { c with door := v } g) = c.is g := rfl
@[simp] theorem Chip.rd_with_nos (c : Chip) (v : NosSt) (x : Nat) : (Chip.rd { c with nos := v } x) = c.rd x := rfl
@[simp] theorem Chip.get_with_nos (c : Chip) (v : NosSt) (g : Fld) : (Chip.get { c with nos := v } g) = c.get g := rfl
@[simp] theorem Chip.is_with_nos (c : Chip) (v : NosSt) (g : Fld) : (Chip.is { c with nos := v } g) = c.is g := rfl
@[simp] theorem Chip.rd_with_vmc (c : Chip) (v : Vmc) (x : Nat) : (Chip.rd { c with vmc := v } x) = c.rd x := rfl
@[simp] theorem Chip.get_with_vmc (c : Chip) (v : Vmc) (g : Fld) : (Chip.get { c with vmc := v } g) = c.get g := rfl
@[simp] theorem Chip.is_with_vmc (c : Chip) (v : Vmc) (g : Fld) : (Chip.is { c with vmc := v } g) = c.is g := rfl
@[simp] theorem Chip.rd_with_can (c : Chip) (v : List CanCtl) (x : Nat) : (Chip.rd { c with can := v } x) = c.rd x := rfl
@[simp] theorem Chip.get_with_can (c : Chip) (v : List CanCtl) (g : Fld) : (Chip.get { c with can := v } g) = c.get g := rfl
@[simp] theorem Chip.is_with_can (c : Chip) (v : List CanCtl) (g : Fld) : (Chip.is { c with can := v } g) = c.is g := rfl
@[simp] theorem Chip.rd_with_eth (c : Chip) (v : EthSt) (x : Nat) : (Chip.rd { c with eth := v } x) = c.rd x := rfl
@[simp] theorem Chip.get_with_eth (c : Chip) (v : EthSt) (g : Fld) : (Chip.get { c with eth := v } g) = c.get g := rfl
@[simp] theorem Chip.is_with_eth (c : Chip) (v : EthSt) (g : Fld) : (Chip.is { c with eth := v } g) = c.is g := rfl
@[simp] theorem Chip.rd_with_tsyn (c : Chip) (v : TsynSt) (x : Nat) : (Chip.rd { c with tsyn := v } x) = c.rd x := rfl
@[simp] theorem Chip.get_with_tsyn (c : Chip) (v : TsynSt) (g : Fld) : (Chip.get { c with tsyn := v } g) = c.get g := rfl
@[simp] theorem Chip.is_with_tsyn (c : Chip) (v : TsynSt) (g : Fld) : (Chip.is { c with tsyn := v } g) = c.is g := rfl
@[simp] theorem Chip.rd_with_msg (c : Chip) (v : MsgSt) (x : Nat) : (Chip.rd { c with msg := v } x) = c.rd x := rfl
@[simp] theorem Chip.get_with_msg (c : Chip) (v : MsgSt) (g : Fld) : (Chip.get { c with msg := v } g) = c.get g := rfl
@[simp] theorem Chip.is_with_msg (c : Chip) (v : MsgSt) (g : Fld) : (Chip.is { c with msg := v } g) = c.is g := rfl
@[simp] theorem Chip.rd_with_pair (c : Chip) (v : PairSt) (x : Nat) : (Chip.rd { c with pair := v } x) = c.rd x := rfl
@[simp] theorem Chip.get_with_pair (c : Chip) (v : PairSt) (g : Fld) : (Chip.get { c with pair := v } g) = c.get g := rfl
@[simp] theorem Chip.is_with_pair (c : Chip) (v : PairSt) (g : Fld) : (Chip.is { c with pair := v } g) = c.is g := rfl
@[simp] theorem Chip.rd_with_cfg (c : Chip) (v : CfgSt) (x : Nat) : (Chip.rd { c with cfg := v } x) = c.rd x := rfl
@[simp] theorem Chip.get_with_cfg (c : Chip) (v : CfgSt) (g : Fld) : (Chip.get { c with cfg := v } g) = c.get g := rfl
@[simp] theorem Chip.is_with_cfg (c : Chip) (v : CfgSt) (g : Fld) : (Chip.is { c with cfg := v } g) = c.is g := rfl
@[simp] theorem Chip.rd_with_upd (c : Chip) (v : UpdSt) (x : Nat) : (Chip.rd { c with upd := v } x) = c.rd x := rfl
@[simp] theorem Chip.get_with_upd (c : Chip) (v : UpdSt) (g : Fld) : (Chip.get { c with upd := v } g) = c.get g := rfl
@[simp] theorem Chip.is_with_upd (c : Chip) (v : UpdSt) (g : Fld) : (Chip.is { c with upd := v } g) = c.is g := rfl
@[simp] theorem Chip.rd_with_sess (c : Chip) (v : List Sess) (x : Nat) : (Chip.rd { c with sess := v } x) = c.rd x := rfl
@[simp] theorem Chip.get_with_sess (c : Chip) (v : List Sess) (g : Fld) : (Chip.get { c with sess := v } g) = c.get g := rfl
@[simp] theorem Chip.is_with_sess (c : Chip) (v : List Sess) (g : Fld) : (Chip.is { c with sess := v } g) = c.is g := rfl
@[simp] theorem Chip.rd_with_free (c : Chip) (v : Nat) (x : Nat) : (Chip.rd { c with free := v } x) = c.rd x := rfl
@[simp] theorem Chip.get_with_free (c : Chip) (v : Nat) (g : Fld) : (Chip.get { c with free := v } g) = c.get g := rfl
@[simp] theorem Chip.is_with_free (c : Chip) (v : Nat) (g : Fld) : (Chip.is { c with free := v } g) = c.is g := rfl
@[simp] theorem Chip.rd_with_out (c : Chip) (v : List Emission) (x : Nat) : (Chip.rd { c with out := v } x) = c.rd x := rfl
@[simp] theorem Chip.get_with_out (c : Chip) (v : List Emission) (g : Fld) : (Chip.get { c with out := v } g) = c.get g := rfl
@[simp] theorem Chip.is_with_out (c : Chip) (v : List Emission) (g : Fld) : (Chip.is { c with out := v } g) = c.is g := rfl
@[simp] theorem Chip.rd_with_irq (c : Chip) (v : Nat) (x : Nat) : (Chip.rd { c with irq := v } x) = c.rd x := rfl
@[simp] theorem Chip.get_with_irq (c : Chip) (v : Nat) (g : Fld) : (Chip.get { c with irq := v } g) = c.get g := rfl
@[simp] theorem Chip.is_with_irq (c : Chip) (v : Nat) (g : Fld) : (Chip.is { c with irq := v } g) = c.is g := rfl
@[simp] theorem Chip.rd_with_snaps (c : Chip) (v : List (Nat × Word)) (x : Nat) : (Chip.rd { c with snaps := v } x) = c.rd x := rfl
@[simp] theorem Chip.get_with_snaps (c : Chip) (v : List (Nat × Word)) (g : Fld) : (Chip.get { c with snaps := v } g) = c.get g := rfl
@[simp] theorem Chip.is_with_snaps (c : Chip) (v : List (Nat × Word)) (g : Fld) : (Chip.is { c with snaps := v } g) = c.is g := rfl
@[simp] theorem Chip.rd_with_resp (c : Chip) (v : Option (Option Word)) (x : Nat) : (Chip.rd { c with resp := v } x) = c.rd x := rfl
@[simp] theorem Chip.get_with_resp (c : Chip) (v : Option (Option Word)) (g : Fld) : (Chip.get { c with resp := v } g) = c.get g := rfl
@[simp] theorem Chip.is_with_resp (c : Chip) (v : Option (Option Word)) (g : Fld) : (Chip.is { c with resp := v } g) = c.is g := rfl
@[simp] theorem Chip.rd_with_tickRegs (c : Chip) (v : List (Nat × Word)) (x : Nat) : (Chip.rd { c with tickRegs := v } x) = c.rd x := rfl
@[simp] theorem Chip.get_with_tickRegs (c : Chip) (v : List (Nat × Word)) (g : Fld) : (Chip.get { c with tickRegs := v } g) = c.get g := rfl
@[simp] theorem Chip.is_with_tickRegs (c : Chip) (v : List (Nat × Word)) (g : Fld) : (Chip.is { c with tickRegs := v } g) = c.is g := rfl

end Sys2Proof.Machine
end

