-- ==== Sys2Proof/Laws/Shared.lean ====
section
/-! SUPPORT. What the operations around every command can do: the passing of time before it, the latch of the interrupt lines and the gate of
the outputs after it, the raise of a fault, and the four runners of a meaning. -/

namespace Sys2Proof.Machine

-- One theorem after another: a theorem that waits for the kernel holds a thread of its own.
set_option Elab.async false

/-! ### After a command: the interrupt lines and the gate of the outputs -/

/-- The gate of the outputs changes pins only, and a command's end beside them the interrupt lines pending. -/
theorem Chip.gated_eq (c : Chip) : ∃ p, c.gated = { c with pins := p } := ⟨_, rfl⟩

theorem Chip.latchIrq_eq (a b : Chip) : ∃ l, a.latchIrq b = { b with irq := l } := ⟨_, rfl⟩

theorem Chip.finish_eq (a b : Chip) : ∃ p l, a.finish b = { b with pins := p, irq := l } := by
  obtain ⟨l, hl⟩ := Chip.latchIrq_eq a b
  obtain ⟨p, hp⟩ := Chip.gated_eq (a.latchIrq b)
  exact ⟨p, l, by unfold Chip.finish; rw [hp, hl]⟩

@[simp] theorem Chip.finish_now (a b : Chip) : (a.finish b).now = b.now := by
  obtain ⟨p, l, h⟩ := Chip.finish_eq a b; rw [h]
@[simp] theorem Chip.finish_tbVeh (a b : Chip) : (a.finish b).tbVeh = b.tbVeh := by
  obtain ⟨p, l, h⟩ := Chip.finish_eq a b; rw [h]
@[simp] theorem Chip.finish_vehRest (a b : Chip) : (a.finish b).vehRest = b.vehRest := by
  obtain ⟨p, l, h⟩ := Chip.finish_eq a b; rw [h]
@[simp] theorem Chip.finish_regs (a b : Chip) : (a.finish b).regs = b.regs := by
  obtain ⟨p, l, h⟩ := Chip.finish_eq a b; rw [h]
@[simp] theorem Chip.finish_mem (a b : Chip) : (a.finish b).mem = b.mem := by
  obtain ⟨p, l, h⟩ := Chip.finish_eq a b; rw [h]
@[simp] theorem Chip.finish_nor (a b : Chip) : (a.finish b).nor = b.nor := by
  obtain ⟨p, l, h⟩ := Chip.finish_eq a b; rw [h]
@[simp] theorem Chip.finish_norSize (a b : Chip) : (a.finish b).norSize = b.norSize := by
  obtain ⟨p, l, h⟩ := Chip.finish_eq a b; rw [h]
@[simp] theorem Chip.finish_fuses (a b : Chip) : (a.finish b).fuses = b.fuses := by
  obtain ⟨p, l, h⟩ := Chip.finish_eq a b; rw [h]
@[simp] theorem Chip.finish_sup (a b : Chip) : (a.finish b).sup = b.sup := by
  obtain ⟨p, l, h⟩ := Chip.finish_eq a b; rw [h]
@[simp] theorem Chip.finish_sys (a b : Chip) : (a.finish b).sys = b.sys := by
  obtain ⟨p, l, h⟩ := Chip.finish_eq a b; rw [h]
@[simp] theorem Chip.finish_flt (a b : Chip) : (a.finish b).flt = b.flt := by
  obtain ⟨p, l, h⟩ := Chip.finish_eq a b; rw [h]
@[simp] theorem Chip.finish_wqm (a b : Chip) : (a.finish b).wqm = b.wqm := by
  obtain ⟨p, l, h⟩ := Chip.finish_eq a b; rw [h]
@[simp] theorem Chip.finish_ledg (a b : Chip) : (a.finish b).ledg = b.ledg := by
  obtain ⟨p, l, h⟩ := Chip.finish_eq a b; rw [h]
@[simp] theorem Chip.finish_fbk (a b : Chip) : (a.finish b).fbk = b.fbk := by
  obtain ⟨p, l, h⟩ := Chip.finish_eq a b; rw [h]
@[simp] theorem Chip.finish_wheel (a b : Chip) : (a.finish b).wheel = b.wheel := by
  obtain ⟨p, l, h⟩ := Chip.finish_eq a b; rw [h]
@[simp] theorem Chip.finish_dom (a b : Chip) : (a.finish b).dom = b.dom := by
  obtain ⟨p, l, h⟩ := Chip.finish_eq a b; rw [h]
@[simp] theorem Chip.finish_axes (a b : Chip) : (a.finish b).axes = b.axes := by
  obtain ⟨p, l, h⟩ := Chip.finish_eq a b; rw [h]
@[simp] theorem Chip.finish_cur (a b : Chip) : (a.finish b).cur = b.cur := by
  obtain ⟨p, l, h⟩ := Chip.finish_eq a b; rw [h]
@[simp] theorem Chip.finish_vote (a b : Chip) : (a.finish b).vote = b.vote := by
  obtain ⟨p, l, h⟩ := Chip.finish_eq a b; rw [h]
@[simp] theorem Chip.finish_door (a b : Chip) : (a.finish b).door = b.door := by
  obtain ⟨p, l, h⟩ := Chip.finish_eq a b; rw [h]
@[simp] theorem Chip.finish_nos (a b : Chip) : (a.finish b).nos = b.nos := by
  obtain ⟨p, l, h⟩ := Chip.finish_eq a b; rw [h]
@[simp] theorem Chip.finish_vmc (a b : Chip) : (a.finish b).vmc = b.vmc := by
  obtain ⟨p, l, h⟩ := Chip.finish_eq a b; rw [h]
@[simp] theorem Chip.finish_can (a b : Chip) : (a.finish b).can = b.can := by
  obtain ⟨p, l, h⟩ := Chip.finish_eq a b; rw [h]
@[simp] theorem Chip.finish_eth (a b : Chip) : (a.finish b).eth = b.eth := by
  obtain ⟨p, l, h⟩ := Chip.finish_eq a b; rw [h]
@[simp] theorem Chip.finish_tsyn (a b : Chip) : (a.finish b).tsyn = b.tsyn := by
  obtain ⟨p, l, h⟩ := Chip.finish_eq a b; rw [h]
@[simp] theorem Chip.finish_msg (a b : Chip) : (a.finish b).msg = b.msg := by
  obtain ⟨p, l, h⟩ := Chip.finish_eq a b; rw [h]
@[simp] theorem Chip.finish_pair (a b : Chip) : (a.finish b).pair = b.pair := by
  obtain ⟨p, l, h⟩ := Chip.finish_eq a b; rw [h]
@[simp] theorem Chip.finish_cfg (a b : Chip) : (a.finish b).cfg = b.cfg := by
  obtain ⟨p, l, h⟩ := Chip.finish_eq a b; rw [h]
@[simp] theorem Chip.finish_upd (a b : Chip) : (a.finish b).upd = b.upd := by
  obtain ⟨p, l, h⟩ := Chip.finish_eq a b; rw [h]
@[simp] theorem Chip.finish_sess (a b : Chip) : (a.finish b).sess = b.sess := by
  obtain ⟨p, l, h⟩ := Chip.finish_eq a b; rw [h]
@[simp] theorem Chip.finish_free (a b : Chip) : (a.finish b).free = b.free := by
  obtain ⟨p, l, h⟩ := Chip.finish_eq a b; rw [h]
@[simp] theorem Chip.finish_out (a b : Chip) : (a.finish b).out = b.out := by
  obtain ⟨p, l, h⟩ := Chip.finish_eq a b; rw [h]
@[simp] theorem Chip.finish_snaps (a b : Chip) : (a.finish b).snaps = b.snaps := by
  obtain ⟨p, l, h⟩ := Chip.finish_eq a b; rw [h]
@[simp] theorem Chip.finish_resp (a b : Chip) : (a.finish b).resp = b.resp := by
  obtain ⟨p, l, h⟩ := Chip.finish_eq a b; rw [h]

@[simp] theorem Chip.finish_rd (a b : Chip) (x : Nat) : (a.finish b).rd x = b.rd x := by unfold Chip.rd; rw [Chip.finish_regs]
@[simp] theorem Chip.finish_get (a b : Chip) (f : Fld) : (a.finish b).get f = b.get f := by unfold Chip.get; rw [Chip.finish_rd]
@[simp] theorem Chip.finish_is (a b : Chip) (f : Fld) : (a.finish b).is f = b.is f := by unfold Chip.is; rw [Chip.finish_get]
@[simp] theorem Chip.finish_bit (a b : Chip) (f : Fld) (n : Nat) : (a.finish b).bit f n = b.bit f n := by unfold Chip.bit; rw [Chip.finish_get]
@[simp] theorem Chip.finish_rdB (a b : Chip) (x : Nat) : (a.finish b).rdB x = b.rdB x := by unfold Chip.rdB; rw [Chip.finish_mem]
@[simp] theorem Chip.finish_mayOutput (a b : Chip) : (a.finish b).mayOutput = b.mayOutput := by
  unfold Chip.mayOutput Chip.inL2; simp only [Chip.finish_sys, Chip.finish_vote, Chip.finish_pair, Chip.finish_is]
@[simp] theorem Chip.gated_mayOutput (c : Chip) : c.gated.mayOutput = c.mayOutput := by
  obtain ⟨p, h⟩ := Chip.gated_eq c; rw [h]; rfl

/-- A chip whose outputs are gated drives the restrictive outputs where it may not drive others. -/
theorem Chip.gated_restrictive (c : Chip) (h : c.mayOutput = false) : c.gated.pins.Restrictive := by
  refine ⟨?_, ?_, ?_, ?_⟩ <;> simp [Chip.gated, h]

/-! ### The runners of a meaning -/

/-- `run` gives the effect where its domain lives, and else only the passing of time. -/
theorem run_live (d : Domain) (t : Nat) (f : Chip → Chip) (s : State) (h : (s.chip.begin t).live d = true) :
    run d t f s = .next { s with chip := (s.chip.begin t).finish (f (s.chip.begin t)) } := by simp [run, h]

theorem run_dead (d : Domain) (t : Nat) (f : Chip → Chip) (s : State) (h : (s.chip.begin t).live d = false) :
    run d t f s = .next { s with chip := s.chip.begin t } := by simp [run, h]

theorem runS_live (d : Domain) (t : Nat) (f : Chip → Chip) (s : State) (h : (s.chip.begin t).live d = true) :
    runS d t f s = .next { s with chip := (s.chip.begin t).finish (f (s.chip.begin t)).settle } := run_live d t _ s h

theorem runS_dead (d : Domain) (t : Nat) (f : Chip → Chip) (s : State) (h : (s.chip.begin t).live d = false) :
    runS d t f s = .next { s with chip := s.chip.begin t } := run_dead d t _ s h

/-- Every runner goes on with the queue as it was. -/
theorem run_next (d : Domain) (t : Nat) (f : Chip → Chip) (s : State) : ∃ u, run d t f s = .next u ∧ u.pending = s.pending :=
  ⟨_, rfl, rfl⟩

theorem runS_next (d : Domain) (t : Nat) (f : Chip → Chip) (s : State) : ∃ u, runS d t f s = .next u ∧ u.pending = s.pending :=
  ⟨_, rfl, rfl⟩

theorem runAny_next (t : Nat) (f : Chip → Chip) (s : State) : ∃ u, runAny t f s = .next u ∧ u.pending = s.pending := ⟨_, rfl, rfl⟩

theorem conRunWith_next (t : Nat) (rom f : Chip → Chip) (s : State) : ∃ u, conRunWith t rom f s = .next u ∧ u.pending = s.pending :=
  ⟨_, rfl, rfl⟩

theorem conRun_next (t : Nat) (l : Ln) (f : Chip → Chip) (s : State) : ∃ u, conRun t l f s = .next u ∧ u.pending = s.pending := ⟨_, rfl, rfl⟩

/-! ### Before a command: the passing of time -/

/-- Following the pair epoch changes registers and the pair only. -/
theorem Chip.epochSync_eq (c : Chip) : c.epochSync = { c with regs := c.epochSync.regs, pair := c.epochSync.pair } := by
  unfold Chip.epochSync; dsimp only; split <;> rfl

/-- Time passing before a command changes the clocks, the registers and the pair, and clears what the last command gave. -/
theorem Chip.begin_eq (c : Chip) (t : Nat) : c.begin t =
    { c with now := (c.begin t).now, tbVeh := (c.begin t).tbVeh, vehRest := (c.begin t).vehRest, regs := (c.begin t).regs,
             pair := (c.begin t).pair, tickRegs := (c.begin t).tickRegs, out := [], resp := none, irq := 0 } := by
  unfold Chip.begin; dsimp only; split
  · rw [Chip.epochSync_eq]; rfl
  · rfl

theorem Chip.begin_mem (c : Chip) (t : Nat) : (c.begin t).mem = c.mem := by rw [Chip.begin_eq]
theorem Chip.begin_nor (c : Chip) (t : Nat) : (c.begin t).nor = c.nor := by rw [Chip.begin_eq]
theorem Chip.begin_norSize (c : Chip) (t : Nat) : (c.begin t).norSize = c.norSize := by rw [Chip.begin_eq]
theorem Chip.begin_fuses (c : Chip) (t : Nat) : (c.begin t).fuses = c.fuses := by rw [Chip.begin_eq]
theorem Chip.begin_pins (c : Chip) (t : Nat) : (c.begin t).pins = c.pins := by rw [Chip.begin_eq]
theorem Chip.begin_sup (c : Chip) (t : Nat) : (c.begin t).sup = c.sup := by rw [Chip.begin_eq]
theorem Chip.begin_sys (c : Chip) (t : Nat) : (c.begin t).sys = c.sys := by rw [Chip.begin_eq]
theorem Chip.begin_flt (c : Chip) (t : Nat) : (c.begin t).flt = c.flt := by rw [Chip.begin_eq]
theorem Chip.begin_wqm (c : Chip) (t : Nat) : (c.begin t).wqm = c.wqm := by rw [Chip.begin_eq]
theorem Chip.begin_ledg (c : Chip) (t : Nat) : (c.begin t).ledg = c.ledg := by rw [Chip.begin_eq]
theorem Chip.begin_fbk (c : Chip) (t : Nat) : (c.begin t).fbk = c.fbk := by rw [Chip.begin_eq]
theorem Chip.begin_wheel (c : Chip) (t : Nat) : (c.begin t).wheel = c.wheel := by rw [Chip.begin_eq]
theorem Chip.begin_dom (c : Chip) (t : Nat) : (c.begin t).dom = c.dom := by rw [Chip.begin_eq]
theorem Chip.begin_axes (c : Chip) (t : Nat) : (c.begin t).axes = c.axes := by rw [Chip.begin_eq]
theorem Chip.begin_cur (c : Chip) (t : Nat) : (c.begin t).cur = c.cur := by rw [Chip.begin_eq]
theorem Chip.begin_vote (c : Chip) (t : Nat) : (c.begin t).vote = c.vote := by rw [Chip.begin_eq]
theorem Chip.begin_door (c : Chip) (t : Nat) : (c.begin t).door = c.door := by rw [Chip.begin_eq]
theorem Chip.begin_nos (c : Chip) (t : Nat) : (c.begin t).nos = c.nos := by rw [Chip.begin_eq]
theorem Chip.begin_vmc (c : Chip) (t : Nat) : (c.begin t).vmc = c.vmc := by rw [Chip.begin_eq]
theorem Chip.begin_can (c : Chip) (t : Nat) : (c.begin t).can = c.can := by rw [Chip.begin_eq]
theorem Chip.begin_eth (c : Chip) (t : Nat) : (c.begin t).eth = c.eth := by rw [Chip.begin_eq]
theorem Chip.begin_tsyn (c : Chip) (t : Nat) : (c.begin t).tsyn = c.tsyn := by rw [Chip.begin_eq]
theorem Chip.begin_msg (c : Chip) (t : Nat) : (c.begin t).msg = c.msg := by rw [Chip.begin_eq]
theorem Chip.begin_cfg (c : Chip) (t : Nat) : (c.begin t).cfg = c.cfg := by rw [Chip.begin_eq]
theorem Chip.begin_upd (c : Chip) (t : Nat) : (c.begin t).upd = c.upd := by rw [Chip.begin_eq]
theorem Chip.begin_sess (c : Chip) (t : Nat) : (c.begin t).sess = c.sess := by rw [Chip.begin_eq]
theorem Chip.begin_free (c : Chip) (t : Nat) : (c.begin t).free = c.free := by rw [Chip.begin_eq]
theorem Chip.begin_snaps (c : Chip) (t : Nat) : (c.begin t).snaps = c.snaps := by rw [Chip.begin_eq]

@[simp] theorem Chip.epochSync_now (c : Chip) : c.epochSync.now = c.now := by rw [Chip.epochSync_eq]

/-- The clock shows the command's time, unless that lies in the past. -/
theorem Chip.begin_now (c : Chip) (t : Nat) : (c.begin t).now = max c.now t := by
  unfold Chip.begin; dsimp only; split
  · rename_i h; rw [Chip.epochSync_now]; exact (Nat.max_eq_right (Nat.le_of_lt h)).symm
  · rename_i h; exact (Nat.max_eq_left (Nat.le_of_not_lt h)).symm

/-- Time passing changes no register but the pair epoch's. -/
theorem Chip.epochSync_rd (c : Chip) (a : Nat) (h : a ≠ PAIR_EPOCH_EPOCH.addr) : c.epochSync.rd a = c.rd a := by
  unfold Chip.epochSync; dsimp only; split
  · rfl
  · rw [Chip.rd_set_ne _ _ _ _ h]; unfold Chip.rd; dsimp only

theorem Chip.begin_rd (c : Chip) (t a : Nat) (h : a ≠ PAIR_EPOCH_EPOCH.addr) : (c.begin t).rd a = c.rd a := by
  unfold Chip.begin; dsimp only; split
  · have e := Chip.epochSync_rd { c.advanceVeh (t - c.now) with now := t } a h
    unfold Chip.rd at e ⊢; exact e
  · unfold Chip.rd; dsimp only

@[simp] theorem Chip.epochSync_claimAt (c : Chip) : c.epochSync.pair.claimAt = c.pair.claimAt := by
  unfold Chip.epochSync; dsimp only; split <;> rfl

theorem Chip.begin_claimAt (c : Chip) (t : Nat) : (c.begin t).pair.claimAt = c.pair.claimAt := by
  unfold Chip.begin; dsimp only; split
  · rw [Chip.epochSync_claimAt]; rfl
  · rfl

/-! ### The raise of a fault -/

/-- Marking a fault as seen changes registers only. -/
theorem Chip.markSeen_eq (c : Chip) (code : Nat) : c.markSeen code = { c with regs := (c.markSeen code).regs } := by
  unfold Chip.markSeen; dsimp only; split <;> (try split) <;> (try split) <;> (try split) <;> rfl

/-- A raise changes registers and the faults on their way only. -/
theorem Chip.raiseArg_eq (c : Chip) (code arg detail : Nat) :
    c.raiseArg code arg detail = { c with regs := (c.raiseArg code arg detail).regs, flt := (c.raiseArg code arg detail).flt } := by
  unfold Chip.raiseArg; dsimp only; split
  · rw [Chip.markSeen_eq]
  · split
    · rw [Chip.markSeen_eq, Chip.markSeen_eq c code]
    · rw [Chip.markSeen_eq]

@[simp] theorem Chip.markSeen_now (c : Chip) (code : Nat) : (c.markSeen code).now = c.now := by rw [Chip.markSeen_eq]
@[simp] theorem Chip.markSeen_tbVeh (c : Chip) (code : Nat) : (c.markSeen code).tbVeh = c.tbVeh := by rw [Chip.markSeen_eq]
@[simp] theorem Chip.markSeen_vehRest (c : Chip) (code : Nat) : (c.markSeen code).vehRest = c.vehRest := by rw [Chip.markSeen_eq]
@[simp] theorem Chip.markSeen_mem (c : Chip) (code : Nat) : (c.markSeen code).mem = c.mem := by rw [Chip.markSeen_eq]
@[simp] theorem Chip.markSeen_nor (c : Chip) (code : Nat) : (c.markSeen code).nor = c.nor := by rw [Chip.markSeen_eq]
@[simp] theorem Chip.markSeen_norSize (c : Chip) (code : Nat) : (c.markSeen code).norSize = c.norSize := by rw [Chip.markSeen_eq]
@[simp] theorem Chip.markSeen_fuses (c : Chip) (code : Nat) : (c.markSeen code).fuses = c.fuses := by rw [Chip.markSeen_eq]
@[simp] theorem Chip.markSeen_pins (c : Chip) (code : Nat) : (c.markSeen code).pins = c.pins := by rw [Chip.markSeen_eq]
@[simp] theorem Chip.markSeen_sup (c : Chip) (code : Nat) : (c.markSeen code).sup = c.sup := by rw [Chip.markSeen_eq]
@[simp] theorem Chip.markSeen_sys (c : Chip) (code : Nat) : (c.markSeen code).sys = c.sys := by rw [Chip.markSeen_eq]
@[simp] theorem Chip.markSeen_wqm (c : Chip) (code : Nat) : (c.markSeen code).wqm = c.wqm := by rw [Chip.markSeen_eq]
@[simp] theorem Chip.markSeen_ledg (c : Chip) (code : Nat) : (c.markSeen code).ledg = c.ledg := by rw [Chip.markSeen_eq]
@[simp] theorem Chip.markSeen_fbk (c : Chip) (code : Nat) : (c.markSeen code).fbk = c.fbk := by rw [Chip.markSeen_eq]
@[simp] theorem Chip.markSeen_wheel (c : Chip) (code : Nat) : (c.markSeen code).wheel = c.wheel := by rw [Chip.markSeen_eq]
@[simp] theorem Chip.markSeen_dom (c : Chip) (code : Nat) : (c.markSeen code).dom = c.dom := by rw [Chip.markSeen_eq]
@[simp] theorem Chip.markSeen_axes (c : Chip) (code : Nat) : (c.markSeen code).axes = c.axes := by rw [Chip.markSeen_eq]
@[simp] theorem Chip.markSeen_cur (c : Chip) (code : Nat) : (c.markSeen code).cur = c.cur := by rw [Chip.markSeen_eq]
@[simp] theorem Chip.markSeen_vote (c : Chip) (code : Nat) : (c.markSeen code).vote = c.vote := by rw [Chip.markSeen_eq]
@[simp] theorem Chip.markSeen_door (c : Chip) (code : Nat) : (c.markSeen code).door = c.door := by rw [Chip.markSeen_eq]
@[simp] theorem Chip.markSeen_nos (c : Chip) (code : Nat) : (c.markSeen code).nos = c.nos := by rw [Chip.markSeen_eq]
@[simp] theorem Chip.markSeen_vmc (c : Chip) (code : Nat) : (c.markSeen code).vmc = c.vmc := by rw [Chip.markSeen_eq]
@[simp] theorem Chip.markSeen_can (c : Chip) (code : Nat) : (c.markSeen code).can = c.can := by rw [Chip.markSeen_eq]
@[simp] theorem Chip.markSeen_eth (c : Chip) (code : Nat) : (c.markSeen code).eth = c.eth := by rw [Chip.markSeen_eq]
@[simp] theorem Chip.markSeen_tsyn (c : Chip) (code : Nat) : (c.markSeen code).tsyn = c.tsyn := by rw [Chip.markSeen_eq]
@[simp] theorem Chip.markSeen_msg (c : Chip) (code : Nat) : (c.markSeen code).msg = c.msg := by rw [Chip.markSeen_eq]
@[simp] theorem Chip.markSeen_pair (c : Chip) (code : Nat) : (c.markSeen code).pair = c.pair := by rw [Chip.markSeen_eq]
@[simp] theorem Chip.markSeen_cfg (c : Chip) (code : Nat) : (c.markSeen code).cfg = c.cfg := by rw [Chip.markSeen_eq]
@[simp] theorem Chip.markSeen_upd (c : Chip) (code : Nat) : (c.markSeen code).upd = c.upd := by rw [Chip.markSeen_eq]
@[simp] theorem Chip.markSeen_sess (c : Chip) (code : Nat) : (c.markSeen code).sess = c.sess := by rw [Chip.markSeen_eq]
@[simp] theorem Chip.markSeen_free (c : Chip) (code : Nat) : (c.markSeen code).free = c.free := by rw [Chip.markSeen_eq]
@[simp] theorem Chip.markSeen_out (c : Chip) (code : Nat) : (c.markSeen code).out = c.out := by rw [Chip.markSeen_eq]
@[simp] theorem Chip.markSeen_irq (c : Chip) (code : Nat) : (c.markSeen code).irq = c.irq := by rw [Chip.markSeen_eq]
@[simp] theorem Chip.markSeen_snaps (c : Chip) (code : Nat) : (c.markSeen code).snaps = c.snaps := by rw [Chip.markSeen_eq]
@[simp] theorem Chip.markSeen_resp (c : Chip) (code : Nat) : (c.markSeen code).resp = c.resp := by rw [Chip.markSeen_eq]
@[simp] theorem Chip.markSeen_flt (c : Chip) (code : Nat) : (c.markSeen code).flt = c.flt := by rw [Chip.markSeen_eq]
@[simp] theorem Chip.raiseArg_now (c : Chip) (code arg detail : Nat) : (c.raiseArg code arg detail).now = c.now := by
  rw [Chip.raiseArg_eq]
@[simp] theorem Chip.raiseArg_tbVeh (c : Chip) (code arg detail : Nat) : (c.raiseArg code arg detail).tbVeh = c.tbVeh := by
  rw [Chip.raiseArg_eq]
@[simp] theorem Chip.raiseArg_vehRest (c : Chip) (code arg detail : Nat) : (c.raiseArg code arg detail).vehRest = c.vehRest := by
  rw [Chip.raiseArg_eq]
@[simp] theorem Chip.raiseArg_mem (c : Chip) (code arg detail : Nat) : (c.raiseArg code arg detail).mem = c.mem := by
  rw [Chip.raiseArg_eq]
@[simp] theorem Chip.raiseArg_nor (c : Chip) (code arg detail : Nat) : (c.raiseArg code arg detail).nor = c.nor := by
  rw [Chip.raiseArg_eq]
@[simp] theorem Chip.raiseArg_norSize (c : Chip) (code arg detail : Nat) : (c.raiseArg code arg detail).norSize = c.norSize := by
  rw [Chip.raiseArg_eq]
@[simp] theorem Chip.raiseArg_fuses (c : Chip) (code arg detail : Nat) : (c.raiseArg code arg detail).fuses = c.fuses := by
  rw [Chip.raiseArg_eq]
@[simp] theorem Chip.raiseArg_pins (c : Chip) (code arg detail : Nat) : (c.raiseArg code arg detail).pins = c.pins := by
  rw [Chip.raiseArg_eq]
@[simp] theorem Chip.raiseArg_sup (c : Chip) (code arg detail : Nat) : (c.raiseArg code arg detail).sup = c.sup := by
  rw [Chip.raiseArg_eq]
@[simp] theorem Chip.raiseArg_sys (c : Chip) (code arg detail : Nat) : (c.raiseArg code arg detail).sys = c.sys := by
  rw [Chip.raiseArg_eq]
@[simp] theorem Chip.raiseArg_wqm (c : Chip) (code arg detail : Nat) : (c.raiseArg code arg detail).wqm = c.wqm := by
  rw [Chip.raiseArg_eq]
@[simp] theorem Chip.raiseArg_ledg (c : Chip) (code arg detail : Nat) : (c.raiseArg code arg detail).ledg = c.ledg := by
  rw [Chip.raiseArg_eq]
@[simp] theorem Chip.raiseArg_fbk (c : Chip) (code arg detail : Nat) : (c.raiseArg code arg detail).fbk = c.fbk := by
  rw [Chip.raiseArg_eq]
@[simp] theorem Chip.raiseArg_wheel (c : Chip) (code arg detail : Nat) : (c.raiseArg code arg detail).wheel = c.wheel := by
  rw [Chip.raiseArg_eq]
@[simp] theorem Chip.raiseArg_dom (c : Chip) (code arg detail : Nat) : (c.raiseArg code arg detail).dom = c.dom := by
  rw [Chip.raiseArg_eq]
@[simp] theorem Chip.raiseArg_axes (c : Chip) (code arg detail : Nat) : (c.raiseArg code arg detail).axes = c.axes := by
  rw [Chip.raiseArg_eq]
@[simp] theorem Chip.raiseArg_cur (c : Chip) (code arg detail : Nat) : (c.raiseArg code arg detail).cur = c.cur := by
  rw [Chip.raiseArg_eq]
@[simp] theorem Chip.raiseArg_vote (c : Chip) (code arg detail : Nat) : (c.raiseArg code arg detail).vote = c.vote := by
  rw [Chip.raiseArg_eq]
@[simp] theorem Chip.raiseArg_door (c : Chip) (code arg detail : Nat) : (c.raiseArg code arg detail).door = c.door := by
  rw [Chip.raiseArg_eq]
@[simp] theorem Chip.raiseArg_nos (c : Chip) (code arg detail : Nat) : (c.raiseArg code arg detail).nos = c.nos := by
  rw [Chip.raiseArg_eq]
@[simp] theorem Chip.raiseArg_vmc (c : Chip) (code arg detail : Nat) : (c.raiseArg code arg detail).vmc = c.vmc := by
  rw [Chip.raiseArg_eq]
@[simp] theorem Chip.raiseArg_can (c : Chip) (code arg detail : Nat) : (c.raiseArg code arg detail).can = c.can := by
  rw [Chip.raiseArg_eq]
@[simp] theorem Chip.raiseArg_eth (c : Chip) (code arg detail : Nat) : (c.raiseArg code arg detail).eth = c.eth := by
  rw [Chip.raiseArg_eq]
@[simp] theorem Chip.raiseArg_tsyn (c : Chip) (code arg detail : Nat) : (c.raiseArg code arg detail).tsyn = c.tsyn := by
  rw [Chip.raiseArg_eq]
@[simp] theorem Chip.raiseArg_msg (c : Chip) (code arg detail : Nat) : (c.raiseArg code arg detail).msg = c.msg := by
  rw [Chip.raiseArg_eq]
@[simp] theorem Chip.raiseArg_pair (c : Chip) (code arg detail : Nat) : (c.raiseArg code arg detail).pair = c.pair := by
  rw [Chip.raiseArg_eq]
@[simp] theorem Chip.raiseArg_cfg (c : Chip) (code arg detail : Nat) : (c.raiseArg code arg detail).cfg = c.cfg := by
  rw [Chip.raiseArg_eq]
@[simp] theorem Chip.raiseArg_upd (c : Chip) (code arg detail : Nat) : (c.raiseArg code arg detail).upd = c.upd := by
  rw [Chip.raiseArg_eq]
@[simp] theorem Chip.raiseArg_sess (c : Chip) (code arg detail : Nat) : (c.raiseArg code arg detail).sess = c.sess := by
  rw [Chip.raiseArg_eq]
@[simp] theorem Chip.raiseArg_free (c : Chip) (code arg detail : Nat) : (c.raiseArg code arg detail).free = c.free := by
  rw [Chip.raiseArg_eq]
@[simp] theorem Chip.raiseArg_out (c : Chip) (code arg detail : Nat) : (c.raiseArg code arg detail).out = c.out := by
  rw [Chip.raiseArg_eq]
@[simp] theorem Chip.raiseArg_irq (c : Chip) (code arg detail : Nat) : (c.raiseArg code arg detail).irq = c.irq := by
  rw [Chip.raiseArg_eq]
@[simp] theorem Chip.raiseArg_snaps (c : Chip) (code arg detail : Nat) : (c.raiseArg code arg detail).snaps = c.snaps := by
  rw [Chip.raiseArg_eq]
@[simp] theorem Chip.raiseArg_resp (c : Chip) (code arg detail : Nat) : (c.raiseArg code arg detail).resp = c.resp := by
  rw [Chip.raiseArg_eq]
@[simp] theorem Chip.raise_now (c : Chip) (code : Nat) : (c.raise code).now = c.now := Chip.raiseArg_now c code 0 0
@[simp] theorem Chip.raise_tbVeh (c : Chip) (code : Nat) : (c.raise code).tbVeh = c.tbVeh := Chip.raiseArg_tbVeh c code 0 0
@[simp] theorem Chip.raise_vehRest (c : Chip) (code : Nat) : (c.raise code).vehRest = c.vehRest := Chip.raiseArg_vehRest c code 0 0
@[simp] theorem Chip.raise_mem (c : Chip) (code : Nat) : (c.raise code).mem = c.mem := Chip.raiseArg_mem c code 0 0
@[simp] theorem Chip.raise_nor (c : Chip) (code : Nat) : (c.raise code).nor = c.nor := Chip.raiseArg_nor c code 0 0
@[simp] theorem Chip.raise_norSize (c : Chip) (code : Nat) : (c.raise code).norSize = c.norSize := Chip.raiseArg_norSize c code 0 0
@[simp] theorem Chip.raise_fuses (c : Chip) (code : Nat) : (c.raise code).fuses = c.fuses := Chip.raiseArg_fuses c code 0 0
@[simp] theorem Chip.raise_pins (c : Chip) (code : Nat) : (c.raise code).pins = c.pins := Chip.raiseArg_pins c code 0 0
@[simp] theorem Chip.raise_sup (c : Chip) (code : Nat) : (c.raise code).sup = c.sup := Chip.raiseArg_sup c code 0 0
@[simp] theorem Chip.raise_sys (c : Chip) (code : Nat) : (c.raise code).sys = c.sys := Chip.raiseArg_sys c code 0 0
@[simp] theorem Chip.raise_wqm (c : Chip) (code : Nat) : (c.raise code).wqm = c.wqm := Chip.raiseArg_wqm c code 0 0
@[simp] theorem Chip.raise_ledg (c : Chip) (code : Nat) : (c.raise code).ledg = c.ledg := Chip.raiseArg_ledg c code 0 0
@[simp] theorem Chip.raise_fbk (c : Chip) (code : Nat) : (c.raise code).fbk = c.fbk := Chip.raiseArg_fbk c code 0 0
@[simp] theorem Chip.raise_wheel (c : Chip) (code : Nat) : (c.raise code).wheel = c.wheel := Chip.raiseArg_wheel c code 0 0
@[simp] theorem Chip.raise_dom (c : Chip) (code : Nat) : (c.raise code).dom = c.dom := Chip.raiseArg_dom c code 0 0
@[simp] theorem Chip.raise_axes (c : Chip) (code : Nat) : (c.raise code).axes = c.axes := Chip.raiseArg_axes c code 0 0
@[simp] theorem Chip.raise_cur (c : Chip) (code : Nat) : (c.raise code).cur = c.cur := Chip.raiseArg_cur c code 0 0
@[simp] theorem Chip.raise_vote (c : Chip) (code : Nat) : (c.raise code).vote = c.vote := Chip.raiseArg_vote c code 0 0
@[simp] theorem Chip.raise_door (c : Chip) (code : Nat) : (c.raise code).door = c.door := Chip.raiseArg_door c code 0 0
@[simp] theorem Chip.raise_nos (c : Chip) (code : Nat) : (c.raise code).nos = c.nos := Chip.raiseArg_nos c code 0 0
@[simp] theorem Chip.raise_vmc (c : Chip) (code : Nat) : (c.raise code).vmc = c.vmc := Chip.raiseArg_vmc c code 0 0
@[simp] theorem Chip.raise_can (c : Chip) (code : Nat) : (c.raise code).can = c.can := Chip.raiseArg_can c code 0 0
@[simp] theorem Chip.raise_eth (c : Chip) (code : Nat) : (c.raise code).eth = c.eth := Chip.raiseArg_eth c code 0 0
@[simp] theorem Chip.raise_tsyn (c : Chip) (code : Nat) : (c.raise code).tsyn = c.tsyn := Chip.raiseArg_tsyn c code 0 0
@[simp] theorem Chip.raise_msg (c : Chip) (code : Nat) : (c.raise code).msg = c.msg := Chip.raiseArg_msg c code 0 0
@[simp] theorem Chip.raise_pair (c : Chip) (code : Nat) : (c.raise code).pair = c.pair := Chip.raiseArg_pair c code 0 0
@[simp] theorem Chip.raise_cfg (c : Chip) (code : Nat) : (c.raise code).cfg = c.cfg := Chip.raiseArg_cfg c code 0 0
@[simp] theorem Chip.raise_upd (c : Chip) (code : Nat) : (c.raise code).upd = c.upd := Chip.raiseArg_upd c code 0 0
@[simp] theorem Chip.raise_sess (c : Chip) (code : Nat) : (c.raise code).sess = c.sess := Chip.raiseArg_sess c code 0 0
@[simp] theorem Chip.raise_free (c : Chip) (code : Nat) : (c.raise code).free = c.free := Chip.raiseArg_free c code 0 0
@[simp] theorem Chip.raise_out (c : Chip) (code : Nat) : (c.raise code).out = c.out := Chip.raiseArg_out c code 0 0
@[simp] theorem Chip.raise_irq (c : Chip) (code : Nat) : (c.raise code).irq = c.irq := Chip.raiseArg_irq c code 0 0
@[simp] theorem Chip.raise_snaps (c : Chip) (code : Nat) : (c.raise code).snaps = c.snaps := Chip.raiseArg_snaps c code 0 0
@[simp] theorem Chip.raise_resp (c : Chip) (code : Nat) : (c.raise code).resp = c.resp := Chip.raiseArg_resp c code 0 0

/-- A raise on a chip that no reset holds puts exactly one raise on its way. -/
theorem Chip.raiseArg_inbox (c : Chip) (code arg detail : Nat) (h : c.sys.held = none) :
    ∃ r, (c.raiseArg code arg detail).flt.inbox = c.flt.inbox ++ [r] ∧ (r.code = code ∨ r.code = 0x0308) ∧ r.at_ = c.now := by
  have hs : (c.markSeen code).sys.held.isSome = false := by simp [h]
  unfold Chip.raiseArg; dsimp only; rw [if_neg (by simp [h])]
  split
  · exact ⟨_, by rw [Chip.markSeen_flt, Chip.markSeen_flt], Or.inr rfl, by simp⟩
  · exact ⟨_, by rw [Chip.markSeen_flt], Or.inl rfl, by simp⟩

/-- While a reset holds the chip no raise goes to the fault manager. -/
theorem Chip.raiseArg_held (c : Chip) (code arg detail : Nat) (h : c.sys.held ≠ none) : (c.raiseArg code arg detail).flt = c.flt := by
  have : c.sys.held.isSome = true := Option.isSome_iff_ne_none.mpr h
  unfold Chip.raiseArg
  simp only [Chip.markSeen_sys, this, if_true, Chip.markSeen_flt]

end Sys2Proof.Machine
end

