-- ==== Sys2Proof/WellFormed.lean ====
section
/-! DEFINITION. Which commands are well formed: the operands lie in the ranges that the spec's fields and frames give them. What the block
does with a console value out of its range, or a tag above 65,535, is the command's own effect (an error reply), so those operands are free. -/

namespace Sys2Proof

/-- Whether a number fits a field of `w` bits. -/
def fits (w n : Nat) : Bool := decide (n < 2 ^ w)

/-- Whether a number lies below a bound. -/
def below (m n : Nat) : Bool := decide (n < m)

/-- A CAN controller, or an IPv4 address and a port. -/
def Path.wf : Path → Bool
  | .can ctl => below 3 ctl
  | .udp ip port => fits 32 ip && fits 16 port

/-- A frame of ISO 11898-1 as received (R277, R278): a base identifier in bits 28:18, a remote frame in the classical format and with no
data. -/
def CanFrame.wf (f : CanFrame) : Bool :=
  fits 29 f.id && fits 4 f.dlc && below 65 f.data.length && (f.xtd || f.id % 2 ^ 18 == 0) && (!f.rtr || (!f.fdf && f.data.isEmpty))

/-- A long packet: a data type of 6 bits, pixels of at most 16. -/
def CsiPacket.wf (p : CsiPacket) : Bool := fits 6 p.dt && p.pixels.all (fun x => fits 16 x)

/-- A pair frame's header: EPOCH 32 bits, the stamp 64 (Table 15-1). -/
def PairHdr.wf (h : PairHdr) : Bool := fits 32 h.epoch && fits 64 h.tb

/-- The state of a MIRROR frame: four axes, six channels, two cameras (Table 15-2). -/
def MirBody.wf (b : MirBody) : Bool := b.axes.length == 4 && b.fbk.length == 6 && b.nos.length == 2 && fits 32 b.door

/-- A MIRROR frame: its state, or an acknowledgement of a journal index. -/
def MirFrame.wf : MirFrame → Bool
  | .state b => b.wf
  | .ack a => fits 16 a.checks && (match a.index with | some i => below 4096 i | none => true)

/-- What a HELLO frame tells: protocol versions of 16 bits (R469). -/
def HelloInfo.wf (i : HelloInfo) : Bool := fits 16 i.proto && fits 16 i.protoMin

/-- A command is well formed: its instant fits TB_LOCAL's 64 bits, and its operands fit their fields; an address has 33 bits, since 4 GiB of
LPDDR4X begin at 0x8000_0000 (R491). -/
def Instr.wf : Instr → Bool
  | .powerOnReset t _ => fits 64 t
  | .resetNReset t _ => fits 64 t
  | .resetRelease t _ => fits 64 t
  | .strapSample t _ _ => fits 64 t
  | .referenceQualify t => fits 64 t
  | .referenceFault t => fits 64 t
  | .rstmapProgram t _ => fits 64 t
  | .holdupEnergyUpdate t _ => fits 64 t
  | .supplyWarningAssert t => fits 64 t
  | .supplyWarningClear t => fits 64 t
  | .supplyHold t => fits 64 t
  | .threshWrite t _ => fits 64 t
  | .gatedStoreStart t => fits 64 t
  | .functionResetRequest t _ => fits 64 t
  | .idleAcknowledge t _ => fits 64 t
  | .functionResetTimeout t _ => fits 64 t
  | .rawTransition t _ _ _ => fits 64 t
  | .deferredEdgeAccept t _ => fits 64 t
  | .cableFaultBegin t _ _ => fits 64 t
  | .cableFaultEnd t _ _ => fits 64 t
  | .indexPulse t _ _ => fits 64 t
  | .indexArm t _ => fits 64 t
  | .indexDisarm t _ => fits 64 t
  | .countWrite t _ _ => fits 64 t
  | .hallChange t _ _ _ => fits 64 t
  | .observerUpdate t _ => fits 64 t
  | .standstill t _ => fits 64 t
  | .wheelQualified t _ => fits 64 t
  | .wheelDisagree t => fits 64 t
  | .disagreeFault t => fits 64 t
  | .votedStandstill t => fits 64 t
  | .blendComplete t => fits 64 t
  | .pwcPulse t _ width => fits 64 t && fits 32 width
  | .ssiFrame t _ bits _ => fits 64 t && fits 32 bits
  | .extrapolatedFire t _ => fits 64 t
  | .vehicleTimeFire t _ => fits 64 t
  | .pinPulseEnd t _ => fits 64 t
  | .slotArm t _ => fits 64 t
  | .slotDisarm t _ => fits 64 t
  | .d4Set t _ => fits 64 t
  | .latchFifoPop t => fits 64 t
  | .controlCycleBoundary t _ => fits 64 t
  | .profileTick t => fits 64 t
  | .motStart t _ _ => fits 64 t
  | .motStop t _ => fits 64 t
  | .motEmerg t _ => fits 64 t
  | .motHalt t _ => fits 64 t
  | .motReref t _ => fits 64 t
  | .tripInput t _ _ => fits 64 t
  | .revHoldEnd t _ => fits 64 t
  | .holdScale t _ => fits 64 t
  | .stall t _ => fits 64 t
  | .chopperCycleStart t _ _ => fits 64 t
  | .blankingEnd t _ _ _ => fits 64 t
  | .onStateEnd t _ _ _ => fits 64 t
  | .offPhaseEnd t _ _ _ _ => fits 64 t
  | .forceTrip t _ => fits 64 t
  | .forceCal t _ => fits 64 t
  | .forceFitEnd t _ => fits 64 t
  | .clrOfs t _ => fits 64 t
  | .bridgeEnableLoss t _ => fits 64 t
  | .overcurrent t _ _ => fits 64 t
  | .openPhase t _ _ => fits 64 t
  | .adcCheck t _ _ _ => fits 64 t
  | .currentSag t _ _ => fits 64 t
  | .warningTimeElapsed t => fits 64 t
  | .rewarnElapsed t => fits 64 t
  | .openTimeout t => fits 64 t
  | .closeTimeout t => fits 64 t
  | .recloseElapsed t => fits 64 t
  | .lockTimeout t => fits 64 t
  | .leafOverspeed t _ => fits 64 t
  | .pulsedInputCheck t _ _ _ _ _ => fits 64 t
  | .staticInputChange t _ _ => fits 64 t
  | .dualInputDiscrepancy t _ => fits 64 t
  | .inputUnchanged t _ => fits 64 t
  | .pushbuttonPost t _ => fits 64 t
  | .bridgeStopTimeout t => fits 64 t
  | .speedVetoFault t => fits 64 t
  | .gridAgeTimeout t _ => fits 64 t
  | .visionAbsentEnd t => fits 64 t
  | .frameStart t _ fn => fits 64 t && below 65536 fn
  | .longPacket t _ p => fits 64 t && p.wf
  | .frameEnd t _ => fits 64 t
  | .streamLoss t _ => fits 64 t
  | .nosEnable t => fits 64 t
  | .lpddr4xTrainingEnd t _ _ => fits 64 t
  | .jobDispatch t _ => fits 64 t
  | .conv t _ => fits 64 t
  | .dwconv t _ => fits 64 t
  | .pool t _ => fits 64 t
  | .add t _ => fits 64 t
  | .mul t _ => fits 64 t
  | .act t _ => fits 64 t
  | .resize t _ => fits 64 t
  | .concat t _ => fits 64 t
  | .warp t _ => fits 64 t
  | .diff t _ => fits 64 t
  | .regsum t _ => fits 64 t
  | .thresh t _ => fits 64 t
  | .jobEnd t _ => fits 64 t
  | .jobOverrun t _ => fits 64 t
  | .clusterEccError t _ => fits 64 t
  | .l2Read t _ off len _ => fits 64 t && fits 32 off && !below 1 len && below 129 len
  | .l2Write t _ off bytes _ => fits 64 t && fits 32 off && !below 1 bytes.length && below 129 bytes.length
  | .fillComplete t off => fits 64 t && fits 32 off
  | .getS t _ off => fits 64 t && fits 32 off
  | .wt t _ off bytes => fits 64 t && fits 32 off && !below 1 bytes.length && below 33 bytes.length
  | .getM t off => fits 64 t && fits 32 off
  | .putM t off bytes => fits 64 t && fits 32 off && bytes.length == 128
  | .inv t _ off => fits 64 t && fits 32 off
  | .invAck t _ off => fits 64 t && fits 32 off
  | .recall t off => fits 64 t && fits 32 off
  | .recallData t off bytes => fits 64 t && fits 32 off && bytes.length == 128
  | .appCoherenceTimeout t off => fits 64 t && fits 32 off
  | .partitionReconfig t _ _ => fits 64 t
  | .vmcWriteBack t _ => fits 64 t
  | .vmcWriteBackInvalidate t _ => fits 64 t
  | .pmcClear t _ _ => fits 64 t
  | .canFrameReceived t _ f _ _ => fits 64 t && f.wf
  | .canFrameTransmitted t _ _ _ _ => fits 64 t
  | .arbitrationLost t _ => fits 64 t
  | .canBusError t _ e => fits 64 t && below 8 e.code
  | .busOffRecovery t _ => fits 64 t
  | .txGo t _ _ => fits 64 t
  | .txAbort t _ _ _ => fits 64 t
  | .initRequest t _ _ => fits 64 t
  | .initEntered t _ => fits 64 t
  | .initClear t _ => fits 64 t
  | .modeChange t _ => fits 64 t
  | .fifoRelease t _ _ _ => fits 64 t
  | .tevRelease t _ _ => fits 64 t
  | .bufferLock t _ _ => fits 64 t
  | .bufferRelease t _ _ => fits 64 t
  | .bufferUnlock t _ _ => fits 64 t
  | .timestampWrap t _ => fits 64 t
  | .ethFrameReceived t _ _ frame => fits 64 t && below 1523 frame.length
  | .linkStatusChange t _ _ _ => fits 64 t
  | .addressAgeOut t mac => fits 64 t && fits 48 mac
  | .arpRequest t _ mac ip => fits 64 t && fits 48 mac && fits 32 ip
  | .icmpEcho t src dst _ => fits 64 t && fits 32 src && fits 32 dst
  | .udpDatagram t src sport dst _ _ => fits 64 t && fits 32 src && fits 16 sport && fits 32 dst
  | .tcpConnect t ip port => fits 64 t && fits 32 ip && fits 16 port
  | .tcpClose t _ => fits 64 t
  | .conIdleTimeout t _ => fits 64 t
  | .syncReceived t _ domain _ _ _ => fits 64 t && below 256 domain
  | .announceReceived t _ domain gm _ => fits 64 t && below 256 domain && fits 64 gm
  | .pdelayReqSend t => fits 64 t
  | .pdelayReqReceived t _ _ => fits 64 t
  | .pdelayRespReceived t _ _ _ _ => fits 64 t
  | .receiptTimeout t => fits 64 t
  | .referenceQualified t => fits 64 t
  | .servoSaturation t => fits 64 t
  | .ethsSelectionResume t => fits 64 t
  | .ppsStart t => fits 64 t
  | .ppsEnd t => fits 64 t
  | .doorCmd t path addr _ => fits 64 t && path.wf && below 32 addr
  | .doorStatus t => fits 64 t
  | .interlockStatus t => fits 64 t
  | .exportStart t path addr _ => fits 64 t && path.wf && below 32 addr
  | .exportAckn t path addr _ => fits 64 t && path.wf && below 32 addr
  | .exportStop t path addr _ => fits 64 t && path.wf && below 32 addr
  | .exportDataSend t => fits 64 t
  | .exportRetransmit t => fits 64 t
  | .speedIn t path id _ => fits 64 t && path.wf && fits 29 id
  | .vehTime t _ id _ _ => fits 64 t && fits 29 id
  | .occupancyDiscard t => fits 64 t
  | .renew t h => fits 64 t && h.wf
  | .mirror t h f => fits 64 t && h.wf && f.wf
  | .health t h state checks => fits 64 t && h.wf && below 4 state && fits 16 checks
  | .hello t h i => fits 64 t && h.wf && i.wf
  | .hoReq t h => fits 64 t && h.wf
  | .hoAck t h => fits 64 t && h.wf
  | .transfer t h => fits 64 t && h.wf
  | .safe t h => fits 64 t && h.wf
  | .leaseRenewal t => fits 64 t
  | .leaseRelease t => fits 64 t
  | .leaseExpiry t => fits 64 t
  | .leaseInToggling t => fits 64 t
  | .leaseInStopped t => fits 64 t
  | .steerTimeout t => fits 64 t
  | .pairLinkDown t => fits 64 t
  | .helloSend t => fits 64 t
  | .electWaitExpiry t => fits 64 t
  | .healthSend t => fits 64 t
  | .pairHealth t => fits 64 t
  | .mirrorMissed t => fits 64 t
  | .hoGo t => fits 64 t
  | .hoAckTimeout t => fits 64 t
  | .splitRetry t => fits 64 t
  | .mirrorConfirmTimeout t _ => fits 64 t
  | .resynchronisationEnd t => fits 64 t
  | .ledgerRecordStore t => fits 64 t
  | .stateCellWrite t => fits 64 t
  | .typedEdit t _ _ => fits 64 t
  | .roleIdleTimeout t _ => fits 64 t
  | .authLockEnd t _ => fits 64 t
  | .help t _ _ => fits 64 t
  | .ping t _ => fits 64 t
  | .modeGen t _ => fits 64 t
  | .modeTyped t _ => fits 64 t
  | .sub t _ kind _ => fits 64 t && ["fault", "state", "pair", "adm", "update"].contains kind
  | .role t _ _ => fits 64 t
  | .auth t _ => fits 64 t
  | .authResp t _ _ => fits 64 t
  | .get_ t _ names _ => fits 64 t && !below 1 names.length && below 9 names.length
  | .set_ t _ items => fits 64 t && !below 1 items.length && below 9 items.length
  | .setRelHold t _ _ => fits 64 t
  | .configShow t _ _ => fits 64 t
  | .configCrc t _ => fits 64 t
  | .configApply t _ => fits 64 t
  | .configSave t _ => fits 64 t
  | .configRevert t _ => fits 64 t
  | .configFactory t _ => fits 64 t
  | .doorOpen t _ _ => fits 64 t
  | .doorClose t _ => fits 64 t
  | .doorRelease t _ => fits 64 t
  | .doorUnrelease t _ => fits 64 t
  | .doorReset t _ => fits 64 t
  | .doorIsolate t _ => fits 64 t
  | .doorUnisolate t _ => fits 64 t
  | .doorStatusQuery t _ => fits 64 t
  | .doorMeas t _ => fits 64 t
  | .axisStatus t _ _ => fits 64 t
  | .axisStart t _ _ _ => fits 64 t
  | .axisStop t _ _ => fits 64 t
  | .axisEmerg t _ _ => fits 64 t
  | .axisHalt t _ _ => fits 64 t
  | .axisReref t _ _ => fits 64 t
  | .curStatus t _ _ => fits 64 t
  | .curCal t _ _ => fits 64 t
  | .curClrofs t _ _ => fits 64 t
  | .fbkStatus t _ _ => fits 64 t
  | .fbkArm t _ _ => fits 64 t
  | .fbkDisarm t _ _ => fits 64 t
  | .fbkCount t _ _ _ => fits 64 t
  | .fbkWheel t _ => fits 64 t
  | .domStatus t _ => fits 64 t
  | .domSlot t _ _ => fits 64 t
  | .domArm t _ _ => fits 64 t
  | .domDisarm t _ _ => fits 64 t
  | .domD4 t _ _ => fits 64 t
  | .domLf t _ => fits 64 t
  | .domLfPop t _ => fits 64 t
  | .visionStatus t _ => fits 64 t
  | .visionCam t _ _ => fits 64 t
  | .visionTenant t _ _ => fits 64 t
  | .visionGrid t _ _ _ => fits 64 t
  | .visionTenantStart t _ _ => fits 64 t
  | .visionTenantStop t _ _ => fits 64 t
  | .canStatus t _ _ => fits 64 t
  | .canMode t _ _ _ => fits 64 t
  | .canInit t _ _ _ => fits 64 t
  | .ethStatus t _ => fits 64 t
  | .ethPort t _ _ => fits 64 t
  | .timeStatus t _ => fits 64 t
  | .timeNow t _ => fits 64 t
  | .pairStatus t _ => fits 64 t
  | .pairHealthQuery t _ => fits 64 t
  | .pairHandover t _ => fits 64 t
  | .queue t _ _ => fits 64 t
  | .queueKey t _ _ _ => fits 64 t
  | .faultList t _ => fits 64 t
  | .faultAck t _ code => fits 64 t && fits 16 code
  | .ledgerStatus t _ => fits 64 t
  | .ledgerRead t _ seq _ => fits 64 t && fits 48 seq
  | .ledgerAck t _ seq => fits 64 t && fits 48 seq
  | .updateStatus t _ _ => fits 64 t
  | .updateBegin t _ _ _ _ => fits 64 t
  | .updateData t _ off bytes _ => fits 64 t && below 129 bytes.length && fits 32 off
  | .updateVerify t _ _ _ => fits 64 t
  | .verificationEnd t => fits 64 t
  | .updateActivate t _ _ _ => fits 64 t
  | .trialTimeStore t => fits 64 t
  | .trialTimeLimit t => fits 64 t
  | .updateConfirm t _ _ => fits 64 t
  | .updateAbort t _ _ _ => fits 64 t
  | .selfResetPulse t => fits 64 t
  | .bootBegin t _ _ => fits 64 t
  | .bootData t _ off bytes => fits 64 t && below 33 bytes.length && fits 32 off
  | .bootVerify t _ => fits 64 t
  | .bootRun t _ => fits 64 t
  | .resetFunction t _ _ => fits 64 t
  | .sysInfo t _ => fits 64 t
  | .sysCause t _ => fits 64 t
  | .sysCauseClear t _ _ => fits 64 t
  | .sysFrst t _ => fits 64 t
  | .sysSupply t _ => fits 64 t
  | .faultTake t => fits 64 t
  | .faultHandlingEnd t => fits 64 t
  | .eventFaultClear t code => fits 64 t && fits 16 code
  | .coalescedRecord t code => fits 64 t && fits 16 code
  | .snapshotRead t _ addr => fits 64 t && fits 33 addr
  | .busErrorAccess t addr _ _ => fits 64 t && fits 33 addr
  | .registerWrite t addr _ => fits 64 t && fits 33 addr
  | .motuDeferralTimeout t => fits 64 t
  | .motResetStartTimeout t => fits 64 t
  | .vehTimeGap t => fits 64 t
  | .symbolLockLoss t _ => fits 64 t
  | .busSynchronisation t _ => fits 64 t
  | .malformedLine t _ _ _ _ => fits 64 t

end Sys2Proof
end

