-- ==== Sys2Proof/Tests/Slice0.lean ====
section
/-! SUPPORT. The author's tests: what WellFormed refuses, a state and operands for each clause of the statements that has hypotheses, and a
few single steps. -/

namespace Sys2Proof.Machine

-- One theorem after another: a theorem that waits for the kernel holds a thread of its own.
set_option Elab.async false

/-- A chip whose start-up sequence has run, every register at its reset value. -/
def run0 : Chip := { sys := { started := true } }

/-- The same at a later time. -/
def late (ns : Nat) : Chip := { run0 with now := ns }

/-- A state whose chip is `c`, no command waiting. -/
def with0 (c : Chip) : State := { chip := c, pending := [] }

/-- The chip `c` meets `P` and is what a command stamped 0 finds in `with0 c`, the `c` of the statements' clauses. -/
def Met (c : Chip) (P : Chip → Bool) : Bool := decide (c.out = [] ∧ c.resp = none ∧ c.irq = 0) && P c

/-- Such a chip is the one that a command begins with. -/
theorem met_begin (c : Chip) (P : Chip → Bool) (h : Met c P = true) : c = (with0 c).chip.begin 0 := by
  simp only [Met, Bool.and_eq_true, decide_eq_true_eq] at h
  obtain ⟨⟨h1, h2, h3⟩, -⟩ := h
  cases c
  simp only at h1 h2 h3
  subst h1 h2 h3
  simp [with0, Chip.begin, Chip.tickStart]

/-! ### Witnesses: reset, start-up, supply -/

theorem test_meets_chipResets : (1 : BitVec 9) ≠ 0 ∧ (0 : BitVec 9) = 0 ∧ 99 < 100 ∧
    Met run0 (fun c => 1000 ≤ 1000 ∧ c.sys.held = none ∧ c.sys.resetNLevel < 3) ∧
    Met { sys := { resetNLevel := 2 } } (fun c => 100 ≤ 999 ∧ 999 < 1000 ∧ c.sys.held = none ∧ c.sys.resetNLevel = 2) := by decide +kernel

/-- A chip held in an L1 reset. -/
def heldL1 : Chip := { sys := { held := some 1 } }

theorem test_meets_startUpSteps :
    Met run0 (fun c => c.sys.held = none ∧ c.sys.started = true) ∧
    Met heldL1 (fun c => c.sys.held ≠ none ∧ 1 = c.sys.held.getD 0) ∧
    Met (({} : Chip).set SYS_STRAP_CLKMODE 2) (fun c => c.sys.held = none ∧ c.sys.started = false ∧ c.sys.bootWait = false ∧ c.sys.strapped = false ∧ c.sys.refClosed = false ∧
      c.get SYS_STRAP_CLKMODE ≠ 3) ∧
    Met (run0.put SYS_CLK_STAT_REF_OK true) (fun c => c.live .clock = true ∧ c.is SYS_CLK_STAT_REF_OK = true) ∧
    Met run0 (fun c => c.live .app = true ∧ c.fuses.rstmap = none) ∧
    Met { run0 with fuses := { rstmap := some 2 } } (fun c => c.live .app = true ∧ c.fuses.rstmap = some 2) := by decide +kernel

theorem test_meets_supplyMeasurement :
    Met run0 (fun c => c.live .aon = true ∧ c.is SUP_STATUS_WARN = false ∧ min 1251 1250 * c.get SUP_HOLDUP_CFG0_DIV = 1250 * c.get SUP_HOLDUP_CFG0_DIV) ∧
    (300 ≤ bitsOf (300 : Word).toNat 0 11 ∧ bitsOf (1100 : Word).toNat 0 11 ≤ 1100 ∧ bitAt (300 : Word).toNat 16 = false ∧
      bitAt (0x1012C : Word).toNat 16 = true ∧ bitsOf (0x1012C : Word).toNat 0 11 = 300 ∧ bitsOf (299 : Word).toNat 0 11 < 300 ∧
      1100 < bitsOf (1101 : Word).toNat 0 11) := by decide +kernel

theorem test_meets_supplyWarning :
    Met { late 20000 with sup := { belowSince := some 0 } } (fun c => c.live .aon = true ∧ c.sup.belowSince = some 0 ∧
      c.is SUP_STATUS_WARN = false ∧ 20000 ≤ c.now - 0) ∧
    Met { late 19999 with sup := { belowSince := some 0 } } (fun c => c.live .aon = true ∧ c.sup.belowSince = some 0 ∧ c.now - 0 < 20000) ∧
    Met (({ late 5000000 with sup := { aboveSince := some 0 } } : Chip).put SUP_STATUS_WARN true) (fun c => c.live .aon = true ∧
      c.is SUP_STATUS_WARN = true ∧ c.sup.aboveSince = some 0 ∧ 5000000 ≤ c.now - 0 ∧ c.dipEnd.live .app = true) ∧
    Met (({ now := 5000000, sys := { held := some 1 }, sup := { aboveSince := some 0 } } : Chip).put SUP_STATUS_WARN true) (fun c =>
      c.live .aon = true ∧ c.is SUP_STATUS_WARN = true ∧ c.sup.aboveSince = some 0 ∧ 5000000 ≤ c.now - 0 ∧ c.dipEnd.live .app = false) ∧
    Met (({ now := 200000000, sys := { held := some 1 } } : Chip).put SUP_STATUS_WARN true) (fun c => c.live .aon = true ∧
      c.is SUP_STATUS_WARN = true ∧ c.is SUP_STATUS_HOLD = false ∧ 200000000 ≤ c.now - c.sup.warnSince ∧ c.sys.held = some 1) ∧
    Met ((late 199999999).put SUP_STATUS_WARN true) (fun c => c.live .aon = true ∧ c.is SUP_STATUS_WARN = true ∧ c.now - c.sup.warnSince < 200000000) ∧
    Met ((late 200000000).put SUP_STATUS_WARN true) (fun c => c.live .app = true ∧ c.is SUP_STATUS_WARN = true ∧ c.is SUP_STATUS_HOLD = false ∧
      200000000 ≤ c.now - c.sup.warnSince ∧ [0, 1, 2, 3].all (fun n => (c.ax n).v == 0) = true) := by decide +kernel

/-- A per-function reset of ETH that waits for its idle acknowledgement since 0. -/
def ethReset : FnReset := { func := 8, since := 0, slot := none, byFault := false, acked := false }

theorem test_meets_functionResets :
    Met run0 (fun c => c.live .app = true ∧ c.fnBusy 2 = false ∧ c.fnBusy 9 = false ∧ c.fnBusy 0 = false ∧ c.fnBusy 1 = false ∧ c.sys.motuDeferred = none) ∧
    Met (run0.putBit SYS_FRST_STAT_BUSY 9 true) (fun c => c.live .app = true ∧ c.fnBusy 9 = true) ∧
    Met (run0.set DOOR_STATUS_STATE 10) (fun c => c.live .app = true ∧ c.fbkMayReset = true ∧ c.fnBusy 0 = false) ∧
    Met (run0.set DOOR_STATUS_STATE 0) (fun c => c.live .app = true ∧ c.fbkMayReset = false) ∧
    Met { run0 with sys := { started := true, frst := [ethReset] } } (fun c => c.live .app = true ∧ c.fnWaiting 8 = some ethReset ∧
      (c.put (SYS_FRST_LOG_LAST_TMO 8) false).gateOpen .pointer = true ∧ c.now - 0 < c.get (SYS_FRST_TMO_TMO 8) * 100000) ∧
    Met { late 100000000 with sys := { started := true, frst := [ethReset] } } (fun c => c.live .app = true ∧ c.fnWaiting 8 = some ethReset ∧
      c.get (SYS_FRST_TMO_TMO 8) * 100000 ≤ c.now - 0 ∧
      ((((c.put (SYS_FRST_LOG_LAST_TMO 8) true).incSat (SYS_FRST_LOG_TMO_COUNT 8)).raiseArg 0x0210 0 8).gateOpen .pointer = true)) ∧
    Met { late 60000000000 with sys := { started := true, motuDeferred := some (ethReset, false) } } (fun c => c.live .app = true ∧
      c.sys.motuDeferred = some (ethReset, false) ∧ 60000000000 ≤ c.now - ethReset.since) ∧
    Met { late 59999999999 with sys := { started := true, motuDeferred := some (ethReset, true) } } (fun c => c.live .app = true ∧
      c.sys.motuDeferred = some (ethReset, true) ∧ c.now - ethReset.since < 60000000000) ∧
    Met { late 2000000000 with flt := { motWait := [(0x0702, 0)] } } (fun c => c.live .app = true ∧ c.flt.motWait = [(0x0702, 0)] ∧ 2000000000 ≤ c.now - 0) ∧
    Met { late 1999999999 with flt := { motWait := [(0x0702, 0)] } } (fun c => c.live .app = true ∧ c.flt.motWait = [(0x0702, 0)] ∧
      c.now - 0 < 2000000000) := by decide +kernel

/-! ### Witnesses: feedback and domains -/

/-- Channel 0 counts quadrature edges. -/
def quad0 : Chip := run0.put (FBK_CH_CFG_ENABLE 0) true

theorem test_meets_positionInputs_quad :
    Met quad0 (fun c => c.live .island = true ∧ (c.fb 0).raw = cond false 1 0 + 2 * cond false 1 0) ∧
    Met ((quad0.set (FBK_CH_FILT_T_MIN 0) 1).setFb 0 (fun x => { x with lastEdge := some 0 })) (fun c =>
      let k := c.setFb 0 (fun x => { x with raw := cond true 1 0 + 2 * cond false 1 0 })
      c.live .island = true ∧ (c.fb 0).raw ≠ cond true 1 0 + 2 * cond false 1 0 ∧ k.quadOn 0 = true ∧ k.frozen 0 = false ∧
        k.tooSoon 0 (k.fb 0).lastEdge = true) ∧
    Met quad0 (fun c =>
      let k := c.setFb 0 (fun x => { x with raw := cond true 1 0 + 2 * cond false 1 0 })
      c.live .island = true ∧ (c.fb 0).raw ≠ cond true 1 0 + 2 * cond false 1 0 ∧ k.quadOn 0 = true ∧ k.frozen 0 = false ∧
        k.tooSoon 0 (k.fb 0).lastEdge = false ∧ (k.fb 0).raw ≠ (k.fb 0).acc ∧ quadDir (k.fb 0).acc (k.fb 0).raw = some true) ∧
    Met (quad0.setFb 0 (fun x => { x with raw := 2 })) (fun c => c.live .island = true ∧ c.quadOn 0 = true ∧ c.frozen 0 = false ∧
      c.tooSoon 0 (c.fb 0).lastEdge = false ∧ (c.fb 0).raw ≠ (c.fb 0).acc ∧ quadDir (c.fb 0).acc (c.fb 0).raw = some false) := by decide +kernel

/-- Channel 1 takes PWC pulses. -/
def pwc1 : Chip := (run0.put (FBK_CH_CFG_ENABLE 1) true).set (FBK_CH_CFG_MODE 1) 1

theorem test_meets_positionInputs_pulse :
    Met pwc1 (fun c => c.live .island = true ∧ c.is (FBK_CH_CFG_ENABLE 1) = true ∧ c.frozen 1 = false ∧ c.get (FBK_CH_CFG_MODE 1) = 1 ∧
      c.tooSoon 1 (c.fb 1).lastPulse = false ∧ 99 < 100 ∧ 100 ≤ 1249 ∧ 1249 < 1250) ∧
    Met ((pwc1.set (FBK_CH_FILT_T_MIN 1) 1).setFb 1 (fun x => { x with lastPulse := some 0 })) (fun c => c.live .island = true ∧
      c.is (FBK_CH_CFG_ENABLE 1) = true ∧ c.frozen 1 = false ∧ c.get (FBK_CH_CFG_MODE 1) = 1 ∧ c.tooSoon 1 (c.fb 1).lastPulse = true) ∧
    Met ((run0.put (FBK_CH_CFG_ENABLE 2) true).set (FBK_CH_CFG_MODE 2) 2) (fun c => c.live .island = true ∧ c.is (FBK_CH_CFG_ENABLE 2) = true ∧
      c.frozen 2 = false ∧ c.get (FBK_CH_CFG_MODE 2) = 2) := by decide +kernel

theorem test_meets_cableIndexHall :
    Met quad0 (fun c => c.live .island = true ∧ c.is (FBK_CH_CFG_ENABLE 0) = true ∧ c.inputUsed 0 2 = true ∧ c.bit (FBK_CH_STAT_CABLE 0) 2 = false) ∧
    Met run0 (fun c => c.live .island = true ∧ c.is (FBK_CH_CFG_ENABLE 0) = false) ∧
    Met (quad0.putBit (FBK_CH_STAT_CABLE 0) 1 true) (fun c => c.live .island = true ∧ c.bit (FBK_CH_STAT_CABLE 0) 1 = true ∧ 0 < 4) ∧
    Met (quad0.put (FBK_CH_CFG_REF_SRC 0) true) (fun c => c.live .island = true ∧ c.is (FBK_CH_CFG_ENABLE 0) = true ∧ c.is (FBK_CH_CFG_REF_SRC 0) = true) ∧
    Met ((quad0.set (FBK_CH_FILT_T_MIN 0) 1).setFb 0 (fun x => { x with lastZ := some 0 })) (fun c => c.live .island = true ∧
      c.is (FBK_CH_CFG_ENABLE 0) = true ∧ c.get (FBK_CH_CFG_MODE 0) = 0 ∧ c.inputUsed 0 2 = true ∧ c.bit (FBK_CH_STAT_CABLE 0) 2 = false ∧
      c.tooSoon 0 (c.fb 0).lastZ = true) ∧
    Met quad0 (fun c => c.live .island = true ∧ c.is (FBK_CH_CFG_ENABLE 0) = true ∧ c.get (FBK_CH_CFG_MODE 0) = 0 ∧ c.inputUsed 0 2 = true ∧
      c.bit (FBK_CH_STAT_CABLE 0) 2 = false ∧ c.tooSoon 0 (c.fb 0).lastZ = false ∧
      (c.setFb 0 (fun x => { x with lastZ := some c.now })).get (FBK_CH_CFG_Z_GATE 0) = 0) := by decide +kernel

theorem test_meets_indexArmFrame : Met run0 (fun c => c.live .island = true) ∧
    (∃ g : Fld, g.addr = (FBK_CH_STAT_ARMED 0).addr ∧
      (g.lo + g.w ≤ (FBK_CH_STAT_ARMED 0).lo ∨ (FBK_CH_STAT_ARMED 0).lo + (FBK_CH_STAT_ARMED 0).w ≤ g.lo)) :=
  ⟨by decide +kernel, FBK_CH_STAT_STANDSTILL 0, by decide +kernel⟩

/-- Channel 4, a wheel channel, runs at 1 s with its last edge at 0. -/
def wheel4 : Chip := ((late 1000000000).put (FBK_CH_CFG_ENABLE 4) true).setFb 4 (fun x => { x with lastEdge := some 0, okSince := some 0 })

theorem test_meets_countObserver :
    Met (quad0.put (FBK_CH_STAT_STANDSTILL 0) false) (fun c => c.live .island = true ∧ c.is (FBK_CH_CFG_ENABLE 0) = true ∧
      c.is (FBK_CH_STAT_STANDSTILL 0) = false) ∧
    Met (run0.put (FBK_CH_STAT_STANDSTILL 4) true) (fun c => c.live .island = true ∧ c.is (FBK_CH_STAT_STANDSTILL 4) = true ∧ 4 ≤ 4) ∧
    Met (quad0.put (FBK_CH_STAT_STANDSTILL 0) true) (fun c => c.live .island = true ∧ c.is (FBK_CH_CFG_ENABLE 0) = true ∧ c.fbkHeld 0 = true) ∧
    Met (((quad0.put (FBK_CH_STAT_STANDSTILL 0) false).put (FBK_CH_STAT_FIRST 0) false).put (FBK_CH_STAT_REVERSAL 0) false) (fun c =>
      c.live .island = true ∧ c.is (FBK_CH_CFG_ENABLE 0) = true ∧ c.fbkHeld 0 = false) ∧
    Met run0 (fun c => c.live .island = true ∧ c.is (FBK_CH_CFG_ENABLE 0) = false) ∧
    Met (wheel4.put (FBK_CH_STAT_STANDSTILL 4) false) (fun c => c.live .island = true ∧ c.is (FBK_CH_CFG_ENABLE 4) = true ∧
      c.is (FBK_CH_STAT_STANDSTILL 4) = false ∧ (c.fb 4).lastEdge = some 0 ∧ c.get (FBK_CH_SPD_T_ZERO 4) * 1000000 ≤ c.now - 0) ∧
    Met { wheel4 with now := 0 } (fun c => c.live .island = true ∧ (c.fb 4).lastEdge = some 0 ∧ c.now - 0 < c.get (FBK_CH_SPD_T_ZERO 4) * 1000000) := by
  decide +kernel

/-- The wheel function runs on channel 4 and 5. -/
def wheels : Chip := ((wheel4.put (FBK_CH_CFG_ENABLE 5) true).set FBK_WHL_CFG0_SPD_SEL 0)

theorem test_meets_wheelSpeed :
    Met wheels (fun c => c.live .island = true ∧ (c.fb 4).okSince = some 0 ∧ c.wheelOn = true ∧ c.is (FBK_CH_CFG_ENABLE 4) = true ∧
      1000000000 ≤ c.now - 0) ∧
    Met { wheels with now := 999999999 } (fun c => c.live .island = true ∧ (c.fb 4).okSince = some 0 ∧ c.wheelOn = true ∧
      c.is (FBK_CH_CFG_ENABLE 4) = true ∧ c.now - 0 < 1000000000) ∧
    Met { late 1000000000 with wheel := { slideSince := some 0 } } (fun c => c.live .island = true ∧ c.wheel.slideSince = some 0 ∧
      c.is FBK_WHL_STAT_DISAGREE = false ∧ c.get FBK_WHL_CFG1_SLIDE_T * 1000000 ≤ c.now - 0) ∧
    Met ({ run0 with wheel := { slideSince := some 0 } } |> fun c => c.set FBK_WHL_CFG1_SLIDE_T 1) (fun c => c.live .island = true ∧
      c.wheel.slideSince = some 0 ∧ c.is FBK_WHL_STAT_DISAGREE = false ∧ c.now - 0 < c.get FBK_WHL_CFG1_SLIDE_T * 1000000) ∧
    Met ((late 10000000000).put FBK_WHL_STAT_DISAGREE true) (fun c => c.live .island = true ∧ c.is FBK_WHL_STAT_DISAGREE = true ∧
      10000000000 ≤ c.now - c.wheel.disagreeAt) ∧
    Met ((((({ wheels with now := 10000000000 } : Chip).set FBK_WHL_STAT_QUAL 3).put (FBK_CH_STAT_STANDSTILL 4) true).put
      (FBK_CH_STAT_STANDSTILL 5) true)) (fun c => c.live .island = true ∧ c.vstillOk = true ∧
      c.get FBK_WHL_CFG1_HOLD_MS * 1000000 ≤ c.now - c.wheel.clearSince) ∧
    Met run0 (fun c => c.live .island = true ∧ c.vstillOk = false) ∧
    Met (({ run0 with wheel := { blendCyc := 100000 } } : Chip).put FBK_WHL_STAT_BLEND true) (fun c => c.live .island = true ∧
      c.is FBK_WHL_STAT_BLEND = true ∧ c.blendLen ≤ c.wheel.blendCyc) := by decide +kernel

/-- Slot 0 fires on D0 at 1,000 with a deadline of 10 us. -/
def slot0 : Chip := ((run0.set (DOM_SLOT_TGT_LO_TARGET 0) 1000).set (DOM_SLOT_DL_VALUE 0) 10).put (DOM_SLOT_DL_UNIT 0) true

/-- The slot once `slotArm` has set its status. -/
def arming : Chip :=
  let k := ((((slot0.put (DOM_SLOT_STAT_ARMED 0) true).put (DOM_SLOT_STAT_FIRED 0) false).put (DOM_SLOT_STAT_LATE 0) false).put
    (DOM_SLOT_STAT_REFUSED 0) false).set (DOM_SLOT_STAT_MISSED 0) 0
  let m := ((k.set (DOM_SLOT_STAT_POL 0) (k.slotPolicy 0)).set64 (DOM_PRED_LO_TICK 0) (DOM_PRED_HI_TICK 0) 0)
  m.setTarget 0 (m.slotProgrammed 0)

/-- Slot 0 armed on D0, which is valid and 1 um from the target, with a speed in um/s. -/
def moving (sp : Nat) : Chip :=
  ((({ slot0 with dom := { target := [(0, 1000)], val := [999000, 0, 0, 0, 0, 0, 0, 0] } } : Chip).put (DOM_SLOT_STAT_ARMED 0) true).putBit
    DOM_STAT_VALID 0 true).set (FBK_CH_SPEED_SPEED_UM 0) sp |>.set (FBK_CH_PITCH_PITCH_NM 0) 5000

theorem test_meets_domainSlots :
    Met (slot0.put (DOM_SLOT_STAT_ARMED 0) true) (fun c => c.live .app = true ∧ c.armed 0 = true) ∧
    Met run0 (fun c => c.live .app = true ∧ c.armed 0 = false ∧ c.armRefusal 0 = some 222) ∧
    Met slot0 (fun c => c.live .app = true ∧ c.armed 0 = false ∧ c.armRefusal 0 = none ∧ arming.domValid (arming.slotDom 0) = false) ∧
    (arming.putBit DOM_STAT_VALID 0 true).domValid (arming.slotDom 0) = true ∧
    Met (slot0.putBit DOM_STAT_VALID 0 true) (fun c => c.live .app = true ∧ c.armed 0 = false ∧ c.armRefusal 0 = none) ∧
    Met ({ moving 1000 with now := 1000000 }) (fun c => c.live .app = true ∧ c.armed 0 = true ∧ c.dom.waiting.contains 0 = false ∧ c.slotDom 0 ≤ 4 ∧
      c.domValid (c.slotDom 0) = true ∧ (match c.predict 0 with | some (tick, _, ok) => ok && decide (tick ≤ c.now) | none => false) = true) ∧
    Met { moving 1000 with now := 999999 } (fun c => c.live .app = true ∧ c.armed 0 = true ∧ c.dom.waiting.contains 0 = false ∧ c.slotDom 0 ≤ 4 ∧
      c.domValid (c.slotDom 0) = true ∧ (match c.predict 0 with | some (tick, _, ok) => ok && decide (c.now < tick) | none => false) = true) ∧
    Met (({ run0 with tbVeh := 5 } : Chip).put (DOM_SLOT_STAT_ARMED 1) true |>.set (DOM_SLOT_CFG_DOMAIN 1) 7) (fun c => c.live .app = true ∧
      c.armed 1 = true ∧ c.slotDom 1 = 7 ∧ c.slotTarget 1 ≤ (c.tbVeh : Int)) ∧
    Met run0 (fun c => c.live .app = true ∧ c.armed 63 = false) ∧
    Met { late 10 with pins := { pulses := [(7, true, 10)] } } (fun c => c.live .app = true ∧ c.pins.pulses = [(7, true, 10)] ∧ 10 ≤ c.now) ∧
    Met { late 9 with pins := { pulses := [(7, true, 10)] } } (fun c => c.live .app = true ∧ c.pins.pulses = [(7, true, 10)] ∧ c.now < 10) := by
  decide +kernel

theorem test_meets_domainsAndCycle :
    Met { run0 with dom := { lf := [⟨1, 0, 2, 3⟩, ⟨2, 1, 4, 5⟩] } } (fun c => c.live .app = true ∧ c.dom.lf = [⟨1, 0, 2, 3⟩, ⟨2, 1, 4, 5⟩]) ∧
    Met run0 (fun c => c.live .app = true ∧ c.dom.lf = [] ∧ c.sys.started = true) ∧
    Met { sys := { held := some 2 } } (fun c => c.sys.held = some 2) ∧ Met { sys := { held := some 1 } } (fun c => c.sys.held = some 1) := by
  decide +kernel

/-! ### Witnesses: motion, coil current, door timers -/

/-- Axis 0 enabled, with a lead, a profile for motion set 32 and a declared rate that covers it. -/
def axis0 : Chip :=
  ((((((((((run0.put (MOT_AX_CFG_ENABLE 0) true).set (MOT_AX_LEAD_LEAD_NM 0) 5000000).set (MOT_PRF_VSTART_V 0) 1).set (MOT_PRF_VBRK_V 0) 1).set
    (MOT_PRF_VMAX_V 0) 1).set (MOT_PRF_VSTOP_V 0) 1).set (MOT_PRF_ACC_A1 0) 1).set (MOT_PRF_ACC_A2 0) 1).set (MOT_PRF_DEC_D1 0) 1).set
    (MOT_PRF_DEC_D2 0) 1).set (DOM_D_RATE_RATE 0) 100

theorem test_meets_motion :
    Met run0 (fun c => c.live .app = true ∧ c.applyRefusal 0 63 .door = some 242 ∧ 242 ≠ 316) ∧
    Met ((axis0.set (MOT_AX_STAT_SEG 0) 0).put (MOT_AX_STAT_STEPLOSS_POSSIBLE 0) false) (fun c =>
      let k := c.put (MOT_AX_STAT_REFUSED 0) false
      c.live .app = true ∧ c.applyRefusal 0 32 .door = none ∧ k.get (MOT_AX_STAT_SEG 0) ≠ 10 ∧ k.is (MOT_AX_STAT_STEPLOSS_POSSIBLE 0) = false) ∧
    Met (run0.set (MOT_AX_STAT_SEG 3) 9) (fun c => c.live .app = true ∧ c.get (MOT_AX_STAT_SEG 3) = 9) ∧
    Met (run0.set (MOT_AX_STAT_SEG 3) 10) (fun c => c.live .app = true ∧ c.get (MOT_AX_STAT_SEG 3) = 10) ∧
    Met (run0.set (MOT_AX_STAT_SEG 0) 0) (fun c => c.live .app = true ∧ c.get (MOT_AX_STAT_SEG 0) = 0 ∧ (c.ax 0).v = 0 ∧ c.get (MOT_AX_STAT_SEG 0) ≠ 8) ∧
    Met ((run0.set (MOT_AX_STAT_SEG 0) 3).setAx 0 (fun a => { a with v := 1 })) (fun c =>
      let k := c.setAx 0 (fun a => { a with tripSrc := (firstTrip a.tripSrc a.tripAt none c.now).1, tripAt := (firstTrip a.tripSrc a.tripAt none c.now).2 })
      c.live .app = true ∧ c.get (MOT_AX_STAT_SEG 0) ≠ 10 ∧ (c.ax 0).v ≠ 0 ∧ (k.ax 0).v ≠ 0) ∧
    Met ((run0.put (FBK_CH_STAT_POS_VALID 0) true).put (FBK_CH_STAT_STANDSTILL 0) true) (fun c => c.live .app = true ∧ c.canReref 0 = true ∧ (c.ax 0).v = 0) ∧
    Met run0 (fun c => c.live .app = true ∧ c.canReref 0 = false ∧ c.pair.claimAt = none) ∧
    Met (run0.set (MOT_AX_TRIP_EN 0) 1) (fun c => c.live .app = true ∧ c.bit (MOT_AX_TRIP_EN 0) 0 = true ∧ c.bit (MOT_AX_TRIP_EN 0) 3 = false) ∧
    Met (((late 1000000000).set (MOT_AX_STAT_SEG 0) 8).setAx 0 (fun a => { a with stopAt := some 0 })) (fun c => c.live .app = true ∧
      c.get (MOT_AX_STAT_SEG 0) = 8 ∧ (c.ax 0).v = 0 ∧ (c.ax 0).stopAt = some 0 ∧ c.get (MOT_AX_CFG_T_REV 0) * 1000000 ≤ c.now - 0 ∧
      c.getI (MOT_AX_TGT_VALUE 0) = c.xpos 0) ∧
    Met ((((late 1000000000).set (MOT_AX_STAT_SEG 0) 8).set (MOT_AX_TGT_VALUE 0) 7).setAx 0 (fun a => { a with stopAt := some 0 })) (fun c =>
      c.live .app = true ∧ c.get (MOT_AX_STAT_SEG 0) = 8 ∧ (c.ax 0).v = 0 ∧ (c.ax 0).stopAt = some 0 ∧
      c.get (MOT_AX_CFG_T_REV 0) * 1000000 ≤ c.now - 0 ∧ c.getI (MOT_AX_TGT_VALUE 0) ≠ c.xpos 0) ∧
    Met (((late 10000000000).set (MOT_AX_STAT_SEG 0) 0).setAx 0 (fun a => { a with stopAt := some 0 })) (fun c => c.live .app = true ∧
      c.get (MOT_AX_STAT_SEG 0) = 0 ∧ (c.ax 0).v = 0 ∧ (c.ax 0).stopAt = some 0 ∧ c.get (MOT_AX_SCALE_HOLD_DLY 0) * 1000000 ≤ c.now - 0) ∧
    Met (((run0.set (MOT_AX_STAT_SEG 0) 0).set (MOT_AX_SCALE_HOLD_DLY 0) 1).setAx 0 (fun a => { a with stopAt := some 0 })) (fun c => c.live .app = true ∧
      c.get (MOT_AX_STAT_SEG 0) = 0 ∧ (c.ax 0).v = 0 ∧ (c.ax 0).stopAt = some 0 ∧ c.now - 0 < c.get (MOT_AX_SCALE_HOLD_DLY 0) * 1000000) ∧
    Met { run0 with pair := { claimAt := some 0 } } (fun c => c.live .app = true ∧ c.pair.claimAt = some 0) := by decide +kernel

/-- Both phases of axis 0 with the same counts. -/
def phases (f : Phase → Phase) (c : Chip) : Chip := c.setCu 0 (fun x => (x.setPh 0 f).setPh 1 f)

theorem test_meets_axisFaults :
    Met (((run0.put (CUR_AX_STAT_DRIVING 0) true).put (MOT_AX_STAT_STEPLOSS_POSSIBLE 0) false).setAx 0 (fun a => { a with stallCnt := 255 })) (fun c => c.live .app = true ∧
      c.get (MOT_AX_STALL_STALL_CYC 0) ≤ (c.ax 0).stallCnt ∧ c.is (CUR_AX_STAT_DRIVING 0) = true ∧ c.is (MOT_AX_STAT_STEPLOSS_POSSIBLE 0) = false ∧
      c.mayDrive 0 = false) ∧
    Met run0 (fun c => c.live .app = true ∧ c.is (CUR_AX_STAT_DRIVING 0) = false ∧ ((c.cu 0).ph 1).openCnt < 8 ∧ ((c.cu 0).ph 1).sagCnt < 20 ∧
      (-1000 : Int).natAbs ≤ 1000 ∧ 2000 ≤ 2000 ∧ 2000 < 2001 ∧ (c.cu 0).adcOk = true) ∧
    Met (phases (fun h => { h with openCnt := 8, sagCnt := 20 }) run0) (fun c => c.live .app = true ∧ 8 ≤ ((c.cu 0).ph 1).openCnt ∧
      20 ≤ ((c.cu 0).ph 0).sagCnt) := by decide +kernel

/-- Axis 0 driven with a positive set current of phase A. -/
def driven : Chip := ((run0.put (CUR_AX_STAT_DRIVING 0) true).set (MOT_AX_PHASE_I_A 0) 16384).set (CUR_AX_SCALE_I_PEAK 0) 2000

theorem test_meets_chopper :
    Met driven (fun c => c.live .app = true ∧ c.is (CUR_AX_STAT_DRIVING 0) = true ∧ c.iSet 0 0 ≠ 0 ∧ 0 ≤ c.iSet 0 0 * ((c.cu 0).ph 0).iMeas ∧
      ((c.cu 0).ph 0).start = none ∧ ((c.cu 0).ph 0).bridge ≠ .on ∧ ((c.cu 0).ph 0).ended = true) ∧
    Met (phases (fun h => { h with start := some 0 }) (late 24999)) (fun c => c.live .app = true ∧ ((c.cu 0).ph 0).start = some 0 ∧ c.now - 0 < 25000) ∧
    Met (phases (fun h => { h with start := some 0, bridge := .on }) (late 1000)) (fun c => c.live .app = true ∧ ((c.cu 0).ph 0).start = some 0 ∧
      ((c.cu 0).ph 0).bridge = .on ∧ ((c.cu 0).ph 0).cfg.tblank * 250 ≤ c.now - 0 ∧ c.threshold 0 0 true ≤ (0 : Int).natAbs) ∧
    Met (phases (fun h => { h with start := some 0, bridge := .slow, ended := false, onEnd := 5000 }) (late 25000)) (fun c => c.live .app = true ∧
      ((c.cu 0).ph 0).start = some 0 ∧ ((c.cu 0).ph 0).cfg.hyst = false ∧ (((c.cu 0).ph 0).bridge = .fast ∨ ((c.cu 0).ph 0).bridge = .slow) ∧
      ((c.cu 0).ph 0).ended = false ∧ ((c.cu 0).ph 0).cfg.toff * 250 ≤ c.now - ((c.cu 0).ph 0).onEnd ∧ 25000 ≤ c.now - 0) := by decide +kernel

theorem test_meets_force :
    Met (run0.setCu 0 (fun x => { x with overs := 2 })) (fun c => c.live .app = true ∧ 2 ≤ (c.cu 0).overs ∧ c.is (CUR_AX_STAT_FTRIP 0) = false) ∧
    Met (run0.setCu 0 (fun x => { x with overs := 1 })) (fun c => c.live .app = true ∧ (c.cu 0).overs < 2 ∧ c.wqm.entries = [] ∧ (c.cu 0).fit ≠ 2) ∧
    Met (run0.setCu 0 (fun x => { x with fit := 2, fitOk := false })) (fun c => c.live .app = true ∧ (c.cu 0).fit = 2 ∧ (c.cu 0).fitOk = false ∧
      (c.fitEnd 0).cu 0 = { (c.cu 0) with fit := 1, fitOk := true, fitCruise := 0, sums := {} }) := by decide +kernel

theorem test_meets_doorTimers :
    Met (run0.set DOOR_STATUS_STATE 4) (fun c => c.live .app = true ∧ c.doorState = 4) ∧
    Met ({ run0 with door := { withheld := true } } |> fun c => c.set DOOR_STATUS_STATE 4) (fun c => c.live .app = true ∧ c.doorState = 4 ∧ c.door.withheld = true) ∧
    Met ((late 100000000000).set DOOR_STATUS_STATE 2) (fun c => c.live .app = true ∧ c.doorState = 2 ∧
      c.doorFor (c.get DOOR_TMOVE_T_OPEN_MAX * 10000000) = true) ∧
    Met ((late 100000000000).set DOOR_STATUS_STATE 5) (fun c => c.live .app = true ∧ c.doorState = 5 ∧
      c.doorFor (c.get DOOR_TMOVE_T_CLOSE_MAX * 10000000) = true) ∧
    Met ((late 100000000000).set DOOR_STATUS_STATE 7) (fun c => c.live .app = true ∧ c.doorState = 7 ∧
      c.doorFor (c.get DOOR_TWAIT_T_RECLOSE * 10000000) = true) ∧
    Met ((late 100000000000).set DOOR_STATUS_STATE 8) (fun c => c.live .app = true ∧ c.doorState = 8 ∧ c.doorFor (c.get DOOR_LOCK_T_LOCK * 1000000) = true) ∧
    Met (run0.set DOOR_STATUS_STATE 3) (fun c => c.live .app = true ∧ c.doorState = 3 ∧ c.doorState ≠ 4) ∧
    Met (({ run0 with door := { ovs := [0, 10] } } : Chip).set DOOR_STATUS_STATE 2) (fun c => c.live .app = true ∧ (c.door.ovs[1]?).getD 0 = 10 ∧
      c.doorState ≠ 9 ∧ c.doorState ≠ 10) := by decide +kernel

theorem test_meets_islandTimers :
    Met (({ late 100000000000 with vote := { stopSince := some 0 } } : Chip).put VOTE_STAT_BRIDGE true) (fun c => c.live .app = true ∧
      c.stopOver = true ∧ c.is VOTE_STAT_BRIDGE = true) ∧
    Met run0 (fun c => c.live .app = true ∧ c.stopOver = false ∧ c.gridOld 0 = false) ∧
    Met (({ late 2000000000 with vote := { vetoSince := some 0, speedIn := some (100000, 2000000000) } } : Chip).put FBK_WHL_STAT_VSTILL true) (fun c =>
      c.live .app = true ∧ c.vote.vetoSince = some 0 ∧ c.vote.vetoTold = false ∧ c.veto = true ∧ c.is FBK_WHL_STAT_VSTILL = true ∧ 2000000000 ≤ c.now - 0) ∧
    Met { run0 with vote := { vetoTold := true } } (fun c => c.live .app = true ∧ c.vote.vetoTold = true) ∧
    Met (run0.set (VOTE_MASK_ROW 1 0 0) 1) (fun c => c.live .app = true ∧ c.gridOld 1 = true ∧ c.is VOTE_STAT_VA = false) ∧
    Met ((({ late 1000000000 with vote := { vaClear := some 0 } } : Chip).put VOTE_CFG_VISION_USE true |>.put (NOS_TEN_STAT_RUNNING 1) true).put
      VOTE_STAT_VA true) (fun c => c.live .app = true ∧ c.visionLacks = false ∧ c.vote.vaClear = some 0 ∧ 1000000000 ≤ c.now - 0 ∧
      c.is VOTE_STAT_VA = true ∧ [0, 1].all (fun m => !c.masked m || bitAt c.vote.vaFresh m) = true) := by decide +kernel

/-! ### Witnesses: safety inputs, cameras, vision engine, vision memory -/

/-- SAFE and APP from NOR; input 5 is an enabled static pushbutton of function `f`. -/
def input5 (f : Nat) : Chip :=
  ({ run0 with sys := { started := true, fromNor := true } } : Chip).put (VOTE_SIN_CFG_EN 5) true |>.set (VOTE_SIN_CFG_FUNC 5) f
    |>.put (VOTE_SIN_CFG_MODE 5) false

theorem test_meets_safetyInputs :
    Met run0 (fun c => c.live .island = true ∧ c.sys.fromNor = false) ∧
    Met (input5 1) (fun c => c.live .island = true ∧ c.sys.fromNor = true ∧ (2 : Fin 4).val ≠ 3 ∧ c.sinFaults = 0 ∧
      (c.setReadings (fun i x => x.check c 2 (if i = 0 then 0 else if i = 1 then 0 else 0) (c.pair.pulseHold != 0))).sinFaults = 0) ∧
    Met (input5 1) (fun c => c.live .island = true ∧ c.sys.fromNor = true ∧ c.sinOn 5 = true ∧ c.is (VOTE_SIN_CFG_MODE 5) = false ∧
      c.vote.ch.any (fun x => c.dualDue 0 x) = false) ∧
    Met (run0.put (VOTE_SIN_CFG_MODE 23) true) (fun c => c.live .island = true ∧ c.is (VOTE_SIN_CFG_MODE 23) = true) ∧
    Met { late 10000000000 with vote := { ch := [{ dis := [none, some 0] }, {}, {}] } } (fun c => c.live .island = true ∧
      c.vote.ch.any (fun x => c.dualDue 1 x) = true ∧ c.pair.taking = false ∧ c.sys.held = none) ∧
    Met { input5 6 with vote := { outIso := 86400000000000 } } (fun c => c.live .island = true ∧ c.sinOn 5 = true ∧
      (c.get (VOTE_SIN_CFG_FUNC 5) ≤ 6 ∨ c.get (VOTE_SIN_CFG_FUNC 5) = 12) ∧ 86400000000000 ≤ c.vote.outIso - lookupD c.vote.mark 5 0) := by decide +kernel

theorem test_meets_pushbuttons :
    Met ((({ input5 10 with now := 50000000 } : Chip).putBit VOTE_SIN_STATE_CLOSED 5 true).put (WQM_Q_CFG_EN 14) false) (fun c =>
      let k : Chip := { c with vote := { c.vote with pbReady := setBit c.vote.pbReady 5 false } }
      c.live .app = true ∧ c.sinOn 5 = true ∧ c.get (VOTE_SIN_CFG_FUNC 5) = 10 ∧ bitAt (c.get VOTE_SIN_STATE_CLOSED) 5 = true ∧
        bitAt c.vote.pbReady 5 = true ∧ 50000000 ≤ c.now - lookupD c.vote.sinAt 5 0 ∧ k.queueOf 16 128 = none) ∧
    Met (({ input5 11 with now := 50000000 } : Chip).putBit VOTE_SIN_STATE_CLOSED 5 true) (fun c =>
      let k : Chip := { c with vote := { c.vote with pbReady := setBit c.vote.pbReady 5 false } }
      c.live .app = true ∧ c.sinOn 5 = true ∧ c.get (VOTE_SIN_CFG_FUNC 5) = 11 ∧ bitAt (c.get VOTE_SIN_STATE_CLOSED) 5 = true ∧
        bitAt c.vote.pbReady 5 = true ∧ 50000000 ≤ c.now - lookupD c.vote.sinAt 5 0 ∧ k.queueOf 16 128 = some 14) := by decide +kernel

/-- Camera 0 enabled, its stream up. -/
def cam0 : Chip := (run0.put (NOS_CAM_CFG_EN 0) true).put (NOS_CAM_STAT_STREAM 0) true

/-- A long packet of a data type. -/
def packet (dt : Nat) (vc : Fin 4) (ecc : Fin 3) : CsiPacket := { ecc := ecc, vc := vc, dt := dt, crcOk := true, pixels := [], full := false }

theorem test_meets_cameraFrames :
    Met run0 (fun c => c.live .app = true ∧ c.is (NOS_CAM_CFG_EN 1) = false ∧ 100000000 > c.now - (c.camSt 1).fsAt) ∧
    Met cam0 (fun c =>
      let k := (((c.setCam 0 (fun x => { x with fn := some 5, fidx := c.firstFidx 0 5, fsAt := c.now, lines := 0, short := false })).set64
        (NOS_CAM_FIDX_LO_FIDX 0) (NOS_CAM_FIDX_HI_FIDX 0) (c.firstFidx 0 5)).set64 (NOS_CAM_FS_TS_LO_TS 0) (NOS_CAM_FS_TS_HI_TS 0) c.now)
      c.live .app = true ∧ c.fuses.partN = false ∧ c.is (NOS_CAM_CFG_EN 0) = true ∧ (c.camSt 0).fn = none ∧
        (k.set (NOS_CAM_ERR_FRAMES_LOST 0) (satNat 8 (k.get (NOS_CAM_ERR_FRAMES_LOST 0)))).is (NOS_CAM_STAT_STREAM 0) = true) ∧
    Met ((cam0.set (NOS_CAM_CFG_VC 0) 0).set (NOS_CAM_CFG_DT 0) 0 |>.set (NOS_CAM_GEOM_LINES 0) 1) (fun c => c.live .app = true ∧ c.fuses.partN = false ∧ c.is (NOS_CAM_CFG_EN 0) = true ∧
      (packet 0x2B 0 2).ecc = 2 ∧ (packet 0x2A 0 0).ecc = 0 ∧ (packet 0x2A 0 0).dt ≠ 0x2B ∧ (packet 0x2A 0 0).dt ≠ 0x2C ∧ (packet 0x2A 0 0).dt ≠ 0x1E ∧
      (packet 0x2B 3 0).dt = 0x2B ∧ (packet 0x2B 3 0).vc.val ≠ c.get (NOS_CAM_CFG_VC 0) ∧ (packet 0x2B 0 0).vc.val = c.get (NOS_CAM_CFG_VC 0) ∧
      c.get (NOS_CAM_CFG_DT 0) = 0 ∧ (c.camSt 0).lines < c.get (NOS_CAM_GEOM_LINES 0)) ∧
    Met ((cam0.put (NOS_CAM_CFG_FE_EN 0) false).set (NOS_CAM_GEOM_LINES 0) 0) (fun c => c.live .app = true ∧ c.fuses.partN = false ∧ c.is (NOS_CAM_CFG_EN 0) = true ∧
      c.is (NOS_CAM_CFG_FE_EN 0) = false ∧ c.get (NOS_CAM_GEOM_LINES 0) ≤ (c.camSt 0).lines) ∧
    Met { cam0 with now := 100000000 } (fun c => c.live .app = true ∧ c.is (NOS_CAM_STAT_STREAM 0) = true ∧ 100000000 ≤ c.now - (c.camSt 0).fsAt) ∧
    Met { cam0 with now := 99999999 } (fun c => c.live .app = true ∧ c.now - (c.camSt 0).fsAt < 100000000) := by decide +kernel

theorem test_meets_engineEnable :
    Met { run0 with fuses := { partN := true } } (fun c => c.live .app = true ∧ c.fuses.partN = true) ∧
    Met run0 (fun c => c.live .app = true ∧ c.fuses.partN = false ∧ c.is NOS_CTRL_ENABLE = false ∧
      ((((c.put NOS_CTRL_ENABLE true).put VMC_STAT_DDR_READY false).put VMC_DDR_STAT_TRAINED false).put VMC_DDR_STAT_TRAIN_FAIL false).get
        NOS_CTRL_TEN_EN = 0) ∧
    Met (run0.put NOS_CTRL_ENABLE true) (fun c => c.live .app = true ∧ c.is NOS_CTRL_ENABLE = true ∧ c.is VMC_STAT_DDR_READY = false) := by decide +kernel

/-- An ACT descriptor: its operands are one byte at 0 and one at 32 of the window, and it is the job's last. -/
def actDesc (grid : Bool) : List Byte :=
  [5 + 16 + cond grid 32 0, 0, 0, 0, 0, 0, 0, 0] ++ [0, 0, 0, 0, 1, 0, 1, 0, 1, 0, 0, 0] ++ [0, 0, 0, 0, 1, 0, 1, 0, 1, 0, 0, 0] ++
    [32, 0, 0, 0, 1, 0, 1, 0, 1, 0, 0, 0] ++ List.replicate 20 0

/-- A job of tenant 0 that runs on cluster 0. -/
def job0 (ended : Bool) : JobRun :=
  { ten := 0, idx := 0, cam := 0, l := 0, fidx := 0, seq := 0, startAt := 0, lineAt := 0, pend := false, began := true, cluster := some 0, done := 0,
    layerAt := 0, ended := ended, rows := [], bad := false }

/-- Tenant 0 with one job of one descriptor, and that job on cluster 0. -/
def onCluster (d : List Byte) (ended : Bool) (size : Nat) : Chip :=
  ({ run0 with nos := { tens := [{ descs := d, jobs := [{ cam := 0, dep := 0xFF, first := 0, count := 1, span := 0, wcet := 0 }] }, {}, {}, {}],
                        runs := [job0 ended] } } : Chip).set (NOS_TEN_SIZE_SIZE 0) size

/-- What `LayerCommands` asks of a layer within its window. -/
def layerRuns (d : List Byte) (c : Chip) : Bool :=
  decide (c.live .app = true ∧ c.runOn 0 = some (job0 false) ∧ (job0 false).ended = false ∧ descAt (c.tenant 0).descs ((c.jobOf (job0 false)).first + 0) = d ∧
    d.length = 64 ∧ leAt d 0 1 % 16 = 5 ∧ opdIn (opdOf d 0) (c.get (NOS_TEN_SIZE_SIZE 0)) = true ∧ usesIn1 5 = false ∧
    (bitAt (leAt d 0 1) 5 = true ∨ opdIn (opdOf d 2) (c.get (NOS_TEN_SIZE_SIZE 0)) = true) ∧
    (tablesOf d 5 (opdOf d 2)).any (fun x => decide (c.get (NOS_TEN_SIZE_SIZE 0) < x.1 + x.2)) = false ∧
    c.linesRead (job0 false) d 5 (opdOf d 0) (opdOf d 1) = [])

theorem test_meets_layerCommands :
    Met run0 (fun c => c.live .app = true ∧ c.runOn 0 = none) ∧
    Met (onCluster (actDesc false) false 1048576) (layerRuns (actDesc false)) ∧ Met (onCluster (actDesc true) false 1048576) (layerRuns (actDesc true)) ∧
    Met (onCluster (actDesc false) false 1048576) (fun c => c.live .app = true ∧ c.runOn 0 = some (job0 false) ∧
      leAt (actDesc false) 0 1 % 16 ≠ 0) ∧
    Met (onCluster (actDesc false) false 0) (fun c => c.live .app = true ∧ c.runOn 0 = some (job0 false) ∧
      leAt (actDesc false) 0 1 % 16 = 5 ∧ opdIn (opdOf (actDesc false) 0) (c.get (NOS_TEN_SIZE_SIZE 0)) = false) := by decide +kernel

/-- A job that waits for a cluster, and one of tenant 1 that has ended with a grid row. -/
def waitingJob : JobRun := { job0 false with began := false, cluster := none }
def gridJob : JobRun := { job0 true with ten := 1, rows := [(0, List.replicate 32 0)] }

theorem test_meets_clusterJobs :
    Met run0 (fun c => c.live .app = true ∧ c.nos.runs = [] ∧ c.runOn 0 = none) ∧
    Met ((({ run0 with nos := { runs := [waitingJob] } } : Chip).put (NOS_TEN_STAT_RUNNING 0) true).putBit (NOS_TEN_CFG_CLU_MASK 0) 0 true) (fun c =>
      c.live .app = true ∧ c.nos.runs = [waitingJob] ∧ waitingJob.pend = false ∧ waitingJob.ended = false ∧ waitingJob.began = false ∧
        waitingJob.cluster = none ∧ c.mayUse 0 0 = true ∧ c.depState waitingJob = none) ∧
    Met (onCluster [] true 0) (fun c => c.live .app = true ∧ c.runOn 0 = some (job0 true) ∧ (job0 true).ended = true ∧ (job0 true).rows = []) ∧
    Met { run0 with nos := { runs := [gridJob] } } (fun c => c.live .app = true ∧ (c.jobEnd 0).2.isSome = true) ∧
    Met { late 0 with nos := { runs := [job0 false] } } (fun c => c.live .app = true ∧ c.runOn 0 = some (job0 false) ∧
      (c.jobOf (job0 false)).wcet * 1000 ≤ c.now - (job0 false).startAt) := by decide +kernel

/-- 1 GiB of LPDDR4X; tenant 0 has the window 0 to 1 MiB; partition 4 owns slice 0. -/
def memory : Chip :=
  (((run0.set VMC_DDR_CFG_DENSITY 1).set (NOS_TEN_SIZE_SIZE 0) 1048576).set (VMC_PART_CFG_SLICES 4) 1).put (VMC_PART_CFG_MODE 4) false

/-- A line of partition 4 at 1 MiB that holds its data, and a miss at it. -/
def line4 (st : Nat) : L2Line := { part := 4, slice := 0, set := 0, way := 0, base := 1048576, churn := false, st := [st, st, st, st], mask := 0, data := List.replicate 128 0 }
def miss4 : Mshr := { slice := 0, base := 1048576, at_ := 0, fill := 15, second := 0, reqs := [{ agent := 4, off := 1048576, len := 32, wr := none }], drop := false }
def filled (c : Chip) : Chip :=
  (c.setL2 miss4.base (fun x =>
    if x.churn then { x with st := [2], data := c.rdBytes (ddrAddr x.base) 2048 }
    else { x with
      data := [0, 1, 2, 3].foldl (fun d i => if bitAt miss4.fill i then patch d (32 * i) (c.rdBytes (ddrAddr (x.base + 32 * i)) 32) else d) x.data
      st := (List.range 4).map (fun i => if bitAt miss4.fill i ∧ (x.st[i]?).getD 0 = 3 then 1 else (x.st[i]?).getD 0) })).pmc 6 4
    (32 * ((List.range 4).filter (fun i => bitAt miss4.fill i)).length)

theorem test_meets_visionL2 :
    Met memory (fun c => c.live .app = true ∧ c.ddrSize < 1073741824 + max 1 0 ∧ 1048575 + max 1 1 ≤ c.ddrSize ∧ c.partOf 1048575 < 4 ∧
      c.sharedAt 1048575 4 = false ∧ c.is (NOS_TEN_STAT_RUNNING (c.partOf 1048575)) = false ∧ c.vmc.mshr = []) ∧
    Met { memory with vmc := { l2 := [line4 1] } } (fun c => c.live .app = true ∧ 1048576 + max 1 32 ≤ c.ddrSize ∧ c.partOf 1048576 = 4 ∧
      (c.pmc 0 4 1).slices 4 ≠ [] ∧ (c.pmc 0 4 1).l2Line 1048576 = some (line4 1) ∧ (sectorsOf 1048576 32).all (fun o => (line4 1).holds o) = true) ∧
    Met { memory with vmc := { l2 := [line4 3], mshr := [miss4] } } (fun c => c.live .app = true ∧ c.vmc.mshr = [miss4] ∧ 4 = c.partOf miss4.base ∧
      miss4.base ≤ 1048576 ∧ 1048576 < miss4.base + c.lineSize 4 ∧ c.is (VMC_PART_CFG_MODE 4) = false ∧ miss4.second = 0 ∧ miss4.drop = false ∧
      (match (filled c).l2Line 1048576 with | some x => (sectorsOf 1048576 32).all (fun o => x.holds o) | none => false) = true ∧
      ((filled c).deliver { agent := 4, off := 1048576, len := 32, wr := none }).vmc.replay = [] ∧
      ((filled c).deliver { agent := 4, off := 1048576, len := 32, wr := none }).vmc.held = []) := by decide +kernel

/-- A directory entry of line 0. -/
def ent (st sharers trans acks : Nat) (reqs : List DirReq) : DirEnt :=
  { base := 0, st := st, sharers := sharers, trans := trans, acks := acks, reqs := reqs, since := 0 }
def homeOf (e : DirEnt) (ns : Nat) : Chip := { late ns with vmc := { dir := [e] } }

theorem test_meets_coherence :
    Met run0 (fun c => c.live .app = true ∧ c.sharedAt 0 4 = false ∧ (c.dirAt 0).st ≠ 2 ∧ (c.dirAt 0).trans ≠ 2 ∧ (c.dirAt 0).trans ≠ 1 ∧
      c.now - (c.dirAt 0).since < 10000) ∧
    Met ((run0.put (VMC_SHR_CFG_EN 3) true).set (VMC_SHR_SIZE_SIZE 3) 65536) (fun c => c.live .app = true ∧ c.sharedAt 0 4 = true ∧ 0 < 1 ∧ 32 ≤ 32) ∧
    Met (homeOf (ent 2 16 0 0 []) 0) (fun c => c.live .app = true ∧ (c.dirAt 0).st = 2 ∧ (c.dirAt 0).trans = 0) ∧
    Met (homeOf (ent 2 16 2 0 [⟨0, 1, 0, []⟩]) 0) (fun c => c.live .app = true ∧ (c.dirAt 0).trans = 2 ∧ (c.dirAt 0).reqs = [⟨0, 1, 0, []⟩]) ∧
    Met (homeOf (ent 2 16 2 0 [⟨1, 1, 0, [0]⟩]) 0) (fun c => c.live .app = true ∧ (c.dirAt 0).trans = 2 ∧ (c.dirAt 0).reqs = [⟨1, 1, 0, [0]⟩] ∧ (1 : Nat) ≠ 0) ∧
    Met (homeOf (ent 1 3 1 3 []) 0) (fun c => c.live .app = true ∧ (c.dirAt 0).trans = 1 ∧ (0 : Fin 5).val ≠ 4 ∧ setBit (c.dirAt 0).acks 0 false ≠ 0) ∧
    Met (homeOf (ent 1 3 1 2 []) 0) (fun c => c.live .app = true ∧ (c.dirAt 0).trans = 1 ∧ setBit (c.dirAt 0).acks 1 false = 0 ∧
      (c.dirAt 0).sharers / 16 % 2 = 0) ∧
    Met (homeOf (ent 1 16 1 16 []) 10000) (fun c => c.live .app = true ∧ (c.dirAt 0).trans ≠ 0 ∧ bitAt (c.dirAt 0).acks 4 = true ∧
      10000 ≤ c.now - (c.dirAt 0).since) := by decide +kernel

theorem test_meets_partitions :
    Met (run0.set NOS_CTRL_TEN_EN 1) (fun c => c.live .app = true ∧ c.partIdle 0 = false) ∧
    Met run0 (fun c => c.live .app = true ∧ c.partIdle 0 = true ∧ c.partIdle 4 = true ∧ bitAt (0xFF : Word).toNat 8 = false ∧
      bitAt (0x100 : Word).toNat 8 = true) := by decide +kernel

/-! ### Witnesses: CAN, Ethernet, time, vehicle messages -/

/-- Controller 0 takes part in the traffic of its bus. -/
def bus0 : Chip := ((run0.put (CAN_CTRL_EN 0) true).put (CAN_STAT_INIT_ACK 0) false).setCc 0 (fun x => { x with synced := true })

/-- A classic frame, and an error of a receiver. -/
def frame0 : CanFrame := { xtd := false, rtr := false, esi := false, fdf := false, brs := false, id := 5, dlc := 0, data := [], sof := 0 }
def err0 : CanErr := { code := 1, data := false, tx := false, domAfterFlag := false, ackPassive := false, stuffArb := false, inFlag := false, extra := 0 }
/-- The error of a transmitter that makes a TEC of 248 to 255 the bus-off. -/
def errTx : CanErr := { err0 with tx := true }

theorem test_meets_canFrames :
    Met run0 (fun c => c.live .app = true ∧ c.canOnBus 2 = false ∧ (c.cc 2).sel = none) ∧
    Met (bus0.setCc 0 (fun x => { x with rec_ := 127 })) (fun c => c.live .app = true ∧ c.canOnBus 0 = true ∧ frame0.fdf = false ∧ (c.cc 0).mode ≠ 1 ∧
      0 < (c.cc 0).rec_ ∧ (c.cc 0).rec_ ≤ 127) ∧
    Met ((bus0.putBit (CAN_TX_PEND_BITS 0) 3 true).setCc 0 (fun x => { x with sel := some 3, tec := 1 })) (fun c =>
      let k := (((((c.putBit (CAN_TX_PEND_BITS 0) 3 false).putBit (CAN_TX_SENT_BITS 0) 3 true).canIr 0 0).incWrap (CAN_CNT_TX_N 0)).txEvent 0 3 1 0).setCc 0
        (fun x => { x with cancel := setBit x.cancel 3 false, tec := x.tec - 1 })
      c.live .app = true ∧ (c.cc 0).sel = some 3 ∧ c.canOnBus 0 = true ∧ c.bit (CAN_TX_PEND_BITS 0) 3 = true ∧
        (((k.put (CAN_STAT_BUSY 0) false).canShow 0).cc 0).mode ≠ 2) := by decide +kernel

theorem test_meets_canErrors :
    Met bus0 (fun c => c.live .app = true ∧ (c.canError 0 err0).is (CAN_STAT_BO 0) = false ∧ c.is (CAN_STAT_BO 0) = false) ∧
    Met (bus0.setCc 0 (fun x => { x with tec := 248 })) (fun c => c.live .app = true ∧ (c.canError 0 errTx).is (CAN_STAT_BO 0) = true ∧
      c.is (CAN_STAT_BO 0) = false) ∧
    Met (bus0.put (CAN_STAT_BO 0) true) (fun c => c.live .app = true ∧ c.is (CAN_STAT_BO 0) = true) ∧
    Met (bus0.setCc 0 (fun x => { x with sel := some 31 })) (fun c => c.live .app = true ∧ (c.cc 0).sel = some 31 ∧ c.canOnBus 0 = true ∧
      bitAt (c.cc 0).cancel 31 = false) ∧
    Met (bus0.setCc 0 (fun x => { x with sel := some 0, cancel := 1 })) (fun c => c.live .app = true ∧ (c.cc 0).sel = some 0 ∧ c.canOnBus 0 = true ∧
      bitAt (c.cc 0).cancel 0 = true) ∧
    Met bus0 (fun c => c.live .app = true ∧ (c.cc 0).sel = none ∧ c.is (CAN_CTRL_EN 0) = true ∧ c.is (CAN_STAT_INIT_ACK 0) = false) := by decide +kernel

theorem test_meets_canModes :
    Met ((run0.put (CAN_CTRL_INIT 0) true).put (CAN_STAT_INIT_ACK 0) true) (fun c => c.live .app = true ∧ c.is (CAN_CTRL_INIT 0) = true ∧
      c.is (CAN_STAT_INIT_ACK 0) = true) ∧
    Met bus0 (fun c => c.live .app = true ∧ (c.put (CAN_CTRL_INIT 0) false).is (CAN_CTRL_INIT 0) = false ∧ c.is (CAN_STAT_INIT_ACK 0) = false ∧
      c.now / 1000 / 2 ^ 32 ≤ (c.cc 0).wraps) ∧
    Met ((run0.put (CAN_STAT_INIT_ACK 0) true).set (CAN_BTN_NBRP 0) 15) (fun c => c.live .app = true ∧ c.is (CAN_STAT_INIT_ACK 0) = true ∧ c.canInitOk 0 = true) ∧
    Met ((run0.put (CAN_STAT_INIT_ACK 0) true).set (CAN_BTN_NTSEG1 0) 0) (fun c => c.live .app = true ∧ c.is (CAN_STAT_INIT_ACK 0) = true ∧
      c.canInitOk 0 = false) ∧
    Met (run0.put (CAN_CTRL_INIT 0) false) (fun c => c.live .app = true ∧ c.is (CAN_CTRL_INIT 0) = false) ∧
    Met (late 4294967296000) (fun c => c.live .app = true ∧ (c.cc 0).wraps < c.now / 1000 / 2 ^ 32) := by decide +kernel

theorem test_meets_canBuffers :
    Met (bus0.setCc 0 (fun x => { x with sel := some 0 })) (fun c => c.live .app = true ∧ (c.cc 0).sel ≠ none ∧
      ((c.forBits (0 : Word).toNat (fun c b => c.txRequest 0 b) (c.get (CAN_MRCFG1_NTX 0))).cc 0).sel ≠ none) ∧
    Met ((bus0.set (CAN_RXF_STAT_FILL 0 1) 1).set (CAN_TEV_STAT_FILL 0) 1) (fun c => c.live .app = true ∧ bitsOf (0 : Word).toNat 0 6 = 0 ∧
      (c.set (CAN_RXF_REL_WM 0 1) (bitsOf (2 : Word).toNat 8 6)).get (CAN_RXF_STAT_FILL 0 1) < bitsOf (2 : Word).toNat 0 6 ∧
      0 < bitsOf (1 : Word).toNat 0 6 ∧ bitsOf (1 : Word).toNat 0 6 ≤ (c.set (CAN_RXF_REL_WM 0 1) (bitsOf (1 : Word).toNat 8 6)).get (CAN_RXF_STAT_FILL 0 1) ∧
      bitsOf (1 : Word).toNat 0 6 ≤ (c.set (CAN_TEV_REL_WM 0) (bitsOf (1 : Word).toNat 8 6)).get (CAN_TEV_STAT_FILL 0)) ∧
    Met ((bus0.set (CAN_MRCFG1_NBUF 0) 1).putBit (CAN_RXB_LOCK_BITS 0) 0 true) (fun c => c.live .app = true ∧ 0 < c.get (CAN_MRCFG1_NBUF 0) ∧
      c.bit (CAN_RXB_LOCK_BITS 0) 0 = true ∧ bitAt (c.cc 0).shadow 0 = false ∧ c.bit (CAN_RXB_LOCK_BITS 0) 31 = false) := by decide +kernel

/-- Both Ethernet ports up, an address of the host. -/
def ports : Chip :=
  ((((((run0.put ETH_CFG_EN true).put (ETH_PORT_STAT_LINK 0) true).put (ETH_PORT_STAT_LINK 1) true).set ETH_CFG_IF0 1).set ETH_CFG_IF1 1).set ETH_IP_ADDR
    0x0A000001).put ETH_CFG_SW_EN true

/-- A frame of 60 bytes of a type, from 02-00-00-00-00-01 to 02-00-00-00-00-02. -/
def frameOf (ty : List Byte) : List Byte := [2, 0, 0, 0, 0, 2, 2, 0, 0, 0, 0, 1] ++ ty ++ List.replicate 46 0

theorem test_meets_ethernet :
    Met run0 (fun c => c.live .app = true ∧ c.portUp 0 = false ∧ c.portUp 1 = false ∧ c.is (ETH_PORT_STAT_LINK 1) = false) ∧
    Met ports (fun c => c.live .app = true ∧ c.portUp 0 = true ∧ 59 < 60 ∧ 1518 < 1519 ∧ 60 ≤ (frameOf [0x88, 8]).length ∧ (frameOf [0x88, 8]).length ≤ 1518 ∧
      beAt (frameOf [0x88, 8]) 12 2 = 0x8808) ∧
    Met ports (fun c =>
      let k := (c.incWrap (ETH_PORT_CNT0_RX 0)).learnSource (beAt (frameOf [8, 0]) 6 6) 0
      c.live .app = true ∧ c.portUp 0 = true ∧ beAt (frameOf [8, 0]) 12 2 ≠ 0x8808 ∧ k.forwardTo 0 (beAt (frameOf [8, 0]) 0 6) = (true, false) ∧
        k.portUp (1 - (0 : Fin 2).val) = true) ∧
    Met ((ports.set TSYN_CFG_GPTP_PORT 0)) (fun c => c.live .app = true ∧ c.is (ETH_PORT_STAT_LINK 1) = true ∧ (c.gptpPort == (1 : Fin 2).val) = false) := by
  decide +kernel

/-- A datagram of the host's header with `kind` and no body. -/
def datagram (kind : Byte) : List Byte := [0x43, 0x56, 1, kind, 0, 0, 0, 0]

theorem test_meets_hostProtocols :
    Met ports (fun c => c.live .app = true ∧ c.portUp 0 = true ∧ c.ownIp 0x0A000001 = true ∧ c.ownIp 0x0A000002 = false ∧ c.hostUp = true ∧
      leAt [0, 0, 1, 0, 0, 0, 0, 0] 0 2 ≠ 0x5643 ∧ 8 ≤ (datagram 7).length ∧ leAt (datagram 7) 0 2 = 0x5643 ∧ leAt (datagram 7) 2 1 = 1 ∧
      leAt (datagram 7) 6 2 + 8 = (datagram 7).length ∧ leAt (datagram 0) 3 1 = 0 ∧ leAt (datagram 4) 3 1 = 4 ∧ leAt (datagram 7) 3 1 = 7 ∧
      c.sessOpen 2 = false ∧ c.sessOpen 5 = false ∧ c.bit SYS_FRST_STAT_BUSY 9 = false) ∧
    Met (ports.set CON_SESS_STAT_OPEN 0x3F) (fun c => c.live .app = true ∧ [2, 3, 4, 5].all (fun k => c.sessOpen k) = true) ∧
    Met (({ ports with now := 10000000000000 } : Chip).set CON_SESS_STAT_OPEN 0x3F) (fun c => c.live .app = true ∧ c.sess[(3 : Fin 4).val + 2]? = some ({} : Sess) ∧
      c.sessOpen (3 + 2) = true ∧ c.get CON_CFG_CON_IDLE * 1000000000 ≤ c.now - ({} : Sess).lastLine) ∧
    Met (ports.set CON_CFG_CON_IDLE 1) (fun c => c.live .app = true ∧ c.sess[(0 : Fin 4).val + 2]? = some ({} : Sess) ∧
      c.now - ({} : Sess).lastLine < c.get CON_CFG_CON_IDLE * 1000000000) := by decide +kernel

/-- gPTP on port 0. -/
def gptp0 : Chip := (ports.put TSYN_CFG_GPTP_EN true).set TSYN_CFG_GPTP_PORT 0

theorem test_meets_gptp :
    Met gptp0 (fun c => c.live .app = true ∧ 255 ≠ c.get TSYN_GPTP_DOMAIN ∧ c.gptpOn 0 = true ∧ c.tsyn.gptp.meas = [] ∧ c.gptpOn 1 = false ∧ c.tsyn.gm = none ∧
      c.gptpOn c.gptpPort = true ∧ c.tsyn.reqAt = none ∧ c.tsyn.lost ≤ 9) ∧
    Met { gptp0 with tsyn := { lost := 9 } } (fun c => c.live .app = true ∧ c.gptpOn c.gptpPort = true ∧ c.tsyn.reqAt = none ∧ c.tsyn.lost ≤ 9) ∧
    Met run0 (fun c => c.live .app = true ∧ c.gptpOn c.gptpPort = false) ∧
    Met { gptp0 with tsyn := { reqAt := some 0 } } (fun c => c.live .app = true ∧ c.tsyn.reqAt = some 0 ∧ c.gptpOn 0 = true ∧ c.tsyn.lastResp = none ∧
      (((1000 - c.get TSYN_LAT_RX_LAT : Nat) : Int) - (0 : Nat) - (((500 : Nat) : Int) - (0 : Nat))) / 2 ≤ c.get TSYN_GPTP_PD_THRESH * 10) := by decide +kernel

theorem test_meets_references :
    Met { late 3 with tsyn := { gptp := { meas := [(0, 0)], interval := 1 } } } (fun c => c.live .app = true ∧ c.receiptLate = true) ∧
    Met run0 (fun c => c.live .app = true ∧ c.receiptLate = false ∧ c.tsyn.satSince = none ∧ c.tsyn.can.meas = []) ∧
    Met { late 2000000000 with tsyn := { gptp := { okSince := some 0 } } } (fun c => c.live .app = true ∧ c.refReady 3 = true ∧
      (c.put TSYN_STAT_Q_GPTP true).refReady 2 = false) ∧
    Met { late 2000000000 with tsyn := { can := { okSince := some 0 } } } (fun c => c.live .app = true ∧ c.refReady 3 = false ∧ c.refReady 2 = true) ∧
    Met { late 10000000000 with tsyn := { satSince := some 0 } } (fun c => c.live .app = true ∧ c.tsyn.satSince = some 0 ∧ 10000000000 ≤ c.now - 0 ∧
      c.inForce 0x0D06 = false) ∧
    Met { late 5000000000 with tsyn := { suspend := some 0 } } (fun c => c.live .app = true ∧ c.tsyn.suspend = some 0 ∧ 5000000000 ≤ c.now - 0 ∧
      c.bit SYS_FRST_STAT_BUSY 8 = false) ∧
    Met { late 4999999999 with tsyn := { suspend := some 0 } } (fun c => c.live .app = true ∧ c.tsyn.suspend = some 0 ∧ c.now - 0 < 5000000000) ∧
    Met { late 100000000000 with tsyn := { can := { meas := [(0, 0)] } } } (fun c => c.live .app = true ∧ c.tsyn.can.meas = (0, 0) :: [] ∧
      3 * c.get VM_VT_PERIOD_VALUE * 1000000 < c.now - (0, 0).1) := by decide +kernel

/-- An active chip that hears controller 0. -/
def active : Chip := bus0.set PAIR_STAT_ROLE 1

theorem test_meets_vehicleMessages :
    Met run0 (fun c => c.live .app = true ∧ c.isActive = false ∧ c.pathUp (.can 0) = false) ∧
    Met active (fun c => c.live .app = true ∧ 30 ≠ c.get VM_DOOR_ADDR_VALUE ∧ 30 ≠ 31) ∧
    Met (active.set VM_CAN_MASK_VALUE 1) (fun c => c.live .app = true ∧ c.get VM_DOOR_ADDR_VALUE ≠ 31 ∧ c.isActive = true ∧ c.pathUp (.can 0) = true ∧ doorCmdOk [] = false ∧
      doorCmdOk [1, 0, 1, 1, 0, 0, 0, 0] = true ∧ c.allowed (.can 0) = true ∧ c.pathInSet (.can 0) = true ∧
      (c.queueOf (c.vehicleSource (.can 0)) 128).isSome = true ∧ doorOpOf (leAt [1, 0, 1, 1, 0, 0, 0, 0] 2 1) = some .doorOpen) ∧
    Met (ports.set PAIR_STAT_ROLE 1) (fun c => c.live .app = true ∧ c.isActive = true ∧ c.pathUp (.udp 7 7) = true ∧ c.allowed (.udp 7 7) = false) := by
  decide +kernel

theorem test_meets_vehicleStatus :
    Met run0 (fun c => c.live .app = true ∧ c.isActive = false) ∧
    Met { active with tbVeh := 40000000 } (fun c => c.live .app = true ∧ c.isActive = true ∧ c.get VM_DOOR_ADDR_VALUE * 500000 ≤ c.tbVeh ∧
      c.msg.dsK ≠ some ((c.tbVeh - c.get VM_DOOR_ADDR_VALUE * 500000) / 20000000) ∧ c.interlockBytes ≠ c.msg.ilk) ∧
    Met { active with msg := { dsK := some 0 } } (fun c => c.live .app = true ∧ c.msg.dsK = some ((c.tbVeh - c.get VM_DOOR_ADDR_VALUE * 500000) / 20000000)) ∧
    Met { active with msg := { ilk := active.interlockBytes, ilkAt := some 0 }, now := 99999999 } (fun c => c.live .app = true ∧ c.interlockBytes = c.msg.ilk ∧
      c.msg.ilkAt = some 0 ∧ c.now - 0 < 100000000) := by decide +kernel

/-- The export session of controller 0, record 0 sent and not acknowledged. -/
def session0 : ExpSess :=
  { path := .can 0, win := 1, una := 0, next := 1, high := some 0, lastAckn := 0, lastAdv := 0, lastSent := some 0, endSent := false }
def exporting : Chip := ((({ active with msg := { exp := some session0 }, now := 100000000000 } : Chip).set VM_CAN_MASK_VALUE 1).put (CAN_CTRL_FD_EN 0) true)

theorem test_meets_ledgerExport :
    Met run0 (fun c => c.live .app = true ∧ c.exportHears (.can 0) 0 = false ∧ c.msg.exp = none) ∧
    Met exporting (fun c => c.live .app = true ∧ c.exportHears (.can 0) (c.get VM_DOOR_ADDR_VALUE) = true ∧ c.exportRefusal (.can 0) 1 [] = some 4) ∧
    Met { exporting with msg := {} } (fun c => c.live .app = true ∧ c.exportHears (.can 0) (c.get VM_DOOR_ADDR_VALUE) = true ∧
      c.exportRefusal (.can 0) 1 [0, 0, 1, 1, 0, 0, 0, 0, 0, 0, 0, 0] = none ∧ c.msg.exp = none) ∧
    Met exporting (fun c => c.live .app = true ∧ c.exportHears (.can 0) (c.get VM_DOOR_ADDR_VALUE) = true ∧ exportReqOk 2 [0, 0, 2, 0, 0, 0, 0, 0, 0, 0, 0, 0] = true ∧
      c.allowed (.can 0) = true ∧ c.msg.exp = some session0 ∧ session0.path = .can 0 ∧ session0.una ≤ 0 ∧ session0.high = some 0 ∧
      c.exportRefusal (.can 0) 3 [0, 0, 3, 0, 0, 0, 0, 0, 0, 0, 0, 0] = none) ∧
    Met exporting (fun c => c.live .app = true ∧ c.msg.exp = some session0 ∧ c.isActive = true ∧ c.pathUp session0.path = true ∧ c.ledg.ring = [] ∧
      session0.endSent = false ∧ session0.una < session0.next ∧ c.get VM_EXP_RTO_VALUE * 1000000 ≤ c.now - session0.lastAdv) := by decide +kernel

/-- SPEED_IN with VALID and ALIVE 9. -/
def speed9 : List Byte := [0, 0, 0, 0, 1, 9, 0, 0]

theorem test_meets_vehicleSpeed :
    Met run0 (fun c => c.live .app = true ∧ c.isActive = false ∧ 0x800 ≠ c.get VM_TIME_ID_VALUE) ∧
    Met (active.set VM_SPEED_SRC_VALUE 0) (fun c => c.live .app = true ∧ c.isActive = true ∧ c.pathUp (.can 0) = true ∧ c.isSpeedPath (.can 0) = true ∧
      speed9.length = 8 ∧ leAt speed9 4 1 % 2 = 1 ∧ c.msg.spAlive ≠ some (leAt speed9 5 1)) ∧
    Met (({ active with msg := { spAlive := some 9 } } : Chip).set VM_SPEED_SRC_VALUE 0) (fun c => c.live .app = true ∧ c.isActive = true ∧
      c.pathUp (.can 0) = true ∧ c.isSpeedPath (.can 0) = true ∧ speed9.length = 8 ∧ c.msg.spAlive = some (leAt speed9 5 1)) ∧
    Met ((active.put TSYN_CFG_CAN_EN true).set TSYN_CFG_CAN_CTRL 0) (fun c => c.live .app = true ∧ c.isActive = true ∧ c.pathUp (.can 0) = true ∧
      c.is TSYN_CFG_CAN_EN = true ∧ c.get TSYN_CFG_CAN_CTRL = (0 : Fin 3).val ∧ speed9.length = 8 ∧ c.tsyn.can.meas = []) := by decide +kernel

/-! ### Witnesses: the pair, acceptance, faults -/

/-- A standby of a pair whose link is up, and the active of such a pair. -/
def standby : Chip := ((run0.put PAIR_CFG_EN true).set PAIR_STAT_ROLE 2).put PAIR_STAT_LINK true
def activeP : Chip := standby.set PAIR_STAT_ROLE 1

/-- A good frame's header. -/
def hdr0 : PairHdr := { lane := 0, crcOk := true, holds := false, side := true, epoch := 1, tb := 0 }
def info0 : HelloInfo := { candidate := false, meets := false, commit := 0, serial := 0, seq := 0, proto := 0, protoMin := 0, echo := none }

/-- The chip that `pairFrame` gives, where it takes the frame. -/
def framed (c : Chip) (P : Chip → Bool) : Bool := (c.pairFrame hdr0).2 && P (c.pairFrame hdr0).1

/-- SAFE and APP from NOR, self-test and admission passed, the clocks good. -/
def fit : Chip :=
  (((({ run0 with sys := { started := true, fromNor := true, selfTest := true, admOk := true }, vote := { admitted := true } } : Chip).set
    SYS_STRAP_CLKMODE 0).put SYS_CLK_STAT_REF_OK true).put SYS_CLK_STAT_SAFE_CLK_OK true)

/-- A standby whose own health is 0. -/
def fitStandby : Chip :=
  ((((fit.put PAIR_CFG_EN true).set PAIR_STAT_ROLE 2).put PAIR_STAT_LINK true).put PAIR_STAT_MIRROR_STALE false).set VOTE_STAT_MODE 0

theorem test_meets_pairFrames :
    Met (run0.put PAIR_CFG_EN false) (fun c => c.live .app = true ∧ (c.pairFrame hdr0).2 = false) ∧
    Met (activeP.put PAIR_STAT_HELD true) (fun c => c.live .app = true ∧ framed c (fun k => k.is PAIR_STAT_HELD) = true) ∧
    Met standby (fun c => c.live .app = true ∧ framed c (fun k => !k.is PAIR_STAT_HELD && k.isStandby &&
      serialNewer 32 hdr0.epoch (k.get PAIR_PEER_EPOCH_EPOCH)) = true) ∧
    Met activeP (fun c => c.live .app = true ∧ framed c (fun k => k.isActive) = true) ∧
    Met fitStandby (fun c => c.live .app = true ∧ framed c (fun k => k.isStandby && k.healthShow.get PAIR_STAT_OWN_HEALTH == 0) = true) ∧
    Met ((activeP.put PAIR_HO_STAT_BUSY true).set PAIR_STAT_PEER_HEALTH 0) (fun c => c.live .app = true ∧
      framed c (fun k => k.is PAIR_HO_STAT_BUSY && k.get PAIR_STAT_PEER_HEALTH == 0) = true) ∧
    Met ((activeP.put PAIR_HO_STAT_BUSY true).set PAIR_STAT_PEER_HEALTH 1) (fun c => c.live .app = true ∧
      framed c (fun k => k.is PAIR_HO_STAT_BUSY && k.get PAIR_STAT_PEER_HEALTH != 0) = true) ∧
    Met (standby.set PAIR_STAT_OWN_HEALTH 1) (fun c => c.live .app = true ∧ framed c (fun k => k.isStandby && k.get PAIR_STAT_OWN_HEALTH != 2) = true) := by
  decide +kernel

/-- The chip once it has kept a HELLO. -/
def greeted (c : Chip) : Chip :=
  let k := (c.pairFrame hdr0).1
  { k.pairOffset hdr0 info0 with pair := { (k.pairOffset hdr0 info0).pair with peer := some (info0, hdr0.side), helloRx := some (hdr0.tb, (k.pairOffset hdr0 info0).now) } }

theorem test_meets_pairHello :
    Met (standby.set PAIR_STAT_ROLE 0) (fun c => c.live .app = true ∧ (c.pairFrame hdr0).2 = true ∧ (greeted c).sameSide = false ∧ (greeted c).get PAIR_STAT_ROLE = 0) ∧
    Met standby (fun c => c.live .app = true ∧ (c.pairFrame hdr0).2 = true ∧ (greeted c).sameSide = false ∧ (greeted c).get PAIR_STAT_ROLE = 2) := by
  decide +kernel

theorem test_meets_lease :
    Met (({ late 100000 with pair := { okCycles := 2 } } : Chip).put PAIR_STAT_HELD true) (fun c => c.live .app = true ∧ c.is PAIR_STAT_HELD = true ∧
      100000 ≤ c.now - c.pair.renewTx ∧ 2 ≤ c.pair.okCycles ∧ c.flt.inForce.any (fun e => e.sev == 5) = false) ∧
    Met (({ late 300000 with pair := { okCycles := 1 } } : Chip).put PAIR_STAT_HELD true) (fun c => c.live .app = true ∧ c.is PAIR_STAT_HELD = true ∧
      100000 ≤ c.now - c.pair.renewTx ∧ c.pair.okCycles < 2 ∧ 300000 ≤ c.now - c.pair.renewTx) ∧
    Met run0 (fun c => c.live .app = true ∧ c.is PAIR_STAT_HELD = false ∧ c.leaseOver = false) ∧
    Met (({ standby with now := 400000, pair := { renewRx := some 0 } } : Chip).put PAIR_STAT_LEASE_IN true) (fun c => c.live .app = true ∧ c.leaseOver = true ∧
      c.is PAIR_STAT_SPLIT = false ∧ c.is PAIR_STAT_LEASE_IN = true) ∧
    Met ((({ standby with now := 400000, pair := { renewRx := some 0 } } : Chip).put PAIR_STAT_LEASE_IN false).set PAIR_STAT_OWN_HEALTH 1) (fun c =>
      c.live .app = true ∧ c.leaseOver = true ∧ c.is PAIR_STAT_SPLIT = false ∧ c.is PAIR_STAT_LEASE_IN = false ∧ c.get PAIR_STAT_OWN_HEALTH ≤ 1) ∧
    Met { late 1000000000 with pair := { claimAt := some 0 }, pins := { steerFb := true } } (fun c => c.live .app = true ∧ c.pair.claimAt = some 0 ∧
      c.get PAIR_CFG_T_STEER * 1000 ≤ c.now - 0 ∧ c.pins.steerFb = true) ∧
    Met { run0 with pair := { claimAt := some 0 } } (fun c => c.live .app = true ∧ c.pair.claimAt = some 0 ∧ c.now - 0 < c.get PAIR_CFG_T_STEER * 1000) := by
  decide +kernel

theorem test_meets_pairTimers :
    Met ({ standby with now := 200000 }) (fun c => c.live .app = true ∧ c.is PAIR_STAT_LINK = true ∧ 200000 ≤ c.now - c.pair.frameAt ∧
      ((((c.put PAIR_STAT_LINK false).set PAIR_STAT_PEER_HEALTH 3).raise 0x0301).pairNote).isActive = false) ∧
    Met run0 (fun c => c.live .app = true ∧ c.is PAIR_STAT_LINK = false ∧ c.get PAIR_STAT_ROLE ≠ 3 ∧ c.pair.electSince = none ∧ c.isStandby = false ∧
      c.hoRefusal ≠ 0 ∧ c.is PAIR_HO_STAT_BUSY = false ∧ c.is PAIR_STAT_SPLIT = false) ∧
    Met (run0.set PAIR_STAT_ROLE 3) (fun c => c.live .app = true ∧ c.get PAIR_STAT_ROLE = 3) ∧
    Met (({ fit with pair := { electSince := some 0 } } : Chip).put PAIR_CFG_EN false) (fun c => c.live .app = true ∧ c.pair.electSince = some 0 ∧
      c.get PAIR_STAT_ROLE = 0 ∧ c.paired = false ∧ c.r74 = true) ∧
    Met ((({ run0 with pair := { electSince := some 0 } } : Chip).put PAIR_CFG_EN true).put PAIR_STAT_LEASE_IN true) (fun c => c.live .app = true ∧
      c.pair.electSince = some 0 ∧ c.get PAIR_STAT_ROLE = 0 ∧ c.paired = true ∧ c.is PAIR_STAT_LEASE_IN = true) ∧
    Met ((({ standby with now := 70000 } : Chip).put (CAN_CTRL_EN 2) true).put PAIR_STAT_LEASE_IN true) (fun c => c.live .app = true ∧ c.isStandby = true ∧
      c.is (CAN_CTRL_EN 2) = true ∧ c.is PAIR_STAT_LEASE_IN = true ∧ 70000 ≤ c.now - c.pair.mirAt) ∧
    Met ((((activeP.put PAIR_STAT_ALONE false).put WQM_STAT_RESYNC false).set PAIR_STAT_PEER_HEALTH 0)) (fun c => c.live .app = true ∧ c.hoRefusal = 0) ∧
    Met (({ activeP with now := 1000000, pair := { hoSince := some 0 } } : Chip).put PAIR_HO_STAT_BUSY true) (fun c => c.live .app = true ∧
      c.pair.hoSince = some 0 ∧ c.is PAIR_HO_STAT_BUSY = true ∧ 1000000 ≤ c.now - 0) ∧
    Met standby (fun c => c.live .app = true ∧ c.paired = true ∧ (c.pair.dropped[1]?).getD true = false) ∧
    Met (run0.put PAIR_CFG_EN false) (fun c => c.live .app = true ∧ c.paired = false) ∧
    Met (((({ standby with now := 1000000, pair := { renewRx := some 0 } } : Chip).put PAIR_STAT_SPLIT true).put PAIR_STAT_LEASE_IN false).set
      PAIR_STAT_OWN_HEALTH 0) (fun c => c.live .app = true ∧ c.leaseOver = true ∧ c.is PAIR_STAT_SPLIT = true ∧ c.is PAIR_STAT_LEASE_IN = false ∧
      1000000 ≤ c.now - c.pair.idleSince ∧ c.pair.triedAt = none ∧ c.get PAIR_STAT_OWN_HEALTH ≤ 1) := by decide +kernel

/-- An entry of queue 8 in slot 4095 that waits for its confirmation. -/
def entry0 : Entry :=
  { slot := 4095, queue := 8, source := 9, motion := false, unmirrored := false, heldAcc := false, dual := false, qseq := 1, key := 7, tAcc := 0, boot := 0,
    cmd := { op := .doorOpen, a := 0, b := 0, v := 0 }, cstate := 0, ecode := 0, tDone := 0, pcrc := 0, visible := false, stored := true, mirrored := false,
    doneMirrored := false, taken := false, tArr := 0, reply := .nobody }
/-- A ledger record, and a store that waits for the energy gate. -/
def rec0 : LRec := { type := 1, flags := 0, seq := 0, tb := 0, qual := 0, boot := 0, body := [] }
def store0 : Store := { kind := .pointer, since := 0, writes := [], arg := 8191 }

theorem test_meets_journalLedger :
    Met { activeP with now := 1800000, wqm := { entries := [entry0] } } (fun c => c.live .app = true ∧ c.entryAt 4095 = some entry0 ∧ entry0.stored = true ∧
      entry0.visible = false ∧ c.isActive = true ∧ 1800000 ≤ c.now - entry0.tArr) ∧
    Met run0 (fun c => c.live .app = true ∧ c.entryAt 0 = none ∧ c.is WQM_STAT_RESYNC = false ∧ c.ledg.queue = [] ∧ c.sup.waiting = [] ∧ c.cfg.repair = none ∧
      c.sys.frst = []) ∧
    Met (({ activeP with pair := { needSnap := false } } : Chip).put WQM_STAT_RESYNC true) (fun c => c.live .app = true ∧ c.isActive = true ∧
      c.is WQM_STAT_RESYNC = true ∧ c.is PAIR_STAT_LINK = true ∧ c.pair.needSnap = false) ∧
    Met { run0 with ledg := { queue := [rec0], cellDirty := true } } (fun c => c.live .app = true ∧ c.ledg.queue = [rec0] ∧ c.gateOpen .ledger = true ∧
      c.ledg.cellDirty = true ∧ c.ledg.cellAt = none ∧ c.gateOpen .stateCell = true) ∧
    Met (({ run0 with ledg := { queue := [rec0] } } : Chip).put SUP_STATUS_WARN true |>.set SUP_HOLDUP_CFG1_P_LOAD 1) (fun c => c.live .app = true ∧
      c.ledg.queue = [rec0] ∧ c.gateOpen .ledger = false) ∧
    Met { late 99999999 with ledg := { cellAt := some 0 } } (fun c => c.live .app = true ∧ c.ledg.cellAt = some 0 ∧ c.now - 0 < 100000000) ∧
    Met { run0 with sup := { waiting := [store0] } } (fun c => c.live .app = true ∧ c.sup.waiting = [store0] ∧ c.gateOpen store0.kind = true) := by decide +kernel

/-- A raise, a handling and a fault in force. -/
def raised (code sev : Nat) : Raise := { code := code, at_ := 0, sev := sev, esc := false, func := none, detail := 0 }
def handled (code sev : Nat) : Handling := { code := code, sev := sev, esc := false, func := none, since := 0, last := 0, count := 1, detail := 0 }
def inForce0 (sev since : Nat) : InForce :=
  { code := 0x0701, sev := sev, esc := false, count := 1, first := 0, last := 0, since := since, lastRec := 0, func := none, detail := 0, limited := false, again := false }
def faulty (f : Flt) : Chip := { run0 with flt := f }

theorem test_meets_faultTaken :
    Met run0 (fun c => c.live .app = true ∧ c.flt.inbox = []) ∧
    Met (faulty { inbox := [raised 0x0701 3], inForce := [inForce0 3 0] }) (fun c =>
      let k := ({ c with flt := { c.flt with inbox := c.flt.inbox.erase (raised 0x0701 3) } } : Chip).incWrap FLT_RAISED_N
      c.live .app = true ∧ c.nextRaise = some (raised 0x0701 3) ∧ k.fltKnown 0x0701 = true) ∧
    Met (faulty { inbox := [raised 0x0701 3] }) (fun c =>
      let k := ({ c with flt := { c.flt with inbox := c.flt.inbox.erase (raised 0x0701 3) } } : Chip).incWrap FLT_RAISED_N
      c.live .app = true ∧ c.nextRaise = some (raised 0x0701 3) ∧ k.fltKnown 0x0701 = false ∧ c.flt.cur = none) ∧
    Met (faulty { inbox := [raised 0x0701 3], cur := some (handled 0x0501 2) }) (fun c =>
      let k := ({ c with flt := { c.flt with inbox := c.flt.inbox.erase (raised 0x0701 3) } } : Chip).incWrap FLT_RAISED_N
      c.live .app = true ∧ c.nextRaise = some (raised 0x0701 3) ∧ k.fltKnown 0x0701 = false ∧ c.flt.cur = some (handled 0x0501 2) ∧ 2 < 3) ∧
    Met (faulty { inbox := [raised 0x0701 3], cur := some (handled 0x0501 3), fifo := List.replicate 15 (handled 0x0502 2) }) (fun c =>
      let k := ({ c with flt := { c.flt with inbox := c.flt.inbox.erase (raised 0x0701 3) } } : Chip).incWrap FLT_RAISED_N
      c.live .app = true ∧ c.nextRaise = some (raised 0x0701 3) ∧ k.fltKnown 0x0701 = false ∧ c.flt.cur = some (handled 0x0501 3) ∧ 3 ≤ 3 ∧
        c.flt.fifo.length < 16) ∧
    Met (faulty { inbox := [raised 0x0701 3], cur := some (handled 0x0501 3), fifo := List.replicate 16 (handled 0x0502 2) }) (fun c =>
      let k := ({ c with flt := { c.flt with inbox := c.flt.inbox.erase (raised 0x0701 3) } } : Chip).incWrap FLT_RAISED_N
      c.live .app = true ∧ c.nextRaise = some (raised 0x0701 3) ∧ k.fltKnown 0x0701 = false ∧ c.flt.cur = some (handled 0x0501 3) ∧ 3 ≤ 3 ∧
        16 ≤ c.flt.fifo.length) := by decide +kernel

theorem test_meets_faultHandling :
    Met run0 (fun c => c.live .app = true ∧ c.flt.cur = none) ∧
    Met (faulty { cur := some (handled 0x0101 5) }) (fun c => c.live .app = true ∧ c.flt.cur = some (handled 0x0101 5) ∧ c.handlingOver (handled 0x0101 5) = false) ∧
    Met (faulty { cur := some (handled 0x0501 2), susp := [handled 0x0502 1] }) (fun c => c.live .app = true ∧ c.flt.cur = some (handled 0x0501 2) ∧
      c.handlingOver (handled 0x0501 2) = true ∧ c.flt.susp = [handled 0x0502 1]) ∧
    Met (faulty { cur := some (handled 0x0501 2), fifo := [handled 0x0502 1] }) (fun c => c.live .app = true ∧ c.handlingOver (handled 0x0501 2) = true ∧
      c.flt.susp = [] ∧ c.flt.fifo = [handled 0x0502 1]) ∧
    Met (faulty { cur := some (handled 0x0501 2) }) (fun c => c.live .app = true ∧ c.handlingOver (handled 0x0501 2) = true ∧ c.flt.susp = [] ∧ c.flt.fifo = []) ∧
    Met { faulty { inForce := [inForce0 2 1] } with now := 10000000000 } (fun c => c.live .app = true ∧
      c.flt.inForce.find? (fun x => x.code == 0x0701) = some (inForce0 2 1) ∧ isCondition 0x0701 = false ∧ 10000000000 ≤ c.now - (inForce0 2 1).last ∧
      0 < (inForce0 2 1).since ∧ (inForce0 2 1).lastRec ≤ c.now) ∧
    Met (faulty { inForce := [inForce0 3 0] }) (fun c => c.live .app = true ∧ c.flt.inForce.find? (fun x => x.code == 0x0701) = some (inForce0 3 0) ∧
      (inForce0 3 0).sev ≠ 2 ∧ (inForce0 3 0).since = 0 ∧ c.now - (inForce0 3 0).last < 10000000000) := by decide +kernel

theorem test_meets_renewWhileHeld :
    Met (activeP.put PAIR_STAT_HELD true) (fun c => c.live .app = true ∧ (c.pairFrame hdr0).2 = true ∧ (c.pairFrame hdr0).1.is PAIR_STAT_HELD = true) := by
  decide +kernel

/-! ### Witnesses: accesses, update, boot ROM, console, the block -/

/-- ETH is held in a per-function reset. -/
def ethHeld : Chip := { run0 with sys := { started := true, frst := [{ ethReset with acked := true }] } }

theorem test_meets_snapshotReads : 1 % 4 ≠ 0 ∧
    Met run0 (fun c => (FBK_CH_LATCH_TS_LO_REG 5 + 8) % 4 = 0 ∧ inBlocks (FBK_CH_LATCH_TS_LO_REG 5 + 8) = true ∧
      isCompanion (FBK_CH_LATCH_TS_LO_REG 5 + 8) = true ∧ c.inReset (FBK_CH_LATCH_TS_LO_REG 5 + 8) = false ∧
      (c.fuses.partN && inVision (FBK_CH_LATCH_TS_LO_REG 5 + 8)) = false ∧ within (FBK_CH_LATCH_TS_LO_REG 5 + 8) 0x400A0000 0x400D0000 = false) ∧
    Met run0 (fun c => FBK_CH_LATCH_TS_LO_REG 0 % 4 = 0 ∧ inBlocks (FBK_CH_LATCH_TS_LO_REG 0) = true ∧ isCompanion (FBK_CH_LATCH_TS_LO_REG 0) = false ∧
      c.inReset (FBK_CH_LATCH_TS_LO_REG 0) = false ∧ within (FBK_CH_LATCH_TS_LO_REG 0) 0x400A0000 0x400D0000 = false) ∧
    Met ethHeld (fun c => 0x400D0000 % 4 = 0 ∧ inBlocks 0x400D0000 = true ∧ c.inReset 0x400D0000 = true) ∧
    (0x103FFFFC % 4 = 0 ∧ within 0x103FFFFC 0x10000000 0x10400000 = true ∧ within 0x201FFFFC 0x20000000 0x20200000 = true ∧ 0x52000000 % 4 = 0 ∧
      0x7FFFFFFC < 0x80000000) := by decide +kernel

theorem test_meets_busErrors :
    Met run0 (fun c => inVision 0x52000000 = false ∧ c.busFails 0x52000000 4 false = true) ∧
    Met run0 (fun c => inVision 0x201FFFFF = false ∧ c.busFails 0x201FFFFF 1 true = false) ∧
    (3 ∉ [1, 2, 4, 8] ∧ 1 % 2 ≠ 0 ∧ inVision 1 = false ∧ inBlocks 0x4013FFFC = true ∧ inVision 0x4013FFFC = false ∧
      within 0x103FFFFF 0x10000000 0x10400000 = true ∧ inVision 0x103FFFFF = false ∧ inVision 0x7FFFFFFF = false ∧
      within 0x201FFFF8 0x20000000 0x20200000 = true ∧ 0x201FFFF8 % 8 = 0 ∧ inVision 0x201FFFF8 = false) := by decide +kernel

theorem test_meets_registerWrites :
    Met {} (fun c => c.live .app = true ∧ c.sys.started = false ∧ 0x201FFFFC % 4 = 0 ∧ within 0x201FFFFC 0x20000000 0x20200000 = true) ∧
    Met ethHeld (fun c => c.live .app = true ∧ 0x400D0000 % 4 = 0 ∧ inBlocks 0x400D0000 = true ∧ c.inReset 0x400D0000 = true) ∧
    Met run0 (fun c => c.live .app = true ∧ bitAt (0xFF : Word).toNat 8 = false ∧ c.inReset SYS_FRST_CTRL_REG = false ∧ c.inReset (FBK_CH_ICTL_REG 5) = false ∧
      bitsOf (1 : Word).toNat 0 2 = 1 ∧ bitsOf (3 : Word).toNat 0 2 = 3 ∧ 0x10000002 % 4 ≠ 0 ∧ within 0x10000000 0x10000000 0x10400000 = true) := by decide +kernel

/-- A chip whose SAFE slot 0 is in TRIAL. -/
def trial0 (ns secs : Nat) : Chip := ({ late ns with upd := { secs := secs, since := some 0 } } : Chip).set (UPD_SLOT_STAT_STATE 0) 6

theorem test_meets_updateTimers :
    Met run0 (fun c => c.live .app = true ∧ c.upd.verify = none ∧ c.upd.since = none ∧ c.trialSlots = [] ∧ c.upd.resetAt = none) ∧
    Met { run0 with upd := { verify := some (17, 4095) } } (fun c => c.live .app = true ∧ c.upd.verify = some (17, 4095)) ∧
    Met (trial0 9999999999 0) (fun c => c.live .app = true ∧ c.upd.since = some 0 ∧ c.now - 0 < 10000000000 ∧ c.trialSecs < 600) ∧
    Met (trial0 10000000000 0) (fun c => c.live .app = true ∧ c.upd.since = some 0 ∧ c.trialSlots ≠ [] ∧ 10000000000 ≤ c.now - 0) ∧
    Met (trial0 10000000000 590) (fun c => c.live .app = true ∧ c.trialSlots ≠ [] ∧ 600 ≤ c.trialSecs ∧ c.gateOpen .pointer = true) ∧
    Met (((trial0 10000000000 590).put SUP_STATUS_WARN true).set SUP_HOLDUP_CFG1_P_LOAD 1) (fun c => c.live .app = true ∧ c.trialSlots ≠ [] ∧
      600 ≤ c.trialSecs ∧ c.gateOpen .pointer = false ∧ c.sup.waiting = [] ∧ c.confirmWaits = false) ∧
    Met (((({ trial0 10000000000 590 with wqm := { entries := [{ entry0 with visible := true, cstate := 0, cmd := { entry0.cmd with op := .updConfirm, a := 0 } }] } } : Chip)).put
      SUP_STATUS_WARN true).set SUP_HOLDUP_CFG1_P_LOAD 1) (fun c => c.live .app = true ∧ c.trialSlots ≠ [] ∧ 600 ≤ c.trialSecs ∧ c.gateOpen .pointer = false ∧
      c.confirmWaits = true) ∧
    Met { run0 with upd := { resetAt := some 1 } } (fun c => c.live .app = true ∧ c.upd.resetAt = some 1 ∧ c.now < 1) ∧
    Met { late 1 with upd := { resetAt := some 1 } } (fun c => c.live .app = true ∧ c.upd.resetAt = some 1 ∧ 1 ≤ c.now ∧
      ({ c with upd := { c.upd with resetAt := none } } : Chip).domOwns (c.get UPD_CFG_RST_GPIO) = false) := by decide +kernel

/-- The boot ROM waits on CAN0 with a service image of `size` bytes of which `got` have come. -/
def rom (size got : Nat) (ok : Bool) (last : Option (Nat × List Byte)) : Chip :=
  ({ sys := { bootWait := true }, upd := { svc := { size := size, got := got, verified := ok, last := last } } } : Chip).set SYS_BOOT_STAT_SOURCE 3

theorem test_meets_bootCommands :
    Met run0 (fun c => c.sys.held = none ∧ c.sys.bootWait = false) ∧
    Met (rom 0 0 false (some (255, [1]))) (fun c => c.sys.held = none ∧ c.sys.bootWait = true ∧ c.get SYS_BOOT_STAT_SOURCE = 3 ∧
      c.upd.svc.last = some ((255 : Fin 256).val, [1])) ∧
    Met (rom 0 0 false none) (fun c => c.sys.held = none ∧ c.sys.bootWait = true ∧ c.get SYS_BOOT_STAT_SOURCE = 3 ∧ c.upd.svc.last = none ∧ 199 < 200 ∧
      svcMax < svcMax + 1 ∧ 200 ≤ svcMax ∧ c.upd.svc.size = 0 ∧ c.upd.svc.verified = false) ∧
    Met (rom 200 192 false none) (fun c => c.sys.held = none ∧ c.sys.bootWait = true ∧ c.get SYS_BOOT_STAT_SOURCE = 3 ∧ c.upd.svc.last = none ∧
      c.upd.svc.size ≠ 0 ∧ 192 = c.upd.svc.got ∧ 192 < c.upd.svc.size ∧ 192 % (((List.replicate 32 (0 : Byte)).take 32).length) = 0 ∧
      c.upd.svc.got < c.upd.svc.size) ∧
    Met (rom 200 200 true none) (fun c => c.sys.held = none ∧ c.sys.bootWait = true ∧ c.get SYS_BOOT_STAT_SOURCE = 3 ∧ c.upd.svc.last = none ∧
      c.upd.svc.size ≠ 0 ∧ c.upd.svc.size ≤ c.upd.svc.got ∧ c.upd.svc.verified = true) := by decide +kernel

/-- A line of session 0 with tag 65,535, and one without a tag. -/
def line0 : Ln := { sess := 0, tag := some 65535, pcrc := 0 }
def bare0 : Ln := { sess := 0, tag := none, pcrc := 0 }

/-- Session 0 is open in generated mode with a role, on a chip of a pair role. -/
def console (role pair : Nat) : Chip :=
  (((run0.putBit CON_SESS_STAT_OPEN 0 true).putBit CON_SESS_STAT_GEN 0 true).set CON_SESS_STAT_ROLE role).set PAIR_STAT_ROLE pair

/-- What LineReady asks, as a check. -/
def ready (c : Chip) (l : Ln) (role : Nat) : Bool :=
  c.serving && c.sessOpen l.sess && (!(c.lineTaken l.sess l.tag.isSome).sessGen l.sess || l.tag.isSome) && decide (l.tag.getD 0 ≤ 65535) &&
    decide (role ≤ (c.lineTaken l.sess l.tag.isSome).sessRole l.sess)

theorem lineReady_of (c : Chip) (l : Ln) (role : Nat) (h : ready c l role = true) : c.LineReady (c.lineTaken l.sess l.tag.isSome) l role := by
  simp only [ready, Bool.and_eq_true, Bool.or_eq_true, Bool.not_eq_true', decide_eq_true_eq] at h
  obtain ⟨⟨⟨⟨h1, h2⟩, h3⟩, h4⟩, h5⟩ := h
  refine ⟨h1, h2, rfl, fun hg hn => ?_, h4, h5⟩
  rcases h3 with h3 | h3
  · rw [hg] at h3; exact absurd h3 (by decide)
  · rw [hn] at h3; exact absurd h3 (by decide)

theorem test_meets_consoleQueries : Met (console 0 1) (fun c => ready c line0 0) ∧ Met { console 0 2 with fuses := { partN := true } } (fun c =>
    ready c line0 0 && c.fuses.partN) := by decide +kernel

theorem test_meets_visionRefused : Met { console 0 1 with fuses := { partN := true } } (fun c => c.fuses.partN && ready c line0 0) := by decide +kernel

theorem test_meets_consoleDirect :
    Met (console 1 1) (fun c => ready c line0 0 && ready c line0 1 && !(c.lineTaken 0 true).isStandby) ∧
    Met (console 2 2) (fun c => ready c line0 2) ∧ Met (console 2 1) (fun c => ready c line0 2 && !(c.lineTaken 0 true).isStandby) ∧
    (List.replicate 128 (0 : Byte)).length = 128 := by decide +kernel

theorem test_meets_consoleQueued :
    Met (console 1 1) (fun c => ready c line0 1 && !(c.lineTaken 0 true).isStandby) ∧
    Met { console 2 1 with ledg := { ring := [{ slot := 0, seq := 0, type := 0, tb := 0 }] } } (fun c =>
      ready c line0 2 && !(c.lineTaken 0 true).isStandby && decide ((c.lineTaken 0 true).ledgerAckErr 0 = 0 ∧ c.fuses.partN = false)) ∧
    Met (console 2 2) (fun c => ready c line0 2) ∧ Met run0 (fun c => c.live .app = true) := by decide +kernel

/-- The window entry that answers key 7 of source 9. -/
def answered : WinEntry := { set := 8, place := 0, key := 7, pcrc := 0, phase := 1, queue := 8, ecode := 0, qseq := 1, reply := [] }
def journal (es : List Entry) : Chip := { run0 with wqm := { entries := es } }

theorem test_meets_offerTakes :
    (7 ≠ 0 ∧ (winSet 9).isSome = true ∧ winSet 16 = none) ∧
    Met (journal [entry0]) (fun c => c.wqm.entries.find? (fun e => e.source == 9 && e.key == 7 && !e.visible && e.cstate == 0) = some entry0) ∧
    Met { run0 with wqm := { windows := [answered] } } (fun c => c.wqm.entries.find? (fun e => e.source == 9 && e.key == 7 && !e.visible && e.cstate == 0) = none ∧
      c.findWindow ((winSet 9).getD 15) 7 = some answered) ∧
    Met (journal (List.replicate 256 { entry0 with visible := true })) (fun c =>
      c.wqm.entries.find? (fun e => e.source == 9 && e.key == 7 && !e.visible && e.cstate == 0) = none ∧ c.findWindow ((winSet 9).getD 15) 7 = none ∧
      256 ≤ (c.wqm.entries.filter (fun e => e.queue == 8 && e.cstate == 0)).length) ∧
    Met (journal []) (fun c => c.wqm.entries.find? (fun e => e.source == 9 && e.key == 7 && !e.visible && e.cstate == 0) = none ∧
      c.findWindow ((winSet 9).getD 15) 7 = none ∧ (c.wqm.entries.filter (fun e => e.queue == 8 && e.cstate == 0)).length < 256 ∧
      freeSlotFrom c.wqm.entries 4096 (c.get WQM_JRN_HEAD_SLOT) = some 0 ∧ c.wqm.entries.any (fun x => x.queue == 8) = false ∧ c.gateOpen .accept = true) ∧
    Met (((journal []).put SUP_STATUS_WARN true).set SUP_HOLDUP_CFG1_P_LOAD 1) (fun c =>
      freeSlotFrom c.wqm.entries 4096 (c.get WQM_JRN_HEAD_SLOT) = some 0 ∧ c.gateOpen .accept = false) := by decide +kernel

theorem test_meets_consoleRefusals :
    Met heldL1 (fun c => c.sys.held.isSome = true) ∧ Met (run0.putBit CON_SESS_STAT_OPEN 0 false) (fun c => c.serving && !c.sessOpen 0) ∧
    Met (console 0 1) (fun c => c.serving && c.sessOpen 0 && (c.lineTaken 0 bare0.tag.isSome).sessGen 0 && bare0.tag.isNone && decide (65535 < 65536)) ∧
    Met (console 0 1) (fun c => ready c line0 0 && decide ((c.lineTaken 0 true).sessRole 0 < 1)) ∧
    Met (console 2 2) (fun c => ready c line0 2 && (c.lineTaken 0 true).isStandby) := by decide +kernel

theorem test_meets_consoleTimers :
    Met { (console 2 1) with now := 900000000000 } (fun c => c.sess[0]? = some ({} : Sess) ∧ c.live .app = true ∧ c.sessRole 0 = 2 ∧
      900000000000 ≤ c.now - ({} : Sess).lastLine) ∧
    Met { (console 2 1) with now := 899999999999 } (fun c => c.sess[0]? = some ({} : Sess) ∧ c.live .app = true ∧
      c.now - ({} : Sess).lastLine < 900000000000 ∧ c.serving = true ∧ c.sessOpen 0 = true ∧ c.sessGen 0 = true ∧
      (lineErr (c.sessGen 0) [0x21] false false).2 ≠ 0 ∧ (lineErr (c.sessGen 0) [0x70] false false).2 ≠ 0) ∧
    Met { late 60000000000 with sess := [{ lockedAt := some 0 }, {}, {}, {}, {}, {}] } (fun c => c.sess[0]? = some ({ lockedAt := some 0 } : Sess) ∧ c.live .app = true ∧
      60000000000 ≤ c.now - 0) ∧
    Met { late 59999999999 with sess := [{ lockedAt := some 0 }, {}, {}, {}, {}, {}] } (fun c => c.sess[0]? = some ({ lockedAt := some 0 } : Sess) ∧ c.live .app = true ∧
      c.now - 0 < 60000000000) ∧
    Met ((console 0 1).putBit CON_SESS_STAT_GEN 0 false) (fun c => c.live .app = true ∧ c.sessOpen 0 = true ∧ c.sessGen 0 = false ∧ c.serving = true ∧
      (lineErr (c.sessGen 0) [0x70, 0x69, 0x6E, 0x67] false false).2 = 0) := by decide +kernel

theorem test_meets_releaseHold :
    Met (console 1 1) (fun c => ready c line0 0 && decide (1 ≤ (c.lineTaken 0 true).sessRole 0) && !(c.lineTaken 0 true).isStandby) ∧
    Met (console 0 1) (fun c => ready c line0 0 && decide ((c.lineTaken 0 true).sessRole 0 = 0)) ∧
    Met (console 2 2) (fun c => ready c line0 0 && decide (2 ≤ (c.lineTaken 0 true).sessRole 0) && (c.lineTaken 0 true).isStandby) := by decide +kernel

theorem test_meets_stepRunsFront : State.reset.pending = [] ∧ ({ State.reset with pending := [.fillComplete 0 0] } : State).pending.length = 1 := by decide

theorem test_meets_timePasses : ({} : Chip).now < 1 ∧ 0 ≤ ({} : Chip).now := by decide

theorem test_meets_heldChip : (with0 heldL1).chip.sys.held = some 1 ∧ (with0 { sys := { held := some 0 } }).chip.sys.held = some 0 ∧ 1 ≤ 1 := by decide

theorem test_meets_outputsStayGated : State.reset.chip.Gated ∧ step State.reset = .next State.reset := ⟨fun _ => ⟨rfl, rfl, rfl, rfl⟩, rfl⟩

/-! ### WellFormed refuses -/

/-- A MIRROR frame's state without axes, and the same with four, six channels and two cameras. -/
def body (n : Nat) (door : Nat) : MirBody :=
  { snapshot := true, resync := false, door := door, doorElapsed := 0, doorCycle := 0,
    axes := List.replicate n { xpos := 0, elec := 0, elecOff := 0, tgt := 0, prof := {}, seg := 0, dirNeg := false, v := 0, revHold := 0, steploss := false },
    slots := [], progs := [], d4 := 0, fbk := List.replicate 6 (0, false), vote := 0, sin := 0, stores := [], expSeq := none, expPath := none, nextSeq := 0,
    faults := [], tbVeh := 0, y := 0, epochSet := false, qual := 0, bound := 0, nos := [(0, 0), (0, 0)], cfgCrc := 0, copyCrcs := (0, 0), cfg := none }

/-- One ill-formed command for each check of `Instr.wf`: devices and memory, then networks, pair, console and update. -/
theorem test_wf_refuses : ([.powerOnReset (2 ^ 64) 1, .profileTick (2 ^ 64), .pwcPulse 0 1 (2 ^ 32), .ssiFrame 0 2 (2 ^ 32) true, .frameStart 0 0 65536,
    .longPacket 0 0 (packet 64 0 0), .longPacket 0 0 { packet 0x2B 0 0 with pixels := [65536] }, .l2Read 0 4 (2 ^ 32) 32 0, .l2Read 0 4 0 0 0,
    .l2Read 0 4 0 129 0, .l2Write 0 4 0 [] 0, .l2Write 0 4 0 (List.replicate 129 0) 0, .fillComplete 0 (2 ^ 32), .getS 0 1 (2 ^ 32), .wt 0 1 0 [],
    .wt 0 1 0 (List.replicate 33 0), .getM 0 (2 ^ 32), .putM 0 0 [0], .inv 0 1 (2 ^ 32), .invAck 0 1 (2 ^ 32), .recall 0 (2 ^ 32), .recallData 0 0 [],
    .appCoherenceTimeout 0 (2 ^ 32), .canFrameReceived 0 0 { frame0 with id := 5 } 0 none, .canFrameReceived 0 0 { frame0 with id := 2 ^ 29 } 0 none,
    .canFrameReceived 0 0 { frame0 with id := 0, dlc := 16 } 0 none, .canFrameReceived 0 0 { frame0 with id := 0, data := List.replicate 65 0 } 0 none,
    .canFrameReceived 0 0 { frame0 with id := 0, rtr := true, fdf := true } 0 none, .canFrameReceived 0 0 { frame0 with id := 0, rtr := true, data := [0] } 0 none,
    .canBusError 0 0 { err0 with code := 8 }] : List Instr).all (fun i => !i.wf) = true := by decide +kernel

theorem test_wf_refuses_messages : ([.ethFrameReceived 0 0 true (List.replicate 1523 0), .addressAgeOut 0 (2 ^ 48), .arpRequest 0 0 (2 ^ 48) 0, .arpRequest 0 0 0 (2 ^ 32),
    .icmpEcho 0 (2 ^ 32) 0 [], .icmpEcho 0 0 (2 ^ 32) [], .udpDatagram 0 (2 ^ 32) 0 0 true [], .udpDatagram 0 0 65536 0 true [], .udpDatagram 0 0 0 (2 ^ 32) true [],
    .tcpConnect 0 (2 ^ 32) 0, .tcpConnect 0 0 65536, .syncReceived 0 0 256 0 0 0, .announceReceived 0 0 256 0 0, .announceReceived 0 0 0 (2 ^ 64) 0,
    .doorCmd 0 (.can 3) 0 [], .doorCmd 0 (.udp (2 ^ 32) 0) 0 [], .doorCmd 0 (.udp 0 65536) 0 [], .doorCmd 0 (.can 0) 32 [], .exportStart 0 (.can 0) 32 [],
    .exportAckn 0 (.can 3) 0 [], .exportStop 0 (.can 3) 0 [], .speedIn 0 (.can 0) (2 ^ 29) [], .vehTime 0 0 (2 ^ 29) 0 [],
    .renew 0 { hdr0 with epoch := 2 ^ 32 }, .transfer 0 { hdr0 with tb := 2 ^ 64 }, .mirror 0 hdr0 (.state (body 3 0)), .mirror 0 hdr0 (.state (body 4 (2 ^ 32))),
    .health 0 hdr0 4 0, .health 0 hdr0 0 65536, .hello 0 hdr0 { info0 with proto := 65536 }, .hello 0 hdr0 { info0 with protoMin := 65536 },
    .sub 0 line0 "none" true, .get_ 0 line0 [] false, .get_ 0 line0 (List.replicate 9 "") false, .set_ 0 line0 [], .set_ 0 line0 (List.replicate 9 ("", 0)),
    .faultAck 0 none 65536, .ledgerRead 0 line0 (2 ^ 48) 1, .ledgerAck 0 line0 (2 ^ 48), .updateData 0 line0 0 (List.replicate 129 0) 0,
    .updateData 0 line0 (2 ^ 32) [] 0, .bootData 0 0 0 (List.replicate 33 0), .bootData 0 0 (2 ^ 32) [], .eventFaultClear 0 65536, .coalescedRecord 0 65536,
    .snapshotRead 0 0 (2 ^ 33), .busErrorAccess 0 (2 ^ 33) 4 true, .registerWrite 0 (2 ^ 33) 0] : List Instr).all (fun i => !i.wf) = true := by decide +kernel

theorem test_wf_takes : [Instr.powerOnReset (2 ^ 64 - 1) 1, .pwcPulse 0 1 (2 ^ 32 - 1), .frameStart 0 0 65535, .l2Read 0 4 (2 ^ 32 - 1) 128 0, .wt 0 1 0 [0],
    .putM 0 0 (List.replicate 128 0), .canFrameReceived 0 0 { frame0 with id := 5 * 2 ^ 18 } 0 none, .doorCmd 0 (.can 2) 31 [],
    .mirror 0 hdr0 (.state (body 4 0)), .sub 0 line0 "adm" true, .registerWrite 0 0x17FFFFFFC 0].all (fun i => i.wf) = true := by decide +kernel

/-! ### Single steps -/

/-- The chip after one command at `c`. -/
def after (c : Chip) (i : Instr) : Chip := match exec i (with0 c) with | .next s => s.chip | _ => c

/-- R82: INDEX_ARM sets ARMED of its channel and of no other. -/
theorem test_indexArm : (after run0 (.indexArm 0 5)).is (FBK_CH_STAT_ARMED 5) = true ∧ (after run0 (.indexArm 0 5)).is (FBK_CH_STAT_ARMED 4) = false := by
  decide +kernel

/-- R78: with A leading B (00 to 01, A in bit 0) a quadrature channel counts up by one; back from 01 to 00 it counts down. -/
theorem test_rawTransition : (after quad0 (.rawTransition 0 0 true false)).getI (FBK_CH_COUNT_COUNT 0) = 1 ∧
    (after (after quad0 (.rawTransition 0 0 true false)) (.rawTransition 1000 0 false false)).getI (FBK_CH_COUNT_COUNT 0) = 0 := by decide +kernel

/-- R56: the warning asserts 20 us after VSENSE fell below THRESH, not a nanosecond earlier. -/
theorem test_supplyWarning : (after { run0 with sup := { belowSince := some 0 } } (.supplyWarningAssert 20000)).is SUP_STATUS_WARN = true ∧
    (after { run0 with sup := { belowSince := some 0 } } (.supplyWarningAssert 19999)).is SUP_STATUS_WARN = false := by decide +kernel

/-- R116: a pop drops the head. -/
theorem test_latchFifoPop : (after { run0 with dom := { lf := [⟨1, 0, 2, 3⟩, ⟨2, 1, 4, 5⟩] } } (.latchFifoPop 0)).get DOM_LF_SLOT_SLOT = 2 := by decide +kernel

/-- R359: a chip that holds the lease and accepts a RENEW raises F0309 at S5. -/
theorem test_renewWhileHeld : (after (activeP.put PAIR_STAT_HELD true) (.renew 0 hdr0)).flt.inbox.map (fun r => (r.code, r.sev)) = [(0x0309, 5)] := by
  decide +kernel

/-- R493: MRAM takes no write of a core; a word of SRAM is stored least significant byte first. -/
theorem test_registerWrite : (after {} (.registerWrite 0 0x10000000 5)).resp = some none ∧
    (after {} (.registerWrite 0 0x20000000 0x01020304)).rdBytes 0x20000000 4 = [4, 3, 2, 1] := by decide +kernel

/-- R426: on the CV-4410N a vision command is refused with E203. -/
theorem test_visionRefused : (after { console 0 1 with fuses := { partN := true } } (.visionStatus 0 line0)).out.length = 1 := by decide +kernel

/-- R421: `set vote.rel_hold=1` acts at once. -/
theorem test_setRelHold : (after (console 1 1) (.setRelHold 0 line0 true)).is VOTE_HOLD_REL_HOLD = true ∧
    (after (console 0 1) (.setRelHold 0 line0 true)).is VOTE_HOLD_REL_HOLD = false := by decide +kernel

/-- R342: an idle chip drives the restrictive outputs after whatever command it takes. -/
theorem test_gated : (after (run0.put PAIR_STAT_HELD false) (.indexArm 0 0)).pins.brgEnN = true := by decide +kernel

end Sys2Proof.Machine
end

/-! ## The state right after reset (spec/00_scope.md R9, spec/22_register_index.md R500) -/

namespace Sys2Proof.Machine

/-- No register is listed in the register file of the reset state, so each reads the default of the sparse map (R9). -/
@[simp] theorem State.reset_rd (a : Nat) : State.reset.chip.rd a = resetWord a := rfl

/-- The levels of the pins' pulls, which the outputs have at reset, are the restrictive ones (Tables 02-8 and 02-10, log 9). -/
theorem State.reset_restrictive : State.reset.chip.pins.Restrictive := ⟨rfl, rfl, rfl, rfl⟩

/-- At reset the outputs are at their safe levels whether or not the chip may drive them. -/
theorem State.reset_gated : State.reset.chip.Gated := fun _ => State.reset_restrictive

/-- Settles O54: the register file of the reset state is empty, so a register's reset value is its row of the reset table; the other
parts are fields of the reset state. -/
theorem resetState : Obligations.ResetState := by
  unfold Obligations.ResetState
  refine ⟨rfl, State.reset_rd, ?listedWords, rfl, rfl, State.reset_gated⟩
  case listedWords =>
    simp only [State.reset_rd]
    decide

end Sys2Proof.Machine

/-! ## The outputs over every step (spec/01 Table 01-1 and R11, spec/02 Table 02-8 and R37, spec/15 R342, log 92) -/

namespace Sys2Proof.Machine

/-! ### How a command can end -/

/-- The two ends of a command on `s`: only time passed, where the domain that it concerns does not run, or it had its effect `k`,
whose interrupt lines were latched and whose outputs were gated. Either way the queue stands as it was. -/
inductive Ends (s : State) : Host.Outcome State Fault Refusal → Prop where
  | idle (t : Nat) : Ends s (.next { s with chip := s.chip.begin t })
  | acted (t : Nat) (k : Chip) : Ends s (.next { s with chip := (s.chip.begin t).finish k })

/-- The outcome that `run` writes out for domain `d`, and `runS` with it: `k` where the domain lives, and otherwise the passing of time. -/
theorem Ends.ofDomain (d : Domain) (t : Nat) (k : Chip) (s : State) :
    Ends s (.next { s with chip := if (s.chip.begin t).live d then (s.chip.begin t).finish k else s.chip.begin t }) := by
  cases (s.chip.begin t).live d with
  | true => exact .acted t k
  | false => exact .idle t

/-- FAULT_ACK comes from a console line, or as a write of FLT_ACK on the application side. -/
theorem execFaultAck_ends (t : Nat) (l : Option Ln) (code : Nat) (s : State) : Ends s (execFaultAck t l code s) := by
  cases l with
  | none => exact .ofDomain ..
  | some l => exact .acted ..

/-- Every command of the table ends in one of the two ways: the runners of resets, of bus accesses, of console lines and of the boot
download finish the chip in every state, and those of all other commands finish it where their domain lives. -/
theorem exec_ends (i : Instr) (s : State) : Ends s (exec i s) := by
  cases i
  -- resets, start-up, and the accesses of bus masters, which a reset does not hold back
  case powerOnReset | resetNReset | resetRelease | snapshotRead | busErrorAccess => exact .acted ..
  -- the boot download
  case bootBegin | bootData | bootVerify | bootRun => exact .acted ..
  -- console lines
  case help | ping | modeGen | modeTyped | sub | role | auth | authResp | malformedLine => exact .acted ..
  case get_ | set_ | setRelHold | configShow | configCrc | configApply | configSave | configRevert | configFactory => exact .acted ..
  case doorOpen | doorClose | doorRelease | doorUnrelease | doorReset | doorIsolate | doorUnisolate | doorStatusQuery | doorMeas => exact .acted ..
  case axisStatus | axisStart | axisStop | axisEmerg | axisHalt | axisReref | curStatus | curCal | curClrofs => exact .acted ..
  case fbkStatus | fbkArm | fbkDisarm | fbkCount | fbkWheel => exact .acted ..
  case domStatus | domSlot | domArm | domDisarm | domD4 | domLf | domLfPop => exact .acted ..
  case visionStatus | visionCam | visionTenant | visionGrid | visionTenantStart | visionTenantStop => exact .acted ..
  case canStatus | canMode | canInit | ethStatus | ethPort | timeStatus | timeNow => exact .acted ..
  case pairStatus | pairHealthQuery | pairHandover | queue | queueKey | faultList => exact .acted ..
  case ledgerStatus | ledgerRead | ledgerAck => exact .acted ..
  case updateStatus | updateBegin | updateData | updateVerify | updateActivate | updateConfirm | updateAbort => exact .acted ..
  case resetFunction | sysInfo | sysCause | sysCauseClear | sysFrst | sysSupply => exact .acted ..
  case faultAck t l code => exact execFaultAck_ends t l code s
  -- every other command acts in one domain of Table 03-7
  all_goals exact .ofDomain ..

/-! ### The gate at either end -/

/-- Time passing changes neither the levels of the outputs nor the right to drive them. -/
theorem Chip.begin_mayOutput (c : Chip) (t : Nat) : (c.begin t).mayOutput = c.mayOutput := by
  have held : (c.begin t).is PAIR_STAT_HELD = c.is PAIR_STAT_HELD := by
    unfold Chip.is Chip.get; rw [Chip.begin_rd c t _ (by decide)]
  unfold Chip.mayOutput Chip.inL2
  rw [held, Chip.begin_sys, Chip.begin_vote, Chip.begin_claimAt]

theorem Chip.Gated.begin {c : Chip} (h : c.Gated) (t : Nat) : (c.begin t).Gated := by
  unfold Chip.Gated at h ⊢
  rw [Chip.begin_mayOutput, Chip.begin_pins]
  exact h

/-- A chip at a command's end is gated whatever the command did to it (R342, log 92). -/
theorem Chip.finish_gated (a b : Chip) : (a.finish b).Gated := fun h =>
  Chip.gated_restrictive (a.latchIrq b) ((Chip.gated_mayOutput _).symm.trans h)

theorem Ends.gated {s u : State} (h : Ends s (.next u)) (hs : s.chip.Gated) : u.chip.Gated := by
  cases h with
  | idle t => exact hs.begin t
  | acted t k => exact Chip.finish_gated _ k

/-- Settles O57: an empty queue leaves the chip as it is, and a command ends either with only time passed, which keeps the gate, or with
its outputs gated anew (log 92). -/
theorem outputsStayGated : Obligations.OutputsStayGated := by
  intro s u hs hstep
  cases hp : s.pending with
  | nil =>
    simp only [step, hp] at hstep
    cases hstep
    exact hs
  | cons i rest =>
    simp only [step, hp] at hstep
    have hend := exec_ends i { s with pending := rest }
    rw [hstep] at hend
    exact hend.gated hs

end Sys2Proof.Machine

/-! ## Power, reset and start-up (spec/03, spec/01 R25, spec/21 R483) -/

namespace Sys2Proof.Machine

/-! ### From the meaning of a command to what it gives -/

/-- A command that `run` carries out gives its effect where its domain lives. -/
theorem Gives.ofRun {i : Instr} {s : State} {d : Domain} {t : Nat} {f : Chip → Chip} {k : Chip} (meaning : exec i s = run d t f s)
    (live : (s.chip.begin t).live d = true) (effect : f (s.chip.begin t) = k) : Gives i s t k := by
  unfold Gives
  rw [meaning, run_live d t f s live, effect]

/-- A command after which the executors go on gives its effect, settled. -/
theorem Gives.ofRunS {i : Instr} {s : State} {d : Domain} {t : Nat} {f : Chip → Chip} {k : Chip} (meaning : exec i s = runS d t f s)
    (live : (s.chip.begin t).live d = true) (effect : f (s.chip.begin t) = k) : Gives i s t k.settle :=
  .ofRun meaning live (congrArg Chip.settle effect)

/-- A command that no reset holds back gives its effect on every chip. -/
theorem Gives.ofRunAny {i : Instr} {s : State} {t : Nat} {f : Chip → Chip} {k : Chip} (meaning : exec i s = runAny t f s)
    (effect : f (s.chip.begin t) = k) : Gives i s t k := by
  unfold Gives
  subst effect
  exact meaning

/-- What is true of the chip that a command gives is what the command yields. -/
theorem Gives.yields {i : Instr} {s : State} {t : Nat} {k : Chip} {p : Chip → Prop} (h : Gives i s t k)
    (hp : p ((s.chip.begin t).finish k)) : Yields i s p :=
  ⟨_, h, rfl, hp⟩

/-! ### The meanings of the commands of spec/03 -/

theorem exec_powerOnReset (t : Nat) (rails : BitVec 9) (s : State) :
    exec (.powerOnReset t rails) s = runAny t (fun c => c.powerOn rails.toNat) s := rfl
theorem exec_resetNReset (t width : Nat) (s : State) : exec (.resetNReset t width) s = runAny t (fun c => c.resetN width) s := rfl
theorem exec_resetRelease (t : Nat) (e : StartUp) (s : State) :
    exec (.resetRelease t e) s = runAny t (fun c => (c.startUp e).settle) s := rfl
theorem exec_strapSample (t : Nat) (levels : BitVec 5) (stable : Bool) (s : State) : exec (.strapSample t levels stable) s =
    run .clock t (fun c => if c.sys.held.isSome then c else c.straps levels.toNat stable) s := rfl
theorem exec_referenceQualify (t : Nat) (s : State) : exec (.referenceQualify t) s = run .clock t (fun c => c.refQualify) s := rfl
theorem exec_referenceFault (t : Nat) (s : State) : exec (.referenceFault t) s = run .clock t (fun c => c.refFault) s := rfl
theorem exec_rstmapProgram (t : Nat) (level : Fin 4) (s : State) :
    exec (.rstmapProgram t level) s = run .app t (fun c => c.rstmapProgram level) s := rfl
theorem exec_holdupEnergyUpdate (t mv : Nat) (s : State) : exec (.holdupEnergyUpdate t mv) s = run .aon t (fun c => c.vsense mv) s := rfl
theorem exec_threshWrite (t : Nat) (v : Word) (s : State) : exec (.threshWrite t v) s = run .aon t (fun c => c.threshWrite v.toNat) s := rfl
theorem exec_supplyWarningAssert (t : Nat) (s : State) : exec (.supplyWarningAssert t) s = run .aon t (fun c => c.warnAssert) s := rfl
theorem exec_supplyWarningClear (t : Nat) (s : State) : exec (.supplyWarningClear t) s = runS .aon t (fun c => c.warnClear) s := rfl
theorem exec_supplyHold (t : Nat) (s : State) : exec (.supplyHold t) s = runS .aon t (fun c => c.supplyHold) s := rfl
theorem exec_functionResetRequest (t : Nat) (f : Fin 16) (s : State) : exec (.functionResetRequest t f) s =
    runS .app t (fun c => (c.fnRequest f none false).visionCheck) s := rfl
theorem exec_idleAcknowledge (t : Nat) (f : Fin 10) (s : State) : exec (.idleAcknowledge t f) s = runS .app t (fun c => c.idleAck f) s := rfl
theorem exec_functionResetTimeout (t : Nat) (f : Fin 10) (s : State) :
    exec (.functionResetTimeout t f) s = runS .app t (fun c => c.fnTimeout f) s := rfl
theorem exec_motuDeferralTimeout (t : Nat) (s : State) : exec (.motuDeferralTimeout t) s = runS .app t (fun c => c.motuLate) s := rfl
theorem exec_motResetStartTimeout (t : Nat) (s : State) :
    exec (.motResetStartTimeout t) s = run .app t (fun c => c.motResetLate) s := rfl

/-! ### Which part of the chip runs (Table 03-7) -/

/-- The application side of a held chip does not run. -/
theorem Chip.app_not_live_of_held (c : Chip) (l : Nat) (h : c.sys.held = some l) : c.live .app = false := by
  unfold Chip.live
  rw [h]

/-- Every domain but the application side runs on a chip that no reset holds. -/
theorem Chip.live_of_free (c : Chip) (d : Domain) (free : c.sys.held = none) (hd : d ≠ .app) : c.live d = true := by
  unfold Chip.live
  rw [free]
  simp [hd]

/-- The application side runs only on a chip that no reset holds (Table 03-7). -/
theorem Chip.free_of_app (c : Chip) (h : c.live .app = true) : c.sys.held = none := by
  cases hh : c.sys.held with
  | none => rfl
  | some l => rw [Chip.app_not_live_of_held c l hh] at h; exact absurd h Bool.false_ne_true

/-! ### Fields of one register -/

theorem Chip.is_set_ne (c : Chip) (f g : Fld) (v : Nat) (h : g.addr ≠ f.addr) : (c.set f v).is g = c.is g := by
  unfold Chip.is
  rw [Chip.get_set_ne _ _ _ _ h]

theorem Chip.is_set_apart (c : Chip) (f g : Fld) (v : Nat) (h : f.lo + f.w ≤ 32) (ha : g.addr = f.addr)
    (hd : g.lo + g.w ≤ f.lo ∨ f.lo + f.w ≤ g.lo) : (c.set f v).is g = c.is g := by
  unfold Chip.is
  rw [Chip.get_set_apart _ _ _ _ h ha hd]

theorem Chip.get_put_ne (c : Chip) (f g : Fld) (b : Bool) (h : g.addr ≠ f.addr) : (c.put f b).get g = c.get g :=
  Chip.get_set_ne c f g (cond b 1 0) h

theorem Chip.get_put_apart (c : Chip) (f g : Fld) (b : Bool) (h : f.lo + f.w ≤ 32) (ha : g.addr = f.addr)
    (hd : g.lo + g.w ≤ f.lo ∨ f.lo + f.w ≤ g.lo) : (c.put f b).get g = c.get g :=
  Chip.get_set_apart c f g (cond b 1 0) h ha hd

/-- Every field of a register cleared as a whole reads 0. -/
theorem Chip.get_wr_zero (c : Chip) (f : Fld) : (c.wr f.addr 0).get f = 0 := by
  unfold Chip.get
  rw [Chip.rd_wr_self]
  simp [bitsOf]

/-- Registers are no memory. -/
@[simp] theorem Chip.wr_rdB (c : Chip) (a b : Nat) (v : Word) : (c.wr a v).rdB b = c.rdB b := rfl
@[simp] theorem Chip.set_rdB (c : Chip) (f : Fld) (v b : Nat) : (c.set f v).rdB b = c.rdB b := rfl
@[simp] theorem Chip.put_rdB (c : Chip) (f : Fld) (x : Bool) (b : Nat) : (c.put f x).rdB b = c.rdB b := rfl

theorem Chip.begin_rdB (c : Chip) (t a : Nat) : (c.begin t).rdB a = c.rdB a := by unfold Chip.rdB; rw [Chip.begin_mem]

/-! ### Commands that concern a few registers only -/

theorem OnlyRegs.refl (l : List Nat) (c : Chip) : OnlyRegs l c c := ⟨fun _ _ => rfl, ⟨fun _ => rfl, rfl, rfl⟩, rfl, rfl, rfl⟩

/-- A field set in one of the registers concerned leaves the others alone. -/
theorem OnlyRegs.set {l : List Nat} {c k : Chip} (h : OnlyRegs l c k) (f : Fld) (v : Nat) (hf : f.addr ∈ l) : OnlyRegs l c (k.set f v) := by
  obtain ⟨regs, store, rest⟩ := h
  exact ⟨fun a ha => (Chip.rd_set_ne k f v a (fun e => ha (e ▸ hf))).trans (regs a ha), store, rest⟩

/-- The latch of the interrupt lines and the gate of the outputs touch none of it. -/
theorem OnlyRegs.finish {l : List Nat} {c k : Chip} (h : OnlyRegs l c k) (a : Chip) : OnlyRegs l c (a.finish k) := by
  obtain ⟨regs, ⟨mem, nor, fuses⟩, flt, wqm, ledg⟩ := h
  refine ⟨fun x hx => ?_, ⟨fun x => ?_, ?_, ?_⟩, ?_, ?_, ?_⟩
  · rw [Chip.finish_rd, regs x hx]
  · rw [Chip.finish_rdB, mem x]
  · rw [Chip.finish_nor, nor]
  · rw [Chip.finish_fuses, fuses]
  · rw [Chip.finish_flt, flt]
  · rw [Chip.finish_wqm, wqm]
  · rw [Chip.finish_ledg, ledg]

/-! ### A chip-level reset (Table 03-7) -/

/-- A sparse map without the keys that `q` leaves out. -/
theorem sread_filter {α : Type} (d : Nat → α) (q : Nat → Bool) (m : List (Nat × α)) (a : Nat) :
    sread d (m.filter (fun p => q p.1)) a = if q a then sread d m a else d a := by
  induction m with
  | nil => simp [sread]
  | cons p m ih =>
    obtain ⟨k, v⟩ := p
    by_cases hk : k = a
    · subst hk
      cases hq : q k <;> simp [sread, hq, ih]
    · cases hq : q k <;> simp [sread, hq, hk, ih]

/-- Fields kept from before a reset are registers only. -/
theorem Chip.keepFields_eq (old : Chip) (fs : List Fld) : ∀ c : Chip, c.keepFields old fs = { c with regs := (c.keepFields old fs).regs } := by
  unfold Chip.keepFields
  induction fs with
  | nil => exact fun _ => rfl
  | cons f fs ih => exact fun c => ih (c.set f (old.get f))

/-- Registers without one of the kept fields read as they did. -/
theorem Chip.keepFields_rd_ne (old : Chip) (fs : List Fld) (a : Nat) (h : ∀ f ∈ fs, a ≠ f.addr) :
    ∀ c : Chip, (c.keepFields old fs).rd a = c.rd a := by
  unfold Chip.keepFields
  induction fs with
  | nil => exact fun _ => rfl
  | cons f fs ih =>
    intro c
    rw [List.foldl_cons, ih (fun g hg => h g (List.mem_cons_of_mem f hg)), Chip.rd_set_ne _ _ _ _ (h f List.mem_cons_self)]

@[simp] theorem Chip.keepFields_now (c old : Chip) (fs : List Fld) : (c.keepFields old fs).now = c.now := by rw [Chip.keepFields_eq]
@[simp] theorem Chip.keepFields_mem (c old : Chip) (fs : List Fld) : (c.keepFields old fs).mem = c.mem := by rw [Chip.keepFields_eq]
@[simp] theorem Chip.keepFields_nor (c old : Chip) (fs : List Fld) : (c.keepFields old fs).nor = c.nor := by rw [Chip.keepFields_eq]
@[simp] theorem Chip.keepFields_fuses (c old : Chip) (fs : List Fld) : (c.keepFields old fs).fuses = c.fuses := by rw [Chip.keepFields_eq]
@[simp] theorem Chip.keepFields_sys (c old : Chip) (fs : List Fld) : (c.keepFields old fs).sys = c.sys := by rw [Chip.keepFields_eq]
@[simp] theorem Chip.keepFields_flt (c old : Chip) (fs : List Fld) : (c.keepFields old fs).flt = c.flt := by rw [Chip.keepFields_eq]
@[simp] theorem Chip.keepFields_wqm (c old : Chip) (fs : List Fld) : (c.keepFields old fs).wqm = c.wqm := by rw [Chip.keepFields_eq]

@[simp] theorem Chip.chipReset_now (c : Chip) (l : Nat) : (c.chipReset l).now = if l = 0 then 0 else c.now := by
  unfold Chip.chipReset; dsimp only; rw [Chip.set_now]; split <;> simp
@[simp] theorem Chip.chipReset_mem (c : Chip) (l : Nat) :
    (c.chipReset l).mem = c.mem.filter (fun p => within p.1 0x10000000 0x10400000) := by
  unfold Chip.chipReset; dsimp only; rw [Chip.set_mem]; split <;> simp
@[simp] theorem Chip.chipReset_nor (c : Chip) (l : Nat) : (c.chipReset l).nor = c.nor := by
  unfold Chip.chipReset; dsimp only; rw [Chip.set_nor]; split <;> simp
@[simp] theorem Chip.chipReset_fuses (c : Chip) (l : Nat) : (c.chipReset l).fuses = c.fuses := by
  unfold Chip.chipReset; dsimp only; rw [Chip.set_fuses]; split <;> simp
@[simp] theorem Chip.chipReset_held (c : Chip) (l : Nat) : (c.chipReset l).sys.held = some l := by
  unfold Chip.chipReset; dsimp only; rw [Chip.set_sys]; split <;> simp
@[simp] theorem Chip.chipReset_flt (c : Chip) (l : Nat) : (c.chipReset l).flt = {} := by
  unfold Chip.chipReset; dsimp only; rw [Chip.set_flt]; split <;> simp
@[simp] theorem Chip.chipReset_wqm (c : Chip) (l : Nat) : (c.chipReset l).wqm = {} := by
  unfold Chip.chipReset; dsimp only; rw [Chip.set_wqm]; split <;> simp

/-- MRAM keeps its contents over every chip-level reset. -/
theorem Chip.chipReset_rdB (c : Chip) (l a : Nat) (h : within a 0x10000000 0x10400000 = true) : (c.chipReset l).rdB a = c.rdB a := by
  unfold Chip.rdB
  rw [Chip.chipReset_mem, sread_filter memDefault (fun x => within x 0x10000000 0x10400000), h, if_pos rfl]

theorem Chip.chipReset_lastLevel (c : Chip) (l : Nat) (h : l < 4) : (c.chipReset l).get SYS_RST_CAUSE_LAST_LEVEL = l :=
  (Chip.get_set_self _ SYS_RST_CAUSE_LAST_LEVEL l (by decide)).trans (Nat.mod_eq_of_lt h)

/-- After an L0 reset a register outside SYS_RST_CAUSE and VOTE_STAT reads its reset value. -/
theorem Chip.chipReset_zero_rd (c : Chip) (a : Nat) (hc : a ≠ SYS_RST_CAUSE_REG) (hv : a ≠ VOTE_STAT_REG) :
    (c.chipReset 0).rd a = resetWord a := by
  have kept : keptAt 0 a = false := by simp [keptAt]
  have votes : ∀ f ∈ [VOTE_STAT_MODE, VOTE_STAT_SUSPECT], a ≠ f.addr := by simp [hv]
  unfold Chip.chipReset; dsimp only
  rw [Chip.rd_set_ne _ _ _ _ hc, if_neg (by decide), Chip.keepFields_rd_ne _ _ _ votes]
  unfold Chip.rd; dsimp only
  rw [sread_filter resetWord (keptAt 0), kept, if_neg (by decide)]

/-- A reset asserted at L1 or L2 on a chip that none holds puts it into that level. -/
theorem Chip.resetAsserted_of_ne_zero (c : Chip) (l : Nat) (cause : Chip → Chip) (hh : c.sys.held = none) (h0 : l ≠ 0) :
    c.resetAsserted l cause = cause (c.chipReset l) := by
  unfold Chip.resetAsserted
  rw [hh]
  exact congrArg cause (if_neg h0)

/-- One at L0 clears SYS_RST_CAUSE besides (R64). -/
theorem Chip.resetAsserted_zero (c : Chip) (cause : Chip → Chip) (hh : c.sys.held = none) :
    c.resetAsserted 0 cause = cause ((c.chipReset 0).wr SYS_RST_CAUSE_REG 0) := by
  unfold Chip.resetAsserted
  rw [hh]
  exact congrArg cause (if_pos rfl)

/-- A reset asserted on a chip that none holds: the cause is recorded on a chip at that level whose MRAM, NOR and fuses are as they were. -/
theorem Chip.resetAsserted_of_free (c : Chip) (l : Nat) (cause : Chip → Chip) (hh : c.sys.held = none) (hl : l < 4) :
    ∃ k, c.resetAsserted l cause = cause k ∧ k.sys.held = some l ∧ k.get SYS_RST_CAUSE_LAST_LEVEL = l ∧
      (∀ a, within a 0x10000000 0x10400000 = true → k.rdB a = c.rdB a) ∧ k.nor = c.nor ∧ k.fuses = c.fuses := by
  by_cases h0 : l = 0
  · subst h0
    refine ⟨_, c.resetAsserted_zero cause hh, ?_, Chip.get_wr_zero _ SYS_RST_CAUSE_LAST_LEVEL, fun a ha => ?_, ?_, ?_⟩
    · rw [Chip.wr_sys, Chip.chipReset_held]
    · rw [Chip.wr_rdB, Chip.chipReset_rdB c 0 a ha]
    · rw [Chip.wr_nor, Chip.chipReset_nor]
    · rw [Chip.wr_fuses, Chip.chipReset_fuses]
  · exact ⟨_, c.resetAsserted_of_ne_zero l cause hh h0, c.chipReset_held l, c.chipReset_lastLevel l hl, c.chipReset_rdB l, c.chipReset_nor l,
      c.chipReset_fuses l⟩

/-! ### POWER_ON_RESET and RESET_N_RESET (R40, R49, R62, R64) -/

/-- The chip that POWER_ON_RESET gives where a rail was low. -/
theorem Chip.powerOn_of_low (c : Chip) (n : Nat) (h : n ≠ 0) :
    c.powerOn n = (((c.chipReset 0).wr SYS_RST_CAUSE_REG 0).put SYS_RST_CAUSE_POR true).set SYS_RST_CAUSE_POR_RAIL n := if_neg h

theorem Chip.powerOn_por (c : Chip) (n : Nat) (h : n ≠ 0) : (c.powerOn n).is SYS_RST_CAUSE_POR = true := by
  rw [Chip.powerOn_of_low c n h, Chip.is_set_apart _ SYS_RST_CAUSE_POR_RAIL SYS_RST_CAUSE_POR n (by decide) rfl (by decide),
    Chip.is_put_self _ _ _ rfl (by decide)]

theorem Chip.powerOn_rail (c : Chip) (n : Nat) (h : n ≠ 0) (hn : n < 2 ^ 9) : (c.powerOn n).get SYS_RST_CAUSE_POR_RAIL = n := by
  rw [Chip.powerOn_of_low c n h, Chip.get_set_self _ _ _ (by decide)]
  exact Nat.mod_eq_of_lt hn

theorem Chip.powerOn_lastLevel (c : Chip) (n : Nat) (h : n ≠ 0) : (c.powerOn n).get SYS_RST_CAUSE_LAST_LEVEL = 0 := by
  rw [Chip.powerOn_of_low c n h, Chip.get_set_apart _ SYS_RST_CAUSE_POR_RAIL SYS_RST_CAUSE_LAST_LEVEL n (by decide) rfl (by decide),
    Chip.get_put_apart _ SYS_RST_CAUSE_POR SYS_RST_CAUSE_LAST_LEVEL true (by decide) rfl (by decide)]
  exact Chip.get_wr_zero _ SYS_RST_CAUSE_LAST_LEVEL

theorem Chip.powerOn_rd (c : Chip) (n a : Nat) (h : n ≠ 0) (hc : a ≠ SYS_RST_CAUSE_REG) (hv : a ≠ VOTE_STAT_REG) :
    (c.powerOn n).rd a = resetWord a := by
  rw [Chip.powerOn_of_low c n h, Chip.put, Chip.rd_set_ne _ _ _ _ hc, Chip.rd_set_ne _ _ _ _ hc, Chip.rd_wr_ne _ _ _ _ hc,
    Chip.chipReset_zero_rd c a hc hv]

/-- A pulse shorter than 100 ns is none (R40). -/
theorem Chip.resetN_of_short (c : Chip) (width : Nat) (h : width < 100) : c.resetN width = c := by
  have short : decide (100 ≤ width) = false := decide_eq_false (by omega)
  have noLong : decide (1000 ≤ width) = false := decide_eq_false (by omega)
  simp [Chip.resetN, short, noLong]

/-- A pulse of 1 us or more resets at the level read from the fuses (R62). -/
theorem Chip.resetN_of_long (c : Chip) (width : Nat) (h : 1000 ≤ width) :
    c.resetN width = c.resetAsserted c.sys.resetNLevel (fun c => c.put SYS_RST_CAUSE_RESETN true) := by
  have long : decide (1000 ≤ width) = true := decide_eq_true h
  have sure : decide (width < 1000) = false := decide_eq_false (by omega)
  simp [Chip.resetN, long, sure]

/-- Between 100 ns and 1 us the free value decides (R40, log 10). -/
theorem Chip.resetN_of_between (c : Chip) (width : Nat) (h : 100 ≤ width) (h' : width < 1000) :
    c.resetN width = if Config.resetPulse c.free then c.tickFree.resetAsserted c.sys.resetNLevel (fun c => c.put SYS_RST_CAUSE_RESETN true)
      else c.tickFree := by
  have reached : decide (100 ≤ width) = true := decide_eq_true h
  have unsure : decide (width < 1000) = true := decide_eq_true h'
  have noLong : decide (1000 ≤ width) = false := decide_eq_false (by omega)
  simp [Chip.resetN, reached, unsure, noLong]

/-- With a rail low POWER_ON_RESET restarts TB_LOCAL, resets every register but those that record it, and keeps what no reset changes. -/
theorem powerOnReset_yields (s : State) (t : Nat) (rails : BitVec 9) (low : rails ≠ 0) : Yields (.powerOnReset t rails) s (fun k =>
    k.now = 0 ∧ k.sys.held = some 0 ∧ k.is SYS_RST_CAUSE_POR = true ∧ k.get SYS_RST_CAUSE_POR_RAIL = rails.toNat ∧
    k.get SYS_RST_CAUSE_LAST_LEVEL = 0 ∧ k.wqm = {} ∧ k.flt = {} ∧
    (∀ a, a ≠ SYS_RST_CAUSE_REG → a ≠ VOTE_STAT_MODE.addr → k.rd a = resetWord a) ∧
    (∀ a, within a 0x10000000 0x10400000 = true → k.rdB a = s.chip.rdB a) ∧ k.nor = s.chip.nor ∧ k.fuses = s.chip.fuses) := by
  have n0 : rails.toNat ≠ 0 := fun h => low (BitVec.eq_of_toNat_eq h)
  have eq := (s.chip.begin t).powerOn_of_low rails.toNat n0
  have gives : Gives (.powerOnReset t rails) s t ((s.chip.begin t).powerOn rails.toNat) := .ofRunAny (exec_powerOnReset ..) rfl
  refine gives.yields ⟨?_, ?_, ?_, ?_, ?_, ?_, ?_, fun a hc hv => ?_, fun a ha => ?_, ?_, ?_⟩
  · rw [Chip.finish_now, eq, Chip.set_now, Chip.put_now, Chip.wr_now, Chip.chipReset_now, if_pos rfl]
  · rw [Chip.finish_sys, eq, Chip.set_sys, Chip.put_sys, Chip.wr_sys, Chip.chipReset_held]
  · rw [Chip.finish_is, Chip.powerOn_por _ _ n0]
  · rw [Chip.finish_get, Chip.powerOn_rail _ _ n0 rails.isLt]
  · rw [Chip.finish_get, Chip.powerOn_lastLevel _ _ n0]
  · rw [Chip.finish_wqm, eq, Chip.set_wqm, Chip.put_wqm, Chip.wr_wqm, Chip.chipReset_wqm]
  · rw [Chip.finish_flt, eq, Chip.set_flt, Chip.put_flt, Chip.wr_flt, Chip.chipReset_flt]
  · rw [Chip.finish_rd, Chip.powerOn_rd _ _ a n0 hc hv]
  · rw [Chip.finish_rdB, eq, Chip.set_rdB, Chip.put_rdB, Chip.wr_rdB, Chip.chipReset_rdB _ 0 a ha, Chip.begin_rdB]
  · rw [Chip.finish_nor, eq, Chip.set_nor, Chip.put_nor, Chip.wr_nor, Chip.chipReset_nor, Chip.begin_nor]
  · rw [Chip.finish_fuses, eq, Chip.set_fuses, Chip.put_fuses, Chip.wr_fuses, Chip.chipReset_fuses, Chip.begin_fuses]

/-- A pulse of 1 us or more on a chip that no reset holds sets RESETN at the fuses' level. -/
theorem resetNReset_yields (s : State) (t width : Nat) (long : 1000 ≤ width) (free : (s.chip.begin t).sys.held = none)
    (level : (s.chip.begin t).sys.resetNLevel < 3) : Yields (.resetNReset t width) s (fun k =>
      k.sys.held = some (s.chip.begin t).sys.resetNLevel ∧ k.is SYS_RST_CAUSE_RESETN = true ∧
      k.get SYS_RST_CAUSE_LAST_LEVEL = (s.chip.begin t).sys.resetNLevel ∧
      (∀ a, within a 0x10000000 0x10400000 = true → k.rdB a = (s.chip.begin t).rdB a) ∧ k.nor = (s.chip.begin t).nor ∧
      k.fuses = (s.chip.begin t).fuses) := by
  obtain ⟨k, hk, held, last, mram, nor, fuses⟩ := Chip.resetAsserted_of_free _ _ (fun c => c.put SYS_RST_CAUSE_RESETN true) free
    (Nat.lt_succ_of_lt level)
  have gives : Gives (.resetNReset t width) s t (k.put SYS_RST_CAUSE_RESETN true) :=
    .ofRunAny (exec_resetNReset ..) ((Chip.resetN_of_long _ width long).trans hk)
  refine gives.yields ⟨?_, ?_, ?_, fun a ha => ?_, ?_, ?_⟩
  · rw [Chip.finish_sys, Chip.put_sys, held]
  · rw [Chip.finish_is, Chip.is_put_self _ _ _ rfl (by decide)]
  · rw [Chip.finish_get, Chip.get_put_apart _ SYS_RST_CAUSE_RESETN SYS_RST_CAUSE_LAST_LEVEL true (by decide) rfl (by decide), last]
  · rw [Chip.finish_rdB, Chip.put_rdB, mram a ha]
  · rw [Chip.finish_nor, Chip.put_nor, nor]
  · rw [Chip.finish_fuses, Chip.put_fuses, fuses]

/-- Settles O1: what `chipReset` keeps and clears, under the bits of the two causes. -/
theorem chipResets : Obligations.ChipResets := by
  unfold Obligations.ChipResets
  refine ⟨fun s t rails => ⟨powerOnReset_yields s t rails, fun h0 => ?noRail⟩, ?resetN⟩
  case noRail =>
    subst h0
    exact .ofRunAny (exec_powerOnReset ..) (if_pos rfl)
  case resetN =>
    rintro s t width c rfl
    refine ⟨fun short => ?_, resetNReset_yields s t width, fun reached unsure free level2 => ?_⟩
    · exact .ofRunAny (exec_resetNReset ..) (Chip.resetN_of_short _ width short)
    · refine .ofRunAny (exec_resetNReset ..) ((Chip.resetN_of_between _ width reached unsure).trans ?_)
      rw [level2, Chip.resetAsserted_of_ne_zero (s.chip.begin t).tickFree 2 _ free (by decide)]

end Sys2Proof.Machine

/-! ## The supply supervisor (spec/03 R50 to R60) -/

namespace Sys2Proof.Machine

/-! ### The VSENSE sample (R50, R51, R55) -/

@[simp] theorem Chip.warnFilters_get (c : Chip) (f : Fld) : c.warnFilters.get f = c.get f := rfl
@[simp] theorem Chip.warnFilters_is (c : Chip) (f : Fld) : c.warnFilters.is f = c.is f := rfl

/-- The filters of the warning are no register. -/
theorem OnlyRegs.warnFilters {l : List Nat} {c k : Chip} (h : OnlyRegs l c k) : OnlyRegs l c k.warnFilters := by
  obtain ⟨regs, ⟨mem, nor, fuses⟩, flt, wqm, ledg⟩ := h
  exact ⟨regs, ⟨mem, nor, fuses⟩, flt, wqm, ledg⟩

/-- Outside a dip a sample is shown with its energy and goes to the filters. -/
theorem Chip.vsense_of_noWarn (c : Chip) (mv : Nat) (h : c.is SUP_STATUS_WARN = false) :
    c.vsense mv = ((c.set SUP_STATUS_VSENSE_MV (min mv 1250)).energyShow).warnFilters := by
  have noWarn : ((c.set SUP_STATUS_VSENSE_MV (min mv 1250)).energyShow).warnFilters.is SUP_STATUS_WARN = false := by
    rw [Chip.warnFilters_is, Chip.energyShow, Chip.is_set_ne _ _ _ _ (by decide),
      Chip.is_set_apart _ SUP_STATUS_VSENSE_MV SUP_STATUS_WARN _ (by decide) rfl (by decide), h]
  unfold Chip.vsense
  dsimp only
  rw [noWarn, if_neg Bool.false_ne_true]

/-- The energy at a sample just shown (R51, log 61). -/
theorem Chip.energy_set_vsense (c : Chip) (v b m : Nat) (hv : v < 2 ^ 12) (hb : b = v * c.get SUP_HOLDUP_CFG0_DIV)
    (hm : m = c.get SUP_HOLDUP_CFG1_V_MIN * 1000) : (c.set SUP_STATUS_VSENSE_MV v).energy =
      if b ≤ m then 0 else c.get SUP_HOLDUP_CFG1_EFF *
        (if c.sup.capLow then c.get SUP_CAPCHK_C_MEAS else c.get SUP_HOLDUP_CFG0_C_HOLD) * (b * b - m * m) / 200000000000 := by
  have shown : (c.set SUP_STATUS_VSENSE_MV v).get SUP_STATUS_VSENSE_MV = v :=
    (Chip.get_set_self _ _ _ (by decide)).trans (Nat.mod_eq_of_lt hv)
  subst hb hm
  unfold Chip.energy Chip.busOf Chip.capInUse
  rw [shown, Chip.set_sup, Chip.get_set_ne _ _ SUP_HOLDUP_CFG0_DIV _ (by decide), Chip.get_set_ne _ _ SUP_HOLDUP_CFG1_V_MIN _ (by decide),
    Chip.get_set_ne _ _ SUP_HOLDUP_CFG1_EFF _ (by decide), Chip.get_set_ne _ _ SUP_CAPCHK_C_MEAS _ (by decide),
    Chip.get_set_ne _ _ SUP_HOLDUP_CFG0_C_HOLD _ (by decide)]

theorem Chip.energyShow_get (c : Chip) : c.energyShow.get SUP_HOLDUP_E_E_AVAIL_UJ = min c.energy (2 ^ 24 - 1) :=
  (Chip.get_set_self _ _ _ (by decide)).trans (Nat.mod_eq_of_lt (Nat.lt_of_le_of_lt (Nat.min_le_right _ _) (by decide)))

/-- A sample outside a dip writes SUP_STATUS and SUP_HOLDUP_E. -/
theorem holdupEnergyUpdate_yields (s : State) (t mv b m : Nat) (c : Chip) (hc : c = s.chip.begin t) (live : c.live .aon = true)
    (noWarn : c.is SUP_STATUS_WARN = false) (hb : b = min mv 1250 * c.get SUP_HOLDUP_CFG0_DIV)
    (hm : m = c.get SUP_HOLDUP_CFG1_V_MIN * 1000) : Yields (.holdupEnergyUpdate t mv) s (fun k =>
      k.get SUP_STATUS_VSENSE_MV = min mv 1250 ∧
      k.get SUP_HOLDUP_E_E_AVAIL_UJ = min (if b ≤ m then 0 else c.get SUP_HOLDUP_CFG1_EFF *
        (if c.sup.capLow then c.get SUP_CAPCHK_C_MEAS else c.get SUP_HOLDUP_CFG0_C_HOLD) * (b * b - m * m) / 200000000000) (2 ^ 24 - 1) ∧
      OnlyRegs [SUP_STATUS_VSENSE_MV.addr, SUP_HOLDUP_E_E_AVAIL_UJ.addr] c k) := by
  have inField : min mv 1250 < 2 ^ 12 := by omega
  have gives : Gives (.holdupEnergyUpdate t mv) s t ((c.set SUP_STATUS_VSENSE_MV (min mv 1250)).energyShow).warnFilters :=
    .ofRun (exec_holdupEnergyUpdate ..) (hc ▸ live) (hc ▸ Chip.vsense_of_noWarn c mv noWarn)
  refine gives.yields ⟨?_, ?_, OnlyRegs.finish (OnlyRegs.warnFilters ?_) _⟩
  · rw [Chip.finish_get, Chip.warnFilters_get, Chip.energyShow, Chip.get_set_ne _ _ SUP_STATUS_VSENSE_MV _ (by decide),
      Chip.get_set_self _ _ _ (by decide)]
    exact Nat.mod_eq_of_lt inField
  · rw [Chip.finish_get, Chip.warnFilters_get, Chip.energyShow_get, Chip.energy_set_vsense c _ b m inField hb hm]
  · exact ((OnlyRegs.refl _ c).set _ _ (by simp)).set _ _ (by simp)

/-! ### THRESH_WRITE (R56) -/

/-- A THRESH in range is taken, after CFG_ERR has cleared by a 1. -/
theorem Chip.threshWrite_of_inRange (c : Chip) (v : Nat) (hl : 300 ≤ bitsOf v 0 11) (hu : bitsOf v 0 11 ≤ 1100) :
    c.threshWrite v = ((if bitAt v 16 then c.put SUP_VSENSE_CFG_CFG_ERR false else c).set SUP_VSENSE_CFG_THRESH_MV
      (bitsOf v 0 11)).warnFilters := if_pos ⟨hl, hu⟩

/-- Any other THRESH sets CFG_ERR. -/
theorem Chip.threshWrite_of_outside (c : Chip) (v : Nat) (h : bitsOf v 0 11 < 300 ∨ 1100 < bitsOf v 0 11) :
    c.threshWrite v = (if bitAt v 16 then c.put SUP_VSENSE_CFG_CFG_ERR false else c).put SUP_VSENSE_CFG_CFG_ERR true :=
  if_neg (by omega)

/-- Putting CFG_ERR, again and again, leaves THRESH and every other register alone. -/
theorem Chip.put_cfgErr_frame {c k : Chip} (b : Bool)
    (h : k.get SUP_VSENSE_CFG_THRESH_MV = c.get SUP_VSENSE_CFG_THRESH_MV ∧ OnlyRegs [SUP_VSENSE_CFG_CFG_ERR.addr] c k) :
    (k.put SUP_VSENSE_CFG_CFG_ERR b).get SUP_VSENSE_CFG_THRESH_MV = c.get SUP_VSENSE_CFG_THRESH_MV ∧
      OnlyRegs [SUP_VSENSE_CFG_CFG_ERR.addr] c (k.put SUP_VSENSE_CFG_CFG_ERR b) := by
  obtain ⟨thresh, frame⟩ := h
  refine ⟨?_, frame.set _ _ (by simp)⟩
  rw [Chip.get_put_apart _ SUP_VSENSE_CFG_CFG_ERR SUP_VSENSE_CFG_THRESH_MV b (by decide) rfl (by decide), thresh]

/-- A THRESH out of range leaves THRESH as it was, whether or not a 1 cleared CFG_ERR first. -/
theorem Chip.threshWrite_outside_frame (c : Chip) (v : Nat) (h : bitsOf v 0 11 < 300 ∨ 1100 < bitsOf v 0 11) :
    (c.threshWrite v).get SUP_VSENSE_CFG_THRESH_MV = c.get SUP_VSENSE_CFG_THRESH_MV ∧
      OnlyRegs [SUP_VSENSE_CFG_CFG_ERR.addr] c (c.threshWrite v) := by
  rw [Chip.threshWrite_of_outside c v h]
  split
  · exact Chip.put_cfgErr_frame true (Chip.put_cfgErr_frame false ⟨rfl, .refl _ _⟩)
  · exact Chip.put_cfgErr_frame true ⟨rfl, .refl _ _⟩

theorem Chip.threshWrite_outside_cfgErr (c : Chip) (v : Nat) (h : bitsOf v 0 11 < 300 ∨ 1100 < bitsOf v 0 11) :
    (c.threshWrite v).is SUP_VSENSE_CFG_CFG_ERR = true := by
  rw [Chip.threshWrite_of_outside c v h, Chip.is_put_self _ _ _ rfl (by decide)]

/-- Settles O3: the reads of `vsense` and `threshWrite`, and that each writes its own registers only. -/
theorem supplyMeasurement : Obligations.SupplyMeasurement := by
  unfold Obligations.SupplyMeasurement
  refine ⟨holdupEnergyUpdate_yields, ?thresh⟩
  rintro s t v c rfl live
  refine ⟨fun hl hu bit => ?_, fun hl hu bit => ?_, fun out => ?_⟩
  · refine .ofRun (exec_threshWrite ..) live ?_
    rw [Chip.threshWrite_of_inRange _ _ hl hu, bit, if_neg Bool.false_ne_true]
  · refine .ofRun (exec_threshWrite ..) live ?_
    rw [Chip.threshWrite_of_inRange _ _ hl hu, bit, if_pos rfl]
  · have gives : Gives (.threshWrite t v) s t ((s.chip.begin t).threshWrite v.toNat) := .ofRun (exec_threshWrite ..) live rfl
    obtain ⟨thresh, only⟩ := Chip.threshWrite_outside_frame (s.chip.begin t) v.toNat out
    refine gives.yields ⟨?_, ?_, only.finish _⟩
    · rw [Chip.finish_is, Chip.threshWrite_outside_cfgErr _ _ out]
    · rw [Chip.finish_get, thresh]

end Sys2Proof.Machine

/-! ### The supply warning (R55 to R59) -/

namespace Sys2Proof.Machine

/-- 20 us below THRESH assert the warning (R56). -/
theorem Chip.warnAssert_of_due (c : Chip) (a : Nat) (below : c.sup.belowSince = some a) (noWarn : c.is SUP_STATUS_WARN = false)
    (due : 20000 ≤ c.now - a) : c.warnAssert =
      ({ c with sup := { c.sup with
                            warnSince := c.now
                            dipStart := c.get SUP_STATUS_VSENSE_MV
                            dipMin := c.get SUP_STATUS_VSENSE_MV
                            dipMinAt := c.now
                            dipMinE := c.get SUP_HOLDUP_E_E_AVAIL_UJ } } : Chip).put SUP_STATUS_WARN true := by
  unfold Chip.warnAssert
  rw [below]
  exact if_pos ⟨Bool.eq_false_iff.mp noWarn, due⟩

theorem Chip.warnAssert_of_early (c : Chip) (a : Nat) (below : c.sup.belowSince = some a) (early : c.now - a < 20000) :
    c.warnAssert = c := by
  unfold Chip.warnAssert
  rw [below]
  exact if_neg (fun h => absurd h.2 (by omega))

/-- 5 ms above THRESH + 20 mV end the dip (R56). -/
theorem Chip.warnClear_of_due (c : Chip) (a : Nat) (warn : c.is SUP_STATUS_WARN = true) (above : c.sup.aboveSince = some a)
    (due : 5000000 ≤ c.now - a) : c.warnClear = if c.dipEnd.live .app then c.dipEnd.startAll else c.dipEnd := by
  have cleared : c.warnOver = true := by
    unfold Chip.warnOver
    rw [warn, above]
    exact decide_eq_true due
  exact if_pos cleared

/-- 200 ms of warning set SUPPLY_HOLD and raise F0102; a running application side then stops its axes and tries a handover (R59). -/
theorem Chip.supplyHold_of_due (c k : Chip) (hk : k = (c.put SUP_STATUS_HOLD true).raise 0x0102) (warn : c.is SUP_STATUS_WARN = true)
    (noHold : c.is SUP_STATUS_HOLD = false) (due : 200000000 ≤ c.now - c.sup.warnSince) : c.supplyHold = if k.live .app then
      ([0, 1, 2, 3].foldl (fun c n => if (c.ax n).v = 0 then c else (c.put (MOT_AX_TRIP_RET_EN n) false).emergency n none) k).autoHandover
    else k := by
  subst hk
  exact if_pos ⟨warn, Bool.eq_false_iff.mp noHold, due⟩

theorem Chip.supplyHold_of_early (c : Chip) (early : c.now - c.sup.warnSince < 200000000) : c.supplyHold = c :=
  if_neg (fun h => absurd h.2.2 (by omega))

/-- SUPPLY_HOLD and its fault leave running what ran. -/
theorem Chip.hold_live (c : Chip) (d : Domain) : ((c.put SUP_STATUS_HOLD true).raise 0x0102).live d = c.live d := by
  unfold Chip.live
  rw [Chip.raise_sys, Chip.put_sys]

/-- Axes at standstill need no stop. -/
theorem Chip.stop_of_standing (c : Chip) (stop : Chip → Nat → Chip) (h : ∀ n < 4, (c.ax n).v = 0) :
    [0, 1, 2, 3].foldl (fun c n => if (c.ax n).v = 0 then c else stop c n) c = c := by
  simp [h]

/-- Settles O4: each command with its time run, and before it. -/
theorem supplyWarning : Obligations.SupplyWarning := by
  unfold Obligations.SupplyWarning
  refine ⟨?warning, ?running⟩
  case warning =>
    rintro s t a c rfl live
    refine ⟨fun below noWarn due => ?_, fun below early => ?_, fun warn above due idle => ?_, fun warn above due app => ?_,
      fun warn noHold due held => ?_, fun _ early => ?_⟩
    · exact .ofRun (exec_supplyWarningAssert ..) live (Chip.warnAssert_of_due _ a below noWarn due)
    · exact .ofRun (exec_supplyWarningAssert ..) live (Chip.warnAssert_of_early _ a below early)
    · refine .ofRunS (exec_supplyWarningClear ..) live ?_
      rw [Chip.warnClear_of_due _ a warn above due, idle, if_neg Bool.false_ne_true]
    · refine .ofRunS (exec_supplyWarningClear ..) live ?_
      rw [Chip.warnClear_of_due _ a warn above due, app, if_pos rfl]
    · refine .ofRunS (exec_supplyHold ..) live ?_
      rw [Chip.supplyHold_of_due _ _ rfl warn noHold due, Chip.hold_live, Chip.app_not_live_of_held _ 1 held, if_neg Bool.false_ne_true]
    · exact .ofRunS (exec_supplyHold ..) live (Chip.supplyHold_of_early _ early)
  case running =>
    rintro s t c rfl live warn noHold due standing
    have runs : (s.chip.begin t).live .aon = true := Chip.live_of_free _ .aon (Chip.free_of_app _ live) (by decide)
    refine .ofRunS (exec_supplyHold ..) runs ?_
    have still : ∀ n < 4, ((((s.chip.begin t).put SUP_STATUS_HOLD true).raise 0x0102).ax n).v = 0 := by
      intro n hn
      unfold Chip.ax
      rw [Chip.raise_axes, Chip.put_axes]
      exact standing n hn
    rw [Chip.supplyHold_of_due _ _ rfl warn noHold due, Chip.hold_live, live, if_pos rfl, Chip.stop_of_standing _ _ still]

end Sys2Proof.Machine

/-! ## Start-up (spec/03 R62, R64, R68 to R73, spec/17 R389) -/

namespace Sys2Proof.Machine

/-- Once started, or in the boot ROM, the release has no effect. -/
theorem Chip.startUp_of_started (c : Chip) (e : StartUp) (free : c.sys.held = none)
    (started : c.sys.started = true ∨ c.sys.bootWait = true) : c.startUp e = c := if_pos ⟨by rw [free]; rfl, started⟩

/-- The steps of Table 03-11 in their order. -/
theorem Chip.startUp_of_released (c m l1 l2 l3 : Chip) (e : StartUp) (lv : Nat)
    (due : c.sys.held ≠ none ∨ (c.sys.started = false ∧ c.sys.bootWait = false)) (hlv : lv = c.sys.held.getD 0)
    (hm : m = (if lv = 0 then { c with now := 0, tbVeh := 0 } else c).released.straps e.straps.toNat e.strapStable)
    (h1 : l1 = (if lv = 2 then m.clkShow else m.refEnd e.refOk)) (h2 : l2 = l1.journalScan.ledgerScan.updScan)
    (h3 : l3 = (l2.loadGroup (lv == 2)).bootSource) : c.startUp e =
      if l3.sys.bootWait then
        (if l3.get SYS_BOOT_STAT_SOURCE = 2 then (l3.putBit CON_SESS_STAT_OPEN 0 true).putBit CON_SESS_STAT_GEN 0 true else l3)
      else (if l3.sys.fromNor ∧ lv ≠ 2 then l3.islandStart e.selfTest e.inputs.toNat else l3).appStart e.ddrTrains := by
  have runs : ¬(c.sys.held.isNone = true ∧ (c.sys.started = true ∨ c.sys.bootWait = true)) := by
    rintro ⟨free, started⟩
    rcases due with held | ⟨notStarted, notWaiting⟩
    · exact held (Option.isNone_iff_eq_none.mp free)
    · simp [notStarted, notWaiting] at started
  subst h3 h2 h1 hm hlv
  exact if_neg runs

/-- The straps are latched once, before the start-up goes on (R68). -/
theorem Chip.straps_of_stable (c : Chip) (levels : Nat) (before : ¬(c.sys.started = true ∨ c.sys.bootWait = true ∨ c.sys.strapped = true)) :
    c.straps levels true = ((({ c with sys := { c.sys with strapped := true } } : Chip).set SYS_STRAP_BOOT levels).set SYS_STRAP_CLKMODE
      (levels / 4)).set SYS_STRAP_SIDE (levels / 16) := if_neg before

theorem Chip.straps_of_unstable (c : Chip) (levels : Nat)
    (before : ¬(c.sys.started = true ∨ c.sys.bootWait = true ∨ c.sys.strapped = true)) :
    c.straps levels false = ((({ c with sys := { c.sys with strapped := true }, free := c.free + 1 } : Chip).set SYS_STRAP_BOOT
      (Config.strapSample c.free).toNat).set SYS_STRAP_CLKMODE ((Config.strapSample c.free).toNat / 4)).set SYS_STRAP_SIDE
      ((Config.strapSample c.free).toNat / 16) := if_neg before

/-- SAFE_CLK_OK follows a reference that has just been put, where the mode permits safety functions (R69). -/
theorem Chip.clkShow_put (c : Chip) (b : Bool) : (c.put SYS_CLK_STAT_REF_OK b).clkShow =
    (c.put SYS_CLK_STAT_REF_OK b).put SYS_CLK_STAT_SAFE_CLK_OK (b && c.get SYS_STRAP_CLKMODE != 3) := by
  unfold Chip.clkShow
  rw [Chip.is_put_self _ _ _ rfl (by decide), Chip.get_put_ne _ _ SYS_STRAP_CLKMODE _ (by decide)]

theorem Chip.refQualify_of_open (c : Chip) (before : ¬(c.sys.started = true ∨ c.sys.bootWait = true ∨ c.sys.refClosed = true))
    (mode : c.get SYS_STRAP_CLKMODE ≠ 3) :
    c.refQualify = (c.put SYS_CLK_STAT_REF_OK true).put SYS_CLK_STAT_SAFE_CLK_OK true := by
  unfold Chip.refQualify
  rw [if_neg (by tauto), Chip.clkShow_put, bne_iff_ne.mpr mode, Bool.true_and]

/-- A reference in use that fails stays closed (R70). -/
theorem Chip.refFault_of_ok (c : Chip) (ok : c.is SYS_CLK_STAT_REF_OK = true) : c.refFault =
    (((({ c with sys := { c.sys with refClosed := true } } : Chip).put SYS_CLK_STAT_REF_OK false).put SYS_CLK_STAT_SAFE_CLK_OK
      false).raise 0x0201) := by
  unfold Chip.refFault
  dsimp only
  rw [if_pos ok, Chip.clkShow_put, Bool.false_and]

/-- The fuse is programmed once (R62). -/
theorem Chip.rstmapProgram_of_blank (c : Chip) (level : Nat) (h : c.fuses.rstmap = none) :
    c.rstmapProgram level = { c with fuses := { c.fuses with rstmap := some level } } := by
  unfold Chip.rstmapProgram
  rw [h]

theorem Chip.rstmapProgram_of_programmed (c : Chip) (level x : Nat) (h : c.fuses.rstmap = some x) : c.rstmapProgram level = c := by
  unfold Chip.rstmapProgram
  rw [h]

/-- Settles O2: the steps of the start-up sequence, and the commands before it. -/
theorem startUpSteps : Obligations.StartUpSteps := by
  unfold Obligations.StartUpSteps
  refine ⟨?release, ?before⟩
  case release =>
    rintro s t e c m l1 l2 l3 lv rfl
    refine ⟨fun free started => ?_, fun due hlv hm h1 h2 h3 => ?_⟩
    · exact .ofRunAny (exec_resetRelease ..) (congrArg Chip.settle (Chip.startUp_of_started _ e free started))
    · exact .ofRunAny (exec_resetRelease ..) (congrArg Chip.settle (Chip.startUp_of_released _ m l1 l2 l3 e lv due hlv hm h1 h2 h3))
  case before =>
    rintro s t c rfl
    refine ⟨fun levels stable free notStarted notWaiting fresh => ?straps, fun free notStarted notWaiting notClosed mode => ?qualify,
      fun live ok => ?fault, fun level live blank => ?program, fun level x live done => ?again⟩
    case straps =>
      have live := Chip.live_of_free _ .clock free (by decide)
      have before : ¬((s.chip.begin t).sys.started = true ∨ (s.chip.begin t).sys.bootWait = true ∨ (s.chip.begin t).sys.strapped = true) := by
        simp [notStarted, notWaiting, fresh]
      have taken : ∀ b, Gives (.strapSample t levels b) s t ((s.chip.begin t).straps levels.toNat b) := fun b =>
        .ofRun (exec_strapSample ..) live (if_neg (by simp [free]))
      refine ⟨?_, ?_⟩
      · rintro rfl
        exact Chip.straps_of_stable _ _ before ▸ taken true
      · rintro rfl
        exact Chip.straps_of_unstable _ _ before ▸ taken false
    case qualify =>
      exact .ofRun (exec_referenceQualify ..) (Chip.live_of_free _ .clock free (by decide))
        (Chip.refQualify_of_open _ (by simp [notStarted, notWaiting, notClosed]) mode)
    case fault => exact .ofRun (exec_referenceFault ..) live (Chip.refFault_of_ok _ ok)
    case program => exact .ofRun (exec_rstmapProgram ..) live (Chip.rstmapProgram_of_blank _ _ blank)
    case again => exact .ofRun (exec_rstmapProgram ..) live (Chip.rstmapProgram_of_programmed _ _ x done)

end Sys2Proof.Machine

/-! ## Per-function resets (spec/03 R65 to R67, spec/01 R25, spec/20 R467, spec/21 R483) -/

namespace Sys2Proof.Machine

/-! ### Requests (R65, R67, R25) -/

/-- A request of what is being reset already is in vain (R67). -/
theorem Chip.fnRequest_of_busy (c : Chip) (f : Nat) (byFault : Bool) (hf : f < 10) (busy : c.fnBusy f = true) :
    c.fnRequest f none byFault = c := by
  unfold Chip.fnRequest
  dsimp only
  rw [if_neg (by omega), if_pos (.inl busy)]
  rfl

/-- What has no start condition begins at once. -/
theorem Chip.fnRequest_of_idle (c : Chip) (f : Nat) (slot : Option Nat) (byFault : Bool) (hl : 2 ≤ f) (hu : f < 10)
    (idle : c.fnBusy f = false) :
    c.fnRequest f slot byFault = c.fnBegin { func := f, since := c.now, slot := slot, byFault := byFault, acked := false } := by
  have free : ¬(c.fnBusy f = true ∨ (f = 1 ∧ c.sys.motuDeferred.isSome = true)) := by
    simp [idle, show f ≠ 1 by omega]
  unfold Chip.fnRequest
  dsimp only
  rw [if_neg (by omega), if_neg free, if_neg (by omega), if_neg (by omega)]

/-- FBK begins in its start condition (Table 03-8). -/
theorem Chip.fnRequest_fbk_of_may (c : Chip) (slot : Option Nat) (byFault : Bool) (idle : c.fnBusy 0 = false) (may : c.fbkMayReset = true) :
    c.fnRequest 0 slot byFault = c.fnBegin { func := 0, since := c.now, slot := slot, byFault := byFault, acked := false } := by
  unfold Chip.fnRequest
  simp [idle, may]

theorem Chip.fnRequest_fbk_of_not (c : Chip) (byFault : Bool) (mayNot : c.fbkMayReset = false) : c.fnRequest 0 none byFault = c := by
  unfold Chip.fnRequest
  simp [mayNot, Chip.fnAnswer]

/-- MOT is deferred, and begins at once where its conditions hold already (R25). -/
theorem Chip.fnRequest_mot (c : Chip) (idle : c.fnBusy 1 = false) (free : c.sys.motuDeferred = none) : c.fnRequest 1 none false =
    ({ c with sys := { c.sys with
        motuDeferred := some ({ func := 1, since := c.now, slot := none, byFault := false, acked := false }, false) } } : Chip).motuTry := by
  unfold Chip.fnRequest
  simp [idle, free]

/-! ### The end of a reset (R65, R467) -/

/-- Where the loader's boot-pointer store may start, the function is reset, released and loaded. -/
theorem Chip.fnEnd_of_gateOpen (c k : Chip) (r : FnReset) (tmo : Bool)
    (hk : k = if tmo then ((c.put (SYS_FRST_LOG_LAST_TMO r.func) tmo).incSat (SYS_FRST_LOG_TMO_COUNT r.func)).raiseArg 0x0210 0 r.func
      else c.put (SYS_FRST_LOG_LAST_TMO r.func) tmo)
    (gate : k.gateOpen .pointer = true) : c.fnEnd r tmo = k.fnRelease r := by
  have noWait : ¬((funcImages r.func).any (fun i => k.loadStores i) = true ∧ k.gateOpen .pointer = false) := by
    simp [gate]
  subst hk
  exact if_neg noWait

theorem Chip.idleAck_of_waiting (c : Chip) (f : Nat) (r : FnReset) (h : c.fnWaiting f = some r) : c.idleAck f = c.fnEnd r false := by
  unfold Chip.idleAck
  rw [h]

theorem Chip.fnTimeout_of_waiting (c : Chip) (f : Nat) (r : FnReset) (h : c.fnWaiting f = some r) :
    c.fnTimeout f = if c.get (SYS_FRST_TMO_TMO f) * 100000 ≤ c.now - r.since then c.fnEnd r true else c := by
  unfold Chip.fnTimeout
  rw [h]

/-! ### The deferral of MOT (R25, R483) -/

/-- 60 s end the deferral of a reset that a command asked for. -/
theorem Chip.motuLate_of_due (c : Chip) (r : FnReset) (h : c.sys.motuDeferred = some (r, false)) (due : 60000000000 ≤ c.now - r.since) :
    c.motuLate = ({ c with sys := { c.sys with motuDeferred := none } } : Chip).fnAnswer r.slot 605 "" := by
  unfold Chip.motuLate
  rw [h]
  exact if_pos due

theorem Chip.motuLate_of_early (c : Chip) (r : FnReset) (b : Bool) (h : c.sys.motuDeferred = some (r, b))
    (early : c.now - r.since < 60000000000) : c.motuLate = c := by
  unfold Chip.motuLate
  rw [h]
  exact if_neg (by omega)

/-- 2 s end the wait of a MOT fault for standstill with the S4 action. -/
theorem Chip.motResetLate_of_due (c : Chip) (code a : Nat) (h : c.flt.motWait = [(code, a)]) (due : 2000000000 ≤ c.now - a) :
    c.motResetLate = ({ c with flt := { c.flt with motWait := [] } } : Chip).toSafe code := by
  unfold Chip.motResetLate
  simp [h, due]

theorem Chip.motResetLate_of_early (c : Chip) (code a : Nat) (h : c.flt.motWait = [(code, a)]) (early : c.now - a < 2000000000) :
    c.motResetLate = c := by
  have unchanged : ({ c with flt := { c.flt with motWait := [(code, a)] } } : Chip) = c := by rw [← h]
  unfold Chip.motResetLate
  simp [h, Nat.not_le.mpr early, unchanged]

/-- Settles O5: a request by the function asked for, the ends of a reset by the gate, and the two deadlines of MOT. -/
theorem functionResets : Obligations.FunctionResets := by
  unfold Obligations.FunctionResets
  refine ⟨?request, ?ending, ?deferral⟩
  case request =>
    rintro s t f c r rfl live rfl
    have gives : ∀ k, (s.chip.begin t).fnRequest f none false = k → Gives (.functionResetRequest t f) s t k.visionCheck.settle :=
      fun k hk => .ofRunS (exec_functionResetRequest ..) live (congrArg Chip.visionCheck hk)
    refine ⟨fun hl hu idle => ?_, fun hu busy => ?_, fun h0 idle may => ?_, fun h0 mayNot => ?_, fun h1 idle free => ?_⟩
    · exact gives _ (Chip.fnRequest_of_idle _ f none false hl hu idle)
    · exact gives _ (Chip.fnRequest_of_busy _ f false hu busy)
    · exact gives _ (h0 ▸ Chip.fnRequest_fbk_of_may _ none false idle may)
    · exact gives _ (h0 ▸ Chip.fnRequest_fbk_of_not _ false mayNot)
    · exact gives _ (h1 ▸ Chip.fnRequest_mot _ idle free)
  case ending =>
    rintro s t f c k r rfl live waiting
    refine ⟨fun hk gate => ?_, fun due hk gate => ?_, fun early => ?_⟩
    · refine .ofRunS (exec_idleAcknowledge ..) live ?_
      rw [Chip.idleAck_of_waiting _ _ r waiting, Chip.fnEnd_of_gateOpen _ k r false hk gate]
    · refine .ofRunS (exec_functionResetTimeout ..) live ?_
      rw [Chip.fnTimeout_of_waiting _ _ r waiting, if_pos due, Chip.fnEnd_of_gateOpen _ k r true hk gate]
    · refine .ofRunS (exec_functionResetTimeout ..) live ?_
      rw [Chip.fnTimeout_of_waiting _ _ r waiting, if_neg (by omega)]
  case deferral =>
    rintro s t c rfl live
    refine ⟨fun r h due => ?_, fun r b h early => ?_, fun code a h due => ?_, fun code a h early => ?_⟩
    · exact .ofRunS (exec_motuDeferralTimeout ..) live (Chip.motuLate_of_due _ r h due)
    · exact .ofRunS (exec_motuDeferralTimeout ..) live (Chip.motuLate_of_early _ r b h early)
    · exact .ofRun (exec_motResetStartTimeout ..) live (Chip.motResetLate_of_due _ code a h due)
    · exact .ofRun (exec_motResetStartTimeout ..) live (Chip.motResetLate_of_early _ code a h early)

end Sys2Proof.Machine

/-! ## Feedback (spec/04 R76 to R82, R86 to R102) -/

namespace Sys2Proof.Machine

/-! ### The meanings of the commands of spec/04 -/

theorem exec_rawTransition (t : Nat) (n : Fin 6) (a b : Bool) (s : State) :
    exec (.rawTransition t n a b) s = run .island t (fun c => c.rawTransition n a b) s := rfl
theorem exec_deferredEdgeAccept (t : Nat) (n : Fin 6) (s : State) :
    exec (.deferredEdgeAccept t n) s = run .island t (fun c => c.deferredEdge n) s := rfl
theorem exec_pwcPulse (t : Nat) (n : Fin 6) (width : Nat) (s : State) :
    exec (.pwcPulse t n width) s = run .island t (fun c => c.pwcPulse n width) s := rfl
theorem exec_ssiFrame (t : Nat) (n : Fin 6) (bits : Nat) (monoflop : Bool) (s : State) :
    exec (.ssiFrame t n bits monoflop) s = run .island t (fun c => c.ssiFrame n bits monoflop) s := rfl
theorem exec_cableFaultBegin (t : Nat) (n : Fin 6) (i : Fin 3) (s : State) :
    exec (.cableFaultBegin t n i) s = run .island t (fun c => c.cableBegin n i) s := rfl
theorem exec_cableFaultEnd (t : Nat) (n : Fin 6) (i : Fin 3) (s : State) :
    exec (.cableFaultEnd t n i) s = run .island t (fun c => c.cableEnd n i) s := rfl
theorem exec_indexPulse (t : Nat) (n : Fin 6) (hall : Bool) (s : State) :
    exec (.indexPulse t n hall) s = run .island t (fun c => c.indexPulse n hall) s := rfl
theorem exec_indexArm (t : Nat) (n : Fin 6) (s : State) :
    exec (.indexArm t n) s = run .island t (fun c => c.put (FBK_CH_STAT_ARMED n) true) s := rfl
theorem exec_indexDisarm (t : Nat) (n : Fin 6) (s : State) :
    exec (.indexDisarm t n) s = run .island t (fun c => c.put (FBK_CH_STAT_ARMED n) false) s := rfl
theorem exec_hallChange (t : Nat) (h : Fin 4) (w : Fin 3) (magnet : Bool) (s : State) :
    exec (.hallChange t h w magnet) s = run .island t (fun c => c.hallChange h w magnet) s := rfl
theorem exec_countWrite (t : Nat) (n : Fin 6) (v : Word) (s : State) :
    exec (.countWrite t n v) s = run .island t (fun c => c.countWrite n v.toNat) s := rfl
theorem exec_observerUpdate (t : Nat) (n : Fin 6) (s : State) :
    exec (.observerUpdate t n) s = run .island t (fun c => c.observerUpdate n) s := rfl
theorem exec_standstill (t : Nat) (n : Fin 6) (s : State) :
    exec (.standstill t n) s = run .island t (fun c => c.standstill n) s := rfl
theorem exec_wheelQualified (t : Nat) (w : Fin 2) (s : State) :
    exec (.wheelQualified t w) s = run .island t (fun c => c.wheelQualify w) s := rfl
theorem exec_wheelDisagree (t : Nat) (s : State) : exec (.wheelDisagree t) s = execWheelDisagree t s := rfl
theorem exec_disagreeFault (t : Nat) (s : State) : exec (.disagreeFault t) s =
    run .island t (fun c => if c.is FBK_WHL_STAT_DISAGREE ∧ 10000000000 ≤ c.now - c.wheel.disagreeAt then c.raise 0x0510 else c) s := rfl
theorem exec_votedStandstill (t : Nat) (s : State) : exec (.votedStandstill t) s =
    run .island t (fun c => if c.vstillOk ∧ c.get FBK_WHL_CFG1_HOLD_MS * 1000000 ≤ c.now - c.wheel.clearSince then
      c.put FBK_WHL_STAT_VSTILL true else c) s := rfl
theorem exec_blendComplete (t : Nat) (s : State) : exec (.blendComplete t) s = run .island t (fun c => c.blendComplete) s := rfl

/-! ### Arming the index (R80, 04.9) -/

/-- A command that puts a one-bit field gives the field the value put, and leaves alone the other fields of its register, all other
registers, memory, faults, queues and ledger. -/
theorem Gives.yields_put {i : Instr} {s : State} {t : Nat} {f : Fld} {b : Bool} (hw : f.w = 1) (hf : f.lo + f.w ≤ 32)
    (h : Gives i s t ((s.chip.begin t).put f b)) :
    Yields i s (fun k => k.is f = b ∧ OnlyRegs [f.addr] (s.chip.begin t) k ∧
      ∀ g : Fld, g.addr = f.addr → g.lo + g.w ≤ f.lo ∨ f.lo + f.w ≤ g.lo → k.get g = (s.chip.begin t).get g) := by
  refine h.yields ⟨?value, ?others, fun g same apart => ?fields⟩
  case value => rw [Chip.finish_is, Chip.is_put_self _ _ _ hw hf]
  case others => exact ((OnlyRegs.refl _ _).set f _ (List.mem_singleton.mpr rfl)).finish _
  case fields => rw [Chip.finish_get, Chip.get_put_apart _ _ _ _ hf same apart]

theorem indexArm_gives (s : State) (t : Nat) (n : Fin 6) (live : (s.chip.begin t).live .island = true) :
    Gives (.indexArm t n) s t ((s.chip.begin t).put (FBK_CH_STAT_ARMED n) true) := .ofRun (exec_indexArm ..) live rfl

theorem indexDisarm_gives (s : State) (t : Nat) (n : Fin 6) (live : (s.chip.begin t).live .island = true) :
    Gives (.indexDisarm t n) s t ((s.chip.begin t).put (FBK_CH_STAT_ARMED n) false) := .ofRun (exec_indexDisarm ..) live rfl

/-- Settles O8: both commands put ARMED, a field of one bit. -/
theorem indexArmFrame : Obligations.IndexArmFrame := by
  unfold Obligations.IndexArmFrame
  rintro s t n c rfl live
  exact ⟨(indexArm_gives s t n live).yields_put rfl (by simp), (indexDisarm_gives s t n live).yields_put rfl (by simp)⟩

/-! ### Quadrature edges (R78, R79) -/

section RawTransition

variable {c k : Chip} {n : Nat} {a b : Bool} (taken : k = c.setFb n (fun x => { x with raw := cond a 1 0 + 2 * cond b 1 0 }))
include taken

theorem Chip.rawTransition_of_same (same : (c.fb n).raw = cond a 1 0 + 2 * cond b 1 0) : c.rawTransition n a b = k := by
  subst taken
  exact if_pos (.inl (beq_iff_eq.mpr same))

/-- A change on a channel that counts is rejected before T_MIN has passed, and accepted from then on. -/
theorem Chip.rawTransition_of_change (change : (c.fb n).raw ≠ cond a 1 0 + 2 * cond b 1 0) (on : k.quadOn n = true)
    (good : k.frozen n = false) :
    c.rawTransition n a b = if k.tooSoon n (k.fb n).lastEdge then k.rejected n else k.acceptRaw n false := by
  subst taken
  refine if_neg ?_
  simp [change, on, good]

end RawTransition

/-- A step of one input counts in its direction, turned round by DIR_INV. -/
theorem Chip.acceptRaw_of_step (c : Chip) (n : Nat) (void d : Bool) (differs : (c.fb n).raw ≠ (c.fb n).acc)
    (dir : quadDir (c.fb n).acc (c.fb n).raw = some d) : c.acceptRaw n void =
      (c.setFb n (fun y => { y with acc := y.raw })).countEdge n (d != c.is (FBK_CH_CFG_DIR_INV n)) void c.now := by
  unfold Chip.acceptRaw
  dsimp only
  rw [if_neg differs, dir]

theorem Chip.deferredEdge_of_due (c : Chip) (n : Nat) (on : c.quadOn n = true) (good : c.frozen n = false)
    (due : c.tooSoon n (c.fb n).lastEdge = false) : c.deferredEdge n = c.acceptRaw n true := if_pos ⟨on, good, due⟩

/-! ### PWC pulses and SSI frames (R100 to R102) -/

section Receiver

variable {c : Chip} {n : Nat} (on : c.is (FBK_CH_CFG_ENABLE n) = true) (good : c.frozen n = false)
include on good

theorem Chip.pwcPulse_of_bad (width : Nat) (pwc : c.get (FBK_CH_CFG_MODE n) = 1)
    (bad : width < 100 ∨ 1249 < width ∨ c.tooSoon n (c.fb n).lastPulse = true) : c.pwcPulse n width = c.rejected n := by
  unfold Chip.pwcPulse
  rw [if_neg (by simp [on, pwc, good]), if_pos bad]

theorem Chip.pwcPulse_of_good (width : Nat) (k : Chip) (pwc : c.get (FBK_CH_CFG_MODE n) = 1) (long : 100 ≤ width) (short : width ≤ 1249)
    (late : c.tooSoon n (c.fb n).lastPulse = false)
    (counted : k = (c.setFb n (fun x => { x with lastPulse := some c.now })).countEdge n
      ((decide (width < 350) || (decide (650 ≤ width) && decide (width < 950))) != c.is (FBK_CH_CFG_DIR_INV n)) false
      (c.now - c.get (FBK_CH_PT_RX_RX_DELAY n))) :
    c.pwcPulse n width = if 650 ≤ width then k.index n else k := by
  have accepted : ¬(width < 100 ∨ 1249 < width ∨ c.tooSoon n (c.fb n).lastPulse = true) := by
    simp [late, long, short]
  subst counted
  unfold Chip.pwcPulse
  rw [if_neg (by simp [on, pwc, good]), if_neg accepted]

/-- The monoflop check alone rejects a frame (R102). -/
theorem Chip.ssiFrame_of_monoflop (bits : Nat) (ssi : c.get (FBK_CH_CFG_MODE n) = 2) : c.ssiFrame n bits false = c.ssiReject n := by
  unfold Chip.ssiFrame
  rw [if_neg (by simp [on, ssi, good])]
  exact if_pos (.inr (.inr (.inl rfl)))

end Receiver

/-- Settles O6: a transition by what T_MIN says of it, the deferred edge, and the inputs of the receivers. -/
theorem positionInputs : Obligations.PositionInputs := by
  unfold Obligations.PositionInputs
  refine ⟨?quadrature, ?receivers⟩
  case quadrature =>
    rintro s t n c k rfl live
    refine ⟨fun a b taken => ⟨fun same => ?same, fun change on good early => ?early, fun d change on good late differs dir => ?late⟩,
      fun d on good due differs dir => ?deferred⟩
    case same => exact .ofRun (exec_rawTransition ..) live (Chip.rawTransition_of_same taken same)
    case early =>
      refine .ofRun (exec_rawTransition ..) live ?_
      rw [Chip.rawTransition_of_change taken change on good, if_pos early]
    case late =>
      refine .ofRun (exec_rawTransition ..) live ?_
      rw [Chip.rawTransition_of_change taken change on good, if_neg (Bool.eq_false_iff.mp late), Chip.acceptRaw_of_step k n false d differs dir]
    case deferred =>
      refine .ofRun (exec_deferredEdgeAccept ..) live ?_
      rw [Chip.deferredEdge_of_due _ _ on good due, Chip.acceptRaw_of_step _ _ true d differs dir]
  case receivers =>
    rintro s t n c rfl live on good
    refine ⟨fun width pwc bad => ?_, fun width k pwc long short late counted => ?_, fun bits ssi => ?_⟩
    · exact .ofRun (exec_pwcPulse ..) live (Chip.pwcPulse_of_bad on good width pwc bad)
    · exact .ofRun (exec_pwcPulse ..) live (Chip.pwcPulse_of_good on good width k pwc long short late counted)
    · exact .ofRun (exec_ssiFrame ..) live (Chip.ssiFrame_of_monoflop on good bits ssi)

/-! ### Cable faults (R76, R77, R94) -/

theorem Chip.cableBegin_of_new (c : Chip) (n i : Nat) (on : c.is (FBK_CH_CFG_ENABLE n) = true) (used : c.inputUsed n i = true)
    (new : c.bit (FBK_CH_STAT_CABLE n) i = false) : c.cableBegin n i =
      ((((c.putBit (FBK_CH_STAT_CABLE n) i true).putBit (FBK_CH_FAULT_CABLE_S n) i true).posLost n).wheelFault n true).raiseArg
        0x0501 0 (n + 256 * i) := if_pos ⟨on, used, Bool.eq_false_iff.mp new⟩

theorem Chip.cableBegin_of_off (c : Chip) (n i : Nat) (off : c.is (FBK_CH_CFG_ENABLE n) = false) : c.cableBegin n i = c :=
  if_neg (fun h => Bool.eq_false_iff.mp off h.1)

/-- On an axis channel no second of R94 begins again; F0501 ends with the last fault of all channels. -/
theorem Chip.cableEnd_of_axis (c k : Chip) (n i : Nat) (faulty : c.bit (FBK_CH_STAT_CABLE n) i = true) (axis : n < 4)
    (cleared : k = if i < 2 then (c.putBit (FBK_CH_STAT_CABLE n) i false).setFb n (fun x => { x with acc := x.raw, run := [] })
      else c.putBit (FBK_CH_STAT_CABLE n) i false) : c.cableEnd n i =
      if [0, 1, 2, 3, 4, 5].all (fun m => k.get (FBK_CH_STAT_CABLE m) == 0) then k.endCondition 0x0501 else k := by
  have noWheel : ¬((n = 4 ∨ n = 5) ∧ k.get (FBK_CH_STAT_CABLE n) = 0) := by omega
  subst cleared
  unfold Chip.cableEnd
  dsimp only
  rw [if_pos faulty, if_neg noWheel]

/-! ### Index pulses (R80, R82) -/

/-- The Hall reference stands in place of Z where REF_SRC says so. -/
theorem Chip.indexPulse_of_hall (c : Chip) (n : Nat) (on : c.is (FBK_CH_CFG_ENABLE n) = true) (axis : n < 4)
    (ref : c.is (FBK_CH_CFG_REF_SRC n) = true) : c.indexPulse n true = c.index n := by
  unfold Chip.indexPulse
  rw [if_neg (not_not.mpr on), if_pos rfl, if_pos ⟨axis, ref⟩]

section ZEdge

variable {c : Chip} {n : Nat} (on : c.is (FBK_CH_CFG_ENABLE n) = true) (quad : c.get (FBK_CH_CFG_MODE n) = 0)
  (used : c.inputUsed n 2 = true) (good : c.bit (FBK_CH_STAT_CABLE n) 2 = false)
include on quad used good

/-- A Z edge on an input in use is rejected before T_MIN has passed; from then on Z_GATE decides. -/
theorem Chip.indexPulse_of_z : c.indexPulse n false =
    if c.tooSoon n (c.fb n).lastZ then c.incSat (FBK_CH_ECNT_EDGE_REJ n)
    else
      let k := c.setFb n (fun x => { x with lastZ := some c.now })
      if k.get (FBK_CH_CFG_Z_GATE n) = 0 ∨ k.bit (FBK_CH_CFG_Z_GATE n) (k.fb n).acc then k.index n else k := by
  unfold Chip.indexPulse
  rw [if_neg (not_not.mpr on), if_neg Bool.false_ne_true, if_neg (by simp [quad, used, good])]

theorem Chip.indexPulse_of_early (early : c.tooSoon n (c.fb n).lastZ = true) :
    c.indexPulse n false = c.incSat (FBK_CH_ECNT_EDGE_REJ n) := by
  rw [Chip.indexPulse_of_z on quad used good, if_pos early]

theorem Chip.indexPulse_of_noGate (k : Chip) (late : c.tooSoon n (c.fb n).lastZ = false)
    (seen : k = c.setFb n (fun x => { x with lastZ := some c.now })) (noGate : k.get (FBK_CH_CFG_Z_GATE n) = 0) :
    c.indexPulse n false = k.index n := by
  subst seen
  rw [Chip.indexPulse_of_z on quad used good, if_neg (Bool.eq_false_iff.mp late)]
  exact if_pos (.inl noGate)

end ZEdge

/-- Settles O7: the two ends of a cable fault, and each kind of index and Hall input. -/
theorem cableIndexHall : Obligations.CableIndexHall := by
  unfold Obligations.CableIndexHall
  refine ⟨?cable, ?indexHall⟩
  case cable =>
    rintro s t n i c rfl live
    refine ⟨fun on used new => ?_, fun off => ?_, fun k faulty axis cleared => ?_⟩
    · exact .ofRun (exec_cableFaultBegin ..) live (Chip.cableBegin_of_new _ n i on used new)
    · exact .ofRun (exec_cableFaultBegin ..) live (Chip.cableBegin_of_off _ n i off)
    · exact .ofRun (exec_cableFaultEnd ..) live (Chip.cableEnd_of_axis _ k n i faulty axis cleared)
  case indexHall =>
    rintro s t n c rfl live
    refine ⟨indexArm_gives s t n live, indexDisarm_gives s t n live, fun on axis ref => ?_, fun on quad used good early => ?_,
      fun k on quad used good late seen noGate => ?_, fun h w magnet => ?_⟩
    · exact .ofRun (exec_indexPulse ..) live (Chip.indexPulse_of_hall _ n on axis ref)
    · exact .ofRun (exec_indexPulse ..) live (Chip.indexPulse_of_early on quad used good early)
    · exact .ofRun (exec_indexPulse ..) live (Chip.indexPulse_of_noGate on quad used good k late seen noGate)
    · exact .ofRun (exec_hallChange ..) live rfl

/-! ### Written counts (R82) -/

theorem Chip.countWrite_of_moving (c : Chip) (n v : Nat) (on : c.is (FBK_CH_CFG_ENABLE n) = true)
    (moving : c.is (FBK_CH_STAT_STANDSTILL n) = false) : c.countWrite n v = c.put (FBK_CH_STAT_WR_ERR n) true :=
  if_pos ⟨on, Bool.eq_false_iff.mp moving⟩

/-- A count written to a wheel or auxiliary channel at standstill moves no axis domain. -/
theorem Chip.countWrite_of_still (c k : Chip) (n v : Nat) (still : c.is (FBK_CH_STAT_STANDSTILL n) = true) (noAxis : 4 ≤ n)
    (written : k = (((c.set (FBK_CH_COUNT_COUNT n) v).fbkLatch n c.now).fbkRest n).setFb n (fun x => { x with run := [] })) :
    c.countWrite n v = (k.put (FBK_CH_STAT_POS_VALID n) (decide (k.get (FBK_CH_STAT_CABLE n) = 0))).fbkPos n := by
  subst written
  unfold Chip.countWrite
  rw [if_neg (fun h => h.2 still)]
  dsimp only
  rw [if_neg (by omega), if_neg (by omega)]
  rfl

/-! ### The observer and standstill (R86, R90 to R92) -/

theorem Chip.observerUpdate_of_off (c : Chip) (n : Nat) (off : c.is (FBK_CH_CFG_ENABLE n) = false) : c.observerUpdate n = c :=
  if_pos (Bool.eq_false_iff.mp off)

theorem Chip.observerUpdate_of_held (c : Chip) (n : Nat) (on : c.is (FBK_CH_CFG_ENABLE n) = true) (held : c.fbkHeld n = true) :
    c.observerUpdate n = ((((c.fbkRest n).speedSource n).fbkSpeed n).fbkPos n).fbkAfter n := by
  unfold Chip.observerUpdate
  dsimp only
  rw [if_neg (not_not.mpr on), if_pos held]

/-- One step of R86: `e` is what the count lies ahead of the estimated position. -/
theorem Chip.observerUpdate_of_free (c : Chip) (n : Nat) (p v e : Int) (on : c.is (FBK_CH_CFG_ENABLE n) = true)
    (free : c.fbkHeld n = false) (he : e = c.count16 n - (c.fb n).pHat)
    (hp : p = (c.fb n).pHat + divNear (c.fb n).vHat 100000 + divNear (c.get (FBK_CH_OBS_G1_G n) * e) (2 ^ 32))
    (hv : v = (c.fb n).vHat + divNear (c.get (FBK_CH_OBS_G2_G n) * e * 100000) (2 ^ 32)) :
    c.observerUpdate n =
      ((((c.setFb n (fun z => { z with pHat := p, vHat := v })).speedSource n).fbkSpeed n).fbkPos n).fbkAfter n := by
  subst hp hv he
  unfold Chip.observerUpdate
  dsimp only
  rw [if_neg (not_not.mpr on), if_neg (Bool.eq_false_iff.mp free)]

section Standstill

variable {c : Chip} {n e : Nat} (last : (c.fb n).lastEdge = some e)
include last

theorem Chip.standstill_of_due (k : Chip) (on : c.is (FBK_CH_CFG_ENABLE n) = true) (moving : c.is (FBK_CH_STAT_STANDSTILL n) = false)
    (due : c.get (FBK_CH_SPD_T_ZERO n) * 1000000 ≤ c.now - e)
    (still : k = ((c.put (FBK_CH_STAT_STANDSTILL n) true).put (FBK_CH_STAT_FIRST n) false).put (FBK_CH_STAT_REVERSAL n) false) :
    c.standstill n = ((((k.fbkRest n).setFb n (fun x => { x with run := [], vPer := 0 })).fbkSpeed n).fbkPos n).fbkAfter n := by
  subst still
  unfold Chip.standstill
  dsimp only
  rw [last]
  exact if_pos ⟨on, decide_eq_true due, Bool.eq_false_iff.mp moving⟩

theorem Chip.standstill_of_early (early : c.now - e < c.get (FBK_CH_SPD_T_ZERO n) * 1000000) : c.standstill n = c := by
  unfold Chip.standstill
  dsimp only
  rw [last]
  exact if_neg (fun h => absurd (of_decide_eq_true h.2.1) (by omega))

end Standstill

/-! ### The wheel-speed function (R94 to R98) -/

/-- A second without a fault qualifies a wheel channel that is in use. -/
theorem Chip.wheelQualify_of_since (c : Chip) (w e : Nat) (since : (c.fb (4 + w)).okSince = some e) (wheel : c.wheelOn = true)
    (on : c.is (FBK_CH_CFG_ENABLE (4 + w)) = true) :
    c.wheelQualify w = if 1000000000 ≤ c.now - e then c.putBit FBK_WHL_STAT_QUAL w true else c := by
  unfold Chip.wheelQualify
  rw [since]
  simp [wheel, on]

/-- Voted standstill ends with DISAGREE (R96). -/
theorem Chip.vstillCheck_of_disagree (c : Chip) (disagree : c.is FBK_WHL_STAT_DISAGREE = true) :
    c.vstillCheck = c.put FBK_WHL_STAT_VSTILL false := by
  unfold Chip.vstillCheck
  rw [if_neg (by simp [Chip.vstillOk, disagree])]

section Slide

variable {s : State} {t e : Nat} {c : Chip} (hc : c = s.chip.begin t) (live : c.live .island = true)
  (since : c.wheel.slideSince = some e)
include hc live since

/-- The condition of R95 followed from the instant since which the wheels slide. -/
theorem wheelDisagree_gives_of_since : Gives (.wheelDisagree t) s t
    (if c.get FBK_WHL_CFG1_SLIDE_T * 1000000 ≤ c.now - e ∧ ¬ c.is FBK_WHL_STAT_DISAGREE = true then
      (({ c with wheel := { c.wheel with disagreeAt := c.now } } : Chip).put FBK_WHL_STAT_DISAGREE true).vstillCheck
    else c) := by
  subst hc
  unfold Gives
  rw [exec_wheelDisagree, execWheelDisagree, run_live _ _ _ _ live, since]

theorem wheelDisagree_gives_of_due (agree : c.is FBK_WHL_STAT_DISAGREE = false)
    (due : c.get FBK_WHL_CFG1_SLIDE_T * 1000000 ≤ c.now - e) : Gives (.wheelDisagree t) s t
      ((({ c with wheel := { c.wheel with disagreeAt := c.now } } : Chip).put FBK_WHL_STAT_DISAGREE true).put FBK_WHL_STAT_VSTILL false) := by
  have gives := wheelDisagree_gives_of_since hc live since
  rwa [if_pos ⟨due, Bool.eq_false_iff.mp agree⟩, Chip.vstillCheck_of_disagree _ (Chip.is_put_self _ _ _ rfl (by decide))] at gives

theorem wheelDisagree_gives_of_early (early : c.now - e < c.get FBK_WHL_CFG1_SLIDE_T * 1000000) : Gives (.wheelDisagree t) s t c := by
  have gives := wheelDisagree_gives_of_since hc live since
  rwa [if_neg (fun h => absurd h.1 (Nat.not_le.mpr early))] at gives

end Slide

theorem Chip.blendComplete_of_due (c k : Chip) (blend : c.is FBK_WHL_STAT_BLEND = true) (due : c.blendLen ≤ c.wheel.blendCyc)
    (recorded : k = (c.put FBK_WHL_STAT_BLEND false).record 7 [(20, leBytes 1 1), (21, leBytes 1 c.wheel.fromSrc),
      (22, leBytes 1 c.wheel.viaSrc), (23, leBytes 1 (c.get FBK_WHL_STAT_SRC)), (24, leBytes 1 (cond c.wheel.aborted 1 0)),
      (28, leBytes 8 (c.now - c.wheel.changeAt)), (36, leBytes 8 (unsignedOf 64 c.wheel.changeDv)), (44, leBytes 8 c.tbVeh)]) :
    c.blendComplete =
      { k with wheel := { k.wheel with aborted := false, viaSrc := 0xFF, oldW := unitW (k.get FBK_WHL_STAT_SRC) } } := by
  have source : (c.put FBK_WHL_STAT_BLEND false).get FBK_WHL_STAT_SRC = c.get FBK_WHL_STAT_SRC :=
    Chip.get_put_apart _ _ _ _ (by decide) rfl (by decide)
  subst recorded
  unfold Chip.blendComplete
  rw [if_pos ⟨blend, due⟩]
  dsimp only
  rw [source, Chip.put_now, Chip.put_tbVeh]

/-- Settles O9: a written count, the observer and standstill channel by channel, then each timer of the wheel-speed function. -/
theorem countAndWheel : Obligations.CountAndWheel := by
  unfold Obligations.CountAndWheel
  refine ⟨?channel, ?wheel⟩
  case channel =>
    rintro s t n c rfl live
    refine ⟨fun v on moving => ?_, fun v k still noAxis written => ?_, fun on held => ?_, fun p v e on free he hp hv => ?_, fun off => ?_,
      fun e k on moving last due still => ?_, fun e last early => ?_⟩
    · exact .ofRun (exec_countWrite ..) live (Chip.countWrite_of_moving _ n _ on moving)
    · exact .ofRun (exec_countWrite ..) live (Chip.countWrite_of_still _ k n _ still noAxis written)
    · exact .ofRun (exec_observerUpdate ..) live (Chip.observerUpdate_of_held _ n on held)
    · exact .ofRun (exec_observerUpdate ..) live (Chip.observerUpdate_of_free _ n p v e on free he hp hv)
    · exact .ofRun (exec_observerUpdate ..) live (Chip.observerUpdate_of_off _ n off)
    · exact .ofRun (exec_standstill ..) live (Chip.standstill_of_due last k on moving due still)
    · exact .ofRun (exec_standstill ..) live (Chip.standstill_of_early last early)
  case wheel =>
    rintro s t e c rfl live
    refine ⟨fun w since wheel on => ⟨fun due => ?_, fun early => ?_⟩, fun since agree => ⟨fun due => ?_, fun early => ?_⟩,
      fun disagree due => ?_, fun ok due => ?_, fun notOk => ?_, fun k blend due recorded => ?_⟩
    · refine .ofRun (exec_wheelQualified ..) live ?_
      rw [Chip.wheelQualify_of_since _ w e since wheel on, if_pos due]
    · refine .ofRun (exec_wheelQualified ..) live ?_
      rw [Chip.wheelQualify_of_since _ w e since wheel on, if_neg (by omega)]
    · exact wheelDisagree_gives_of_due rfl live since agree due
    · exact wheelDisagree_gives_of_early rfl live since early
    · exact .ofRun (exec_disagreeFault ..) live (if_pos ⟨disagree, due⟩)
    · exact .ofRun (exec_votedStandstill ..) live (if_pos ⟨ok, due⟩)
    · exact .ofRun (exec_votedStandstill ..) live (if_neg (fun h => Bool.eq_false_iff.mp notOk h.1))
    · exact .ofRun (exec_blendComplete ..) live (Chip.blendComplete_of_due _ k blend due recorded)

end Sys2Proof.Machine

/-! ## Time that passes before a command (spec/13 R301, spec/15 R337, log 1) -/

namespace Sys2Proof.Machine

/-- A command at an instant that the clock has reached or passed finds no time passed. -/
theorem Chip.begin_of_past (c : Chip) (t : Nat) (past : t ≤ c.now) :
    c.begin t = { c with tickRegs := c.tickStart t, out := [], resp := none, irq := 0 } := by
  unfold Chip.begin
  rw [if_neg (Nat.not_lt.mpr past)]

/-- Before a later command TB_VEH advances by the time that passes, and the epoch is brought up to the instant. -/
theorem Chip.begin_of_later (c : Chip) (t : Nat) (later : c.now < t) :
    c.begin t = { ({ c.advanceVeh (t - c.now) with now := t } : Chip).epochSync with
      tickRegs := c.tickStart t, out := [], resp := none, irq := 0 } := by
  unfold Chip.begin
  rw [if_pos later]

theorem Chip.advanceVeh_tbVeh_le (c : Chip) (dt : Nat) : c.tbVeh ≤ (c.advanceVeh dt).tbVeh := Nat.le_add_right _ _

theorem Chip.epochSync_tbVeh (c : Chip) : c.epochSync.tbVeh = c.tbVeh := by rw [Chip.epochSync_eq]

/-- Vehicle time never runs back (R301). -/
theorem Chip.begin_tbVeh_le (c : Chip) (t : Nat) : c.tbVeh ≤ (c.begin t).tbVeh := by
  rcases Nat.lt_or_ge c.now t with later | past
  · rw [Chip.begin_of_later c t later]
    dsimp only
    rw [Chip.epochSync_tbVeh]
    exact c.advanceVeh_tbVeh_le (t - c.now)
  · rw [Chip.begin_of_past c t past]

/-- The epoch counts 1 for every 100 us since it was last brought up to an instant (R337). -/
theorem Chip.epochSync_epoch (c : Chip) :
    c.epochSync.get PAIR_EPOCH_EPOCH = (c.get PAIR_EPOCH_EPOCH + (c.now - c.pair.epochAt) / 100000) % 2 ^ 32 := by
  unfold Chip.epochSync
  dsimp only
  split
  next none_due => rw [none_due, Nat.add_zero]; exact (Nat.mod_eq_of_lt (bitsOf_lt _ _ _)).symm
  next => exact Chip.get_set_self _ PAIR_EPOCH_EPOCH _ (by decide)

theorem Chip.begin_epoch (c : Chip) (t : Nat) (later : c.now < t) : (c.begin t).get PAIR_EPOCH_EPOCH =
    (c.get PAIR_EPOCH_EPOCH + (t - c.pair.epochAt) / 100000) % 2 ^ 32 := by
  rw [Chip.begin_of_later c t later]
  exact Chip.epochSync_epoch { c.advanceVeh (t - c.now) with now := t }

theorem Chip.begin_sameRegs (c : Chip) (t : Nat) : SameRegs [PAIR_EPOCH_EPOCH.addr] c (c.begin t) := fun a other =>
  Chip.begin_rd c t a (fun same => other (List.mem_singleton.mpr same))

theorem Chip.begin_sameStore (c : Chip) (t : Nat) : SameStore c (c.begin t) := ⟨c.begin_rdB t, c.begin_nor t, c.begin_fuses t⟩

/-- Settles O55: the three clocks, then what follows none of them. -/
theorem timePasses : Obligations.TimePasses := by
  unfold Obligations.TimePasses
  rintro c k t rfl
  refine ⟨c.begin_now t, c.begin_tbVeh_le t, fun past => ?past, c.begin_epoch t, c.begin_sameRegs t, c.begin_sameStore t, c.begin_flt t,
    c.begin_wqm t, c.begin_ledg t, c.begin_sys t, c.begin_sup t, c.begin_door t, c.begin_axes t, c.begin_vote t, c.begin_pins t, c.begin_cfg t,
    c.begin_upd t, c.begin_sess t, c.begin_free t⟩
  case past =>
    rw [Chip.begin_of_past c t past]
    exact ⟨rfl, rfl⟩

end Sys2Proof.Machine

/-! ## Position domains and the control cycle (spec/05 R105 to R119, spec/01 R13, log 55) -/

namespace Sys2Proof.Machine

/-! ### The meanings of the commands of spec/05 and of the control-cycle boundary -/

theorem exec_slotArm (t : Nat) (n : Fin 64) (s : State) : exec (.slotArm t n) s = run .app t (fun c => (c.arm n).1) s := rfl
theorem exec_slotDisarm (t : Nat) (n : Fin 64) (s : State) : exec (.slotDisarm t n) s = run .app t (fun c => c.disarm n) s := rfl
theorem exec_extrapolatedFire (t : Nat) (n : Fin 64) (s : State) :
    exec (.extrapolatedFire t n) s = run .app t (fun c => c.extrapolatedFire n) s := rfl
theorem exec_vehicleTimeFire (t : Nat) (n : Fin 64) (s : State) :
    exec (.vehicleTimeFire t n) s = run .app t (fun c => c.vehicleTimeFire n) s := rfl
theorem exec_pinPulseEnd (t : Nat) (g : Fin 8) (s : State) : exec (.pinPulseEnd t g) s = run .app t (fun c => c.pulseEnd g) s := rfl
theorem exec_d4Set (t : Nat) (v : Word) (s : State) : exec (.d4Set t v) s = run .app t (fun c => c.domWrite 4 v.toNat) s := rfl
theorem exec_latchFifoPop (t : Nat) (s : State) : exec (.latchFifoPop t) s =
    run .app t (fun c => ({ c with dom := { c.dom with lf := c.dom.lf.drop 1 } } : Chip).showLf) s := rfl
theorem exec_controlCycleBoundary (t : Nat) (b : Boundary) (s : State) :
    exec (.controlCycleBoundary t b) s = run .island t (fun c => c.cycle b) s := rfl

/-! ### The head of the latch FIFO as its registers show it (R116) -/

theorem Chip.get_set64_lo (c : Chip) (lo hi : Fld) (v : Nat) (hl : lo.lo + lo.w ≤ 32) (apart : lo.addr ≠ hi.addr) :
    (c.set64 lo hi v).get lo = v % 2 ^ lo.w := by
  unfold Chip.set64
  rw [Chip.get_set_ne _ _ _ _ apart, Chip.get_set_self _ _ _ hl]

theorem Chip.get_set64_hi (c : Chip) (lo hi : Fld) (v : Nat) (hh : hi.lo + hi.w ≤ 32) :
    (c.set64 lo hi v).get hi = v / 2 ^ 32 % 2 ^ hi.w := Chip.get_set_self _ _ _ hh

theorem Chip.get_set64_ne (c : Chip) (lo hi g : Fld) (v : Nat) (hl : g.addr ≠ lo.addr) (hh : g.addr ≠ hi.addr) :
    (c.set64 lo hi v).get g = c.get g := by
  unfold Chip.set64
  rw [Chip.get_set_ne _ _ _ _ hh, Chip.get_set_ne _ _ _ _ hl]

/-- The registers of the latch FIFO with a level and an entry in them. -/
def Chip.showEntry (c : Chip) (level : Nat) (e : LfEntry) : Chip :=
  ((((c.set DOM_LF_STAT_LEVEL level).set DOM_LF_SLOT_SLOT e.slot).set DOM_LF_SLOT_DOMAIN e.dom).set64 DOM_LF_TS_LO_TICK DOM_LF_TS_HI_TICK
    e.ts).set64 DOM_LF_VAL_LO_VALUE DOM_LF_VAL_HI_VALUE e.val

theorem Chip.showLf_of_cons (c : Chip) (e : LfEntry) (l : List LfEntry) (h : c.dom.lf = e :: l) :
    c.showLf = c.showEntry (l.length + 1) e := by
  unfold Chip.showLf
  dsimp only
  rw [Chip.set_dom, h]
  rfl

theorem Chip.showLf_of_nil (c : Chip) (h : c.dom.lf = []) : c.showLf = c.showEntry 0 { slot := 0, dom := 0, ts := 0, val := 0 } := by
  unfold Chip.showLf
  dsimp only
  rw [Chip.set_dom, h]
  rfl

section ShowEntry

variable (c : Chip) (level : Nat) (e : LfEntry)

theorem Chip.showEntry_dom : (c.showEntry level e).dom = c.dom := by simp [Chip.showEntry]
theorem Chip.showEntry_flt : (c.showEntry level e).flt = c.flt := by simp [Chip.showEntry]

/-- The registers of the latch FIFO are no memory. -/
theorem Chip.showEntry_sameStore : SameStore c (c.showEntry level e) :=
  ⟨fun _ => by simp [Chip.showEntry, Chip.rdB], by simp [Chip.showEntry], by simp [Chip.showEntry]⟩

theorem Chip.showEntry_valLo : (c.showEntry level e).get DOM_LF_VAL_LO_VALUE = e.val % 2 ^ 32 :=
  Chip.get_set64_lo _ _ _ _ (by decide) (by decide)

theorem Chip.showEntry_tsLo : (c.showEntry level e).get DOM_LF_TS_LO_TICK = e.ts % 2 ^ 32 := by
  unfold Chip.showEntry
  rw [Chip.get_set64_ne _ _ _ _ _ (by decide) (by decide), Chip.get_set64_lo _ _ _ _ (by decide) (by decide)]

theorem Chip.showEntry_tsHi : (c.showEntry level e).get DOM_LF_TS_HI_TICK = e.ts / 2 ^ 32 % 2 ^ 32 := by
  unfold Chip.showEntry
  rw [Chip.get_set64_ne _ _ _ _ _ (by decide) (by decide), Chip.get_set64_hi _ _ _ _ (by decide)]

theorem Chip.showEntry_domain : (c.showEntry level e).get DOM_LF_SLOT_DOMAIN = e.dom % 2 ^ DOM_LF_SLOT_DOMAIN.w := by
  unfold Chip.showEntry
  rw [Chip.get_set64_ne _ _ _ _ _ (by decide) (by decide), Chip.get_set64_ne _ _ _ _ _ (by decide) (by decide),
    Chip.get_set_self _ _ _ (by decide)]

theorem Chip.showEntry_slot : (c.showEntry level e).get DOM_LF_SLOT_SLOT = e.slot % 2 ^ DOM_LF_SLOT_SLOT.w := by
  unfold Chip.showEntry
  rw [Chip.get_set64_ne _ _ _ _ _ (by decide) (by decide), Chip.get_set64_ne _ _ _ _ _ (by decide) (by decide),
    Chip.get_set_apart _ DOM_LF_SLOT_DOMAIN DOM_LF_SLOT_SLOT _ (by decide) rfl (by decide), Chip.get_set_self _ _ _ (by decide)]

theorem Chip.showEntry_level : (c.showEntry level e).get DOM_LF_STAT_LEVEL = level % 2 ^ DOM_LF_STAT_LEVEL.w := by
  unfold Chip.showEntry
  rw [Chip.get_set64_ne _ _ _ _ _ (by decide) (by decide), Chip.get_set64_ne _ _ _ _ _ (by decide) (by decide),
    Chip.get_set_ne _ _ _ _ (by decide), Chip.get_set_ne _ _ _ _ (by decide), Chip.get_set_self _ _ _ (by decide)]

end ShowEntry

/-! ### LATCH_FIFO_POP (R116) -/

theorem SameStore.finish {c k : Chip} (h : SameStore c k) (a : Chip) : SameStore c (a.finish k) := by
  obtain ⟨mem, nor, fuses⟩ := h
  exact ⟨fun x => (Chip.finish_rdB a k x).trans (mem x), (Chip.finish_nor a k).trans nor, (Chip.finish_fuses a k).trans fuses⟩

theorem SameStore.trans {a b c : Chip} (h : SameStore a b) (h' : SameStore b c) : SameStore a c := by
  obtain ⟨mem, nor, fuses⟩ := h
  obtain ⟨mem', nor', fuses'⟩ := h'
  exact ⟨fun x => (mem' x).trans (mem x), nor'.trans nor, fuses'.trans fuses⟩

/-- The working state of the event unit is no memory. -/
theorem Chip.sameStore_with_dom (c : Chip) (d : Dom) : SameStore c { c with dom := d } := ⟨fun _ => rfl, rfl, rfl⟩

section LatchFifoPop

variable {s : State} {t : Nat} {c : Chip} (hc : c = s.chip.begin t) (live : c.live .app = true)
include hc live

theorem latchFifoPop_gives_of_more (h e : LfEntry) (l : List LfEntry) (fifo : c.dom.lf = h :: e :: l) : Gives (.latchFifoPop t) s t
    (({ c with dom := { c.dom with lf := e :: l } } : Chip).showEntry (l.length + 1) e) := by
  subst hc
  refine .ofRun (exec_latchFifoPop ..) live ?_
  rw [fifo, List.drop_one, List.tail_cons]
  exact Chip.showLf_of_cons _ e l rfl

theorem latchFifoPop_gives_of_empty (fifo : c.dom.lf = []) : Gives (.latchFifoPop t) s t
    (({ c with dom := { c.dom with lf := [] } } : Chip).showEntry 0 { slot := 0, dom := 0, ts := 0, val := 0 }) := by
  subst hc
  refine .ofRun (exec_latchFifoPop ..) live ?_
  rw [fifo, List.drop_nil]
  exact Chip.showLf_of_nil _ rfl

end LatchFifoPop

/-! ### The control-cycle boundary (R13, R63, log 55) -/

/-- The application side of a started chip takes part in the boundary. -/
theorem Chip.cycle_of_started (c k : Chip) (b : Boundary) (live : c.live .app = true) (started : c.sys.started = true)
    (done : k = ((c.cycleSense.steering b.steerFb).voteClocks.visionCheck.cycleIsland b).cycleDoor.cycleRest b) :
    c.cycle b = { k with irq := setBit k.irq 0 true } := by
  subst done
  exact if_pos ⟨live, started⟩

/-- On a chip that a reset holds the island is alone. -/
theorem Chip.cycle_of_held (c : Chip) (b : Boundary) (l : Nat) (held : c.sys.held = some l) :
    c.cycle b = ({ c with pins := { c.pins with steerFb := b.steerFb } } : Chip).cycleIsland b :=
  if_neg (fun h => Bool.eq_false_iff.mp (Chip.app_not_live_of_held c l held) h.1)

/-- Of the held chips, the island lives on those in an L2 reset (Table 03-7). -/
theorem Chip.island_live_of_held (c : Chip) (l : Nat) (held : c.sys.held = some l) : c.live .island = (l == 2) := by
  unfold Chip.live
  rw [held]

/-- Settles O11: D4 and the latch FIFO, then the boundary on a started chip and under an L2 and an L1 reset. -/
theorem domainsAndCycle : Obligations.DomainsAndCycle := by
  unfold Obligations.DomainsAndCycle
  refine ⟨?domains, ?boundary⟩
  case domains =>
    intro s t c hc live
    refine ⟨fun v => ?d4, fun h e l fifo => ?more, fun fifo => ?empty⟩
    case d4 =>
      subst hc
      exact .ofRun (exec_d4Set ..) live rfl
    case more =>
      refine (latchFifoPop_gives_of_more hc live h e l fifo).yields ?_
      simp only [Chip.finish_get, Chip.finish_dom, Chip.finish_flt, Chip.showEntry_dom, Chip.showEntry_level, Chip.showEntry_slot,
        Chip.showEntry_domain, Chip.showEntry_tsLo, Chip.showEntry_tsHi, Chip.showEntry_flt, true_and, and_true]
      exact ((c.sameStore_with_dom _).trans (Chip.showEntry_sameStore ..)).finish _
    case empty =>
      refine (latchFifoPop_gives_of_empty hc live fifo).yields ?_
      simp only [Chip.finish_get, Chip.finish_dom, Chip.showEntry_dom, Chip.showEntry_level, Chip.showEntry_slot, Chip.showEntry_tsLo,
        Chip.showEntry_valLo, Nat.zero_mod, true_and]
      exact ((c.sameStore_with_dom _).trans (Chip.showEntry_sameStore ..)).finish _
  case boundary =>
    rintro s t b c c1 c2 c3 c4 rfl
    refine ⟨fun live started h1 h2 h3 h4 => ?started, fun held => ?inL2, fun held => ?inL1⟩
    case started =>
      have island := Chip.live_of_free _ .island (Chip.free_of_app _ live) (by decide)
      subst h3 h2 h1
      exact .ofRun (exec_controlCycleBoundary ..) island (Chip.cycle_of_started _ c4 b live started h4)
    case inL2 =>
      exact .ofRun (exec_controlCycleBoundary ..) (Chip.island_live_of_held _ 2 held) (Chip.cycle_of_held _ b 2 held)
    case inL1 =>
      rw [exec_controlCycleBoundary]
      exact run_dead _ _ _ _ (Chip.island_live_of_held _ 1 held)

/-! ### Arming a slot (R111, R118, R119) -/

theorem Chip.arm_of_armed (c : Chip) (n : Nat) (armed : c.armed n = true) : c.arm n = (c, 0) := if_pos armed

section Arm

variable {c : Chip} {n : Nat} (unarmed : c.armed n = false)
include unarmed

theorem Chip.arm_of_refused (e : Nat) (refused : c.armRefusal n = some e) : c.arm n = (c.put (DOM_SLOT_STAT_REFUSED n) true, e) := by
  unfold Chip.arm
  rw [if_neg (Bool.eq_false_iff.mp unarmed), refused]

/-- A permitted arm sets the slot's status (`k`, `m`) and its working target (`w`); then the domain's validity decides. -/
theorem Chip.arm_of_permitted (k m w : Chip) (permitted : c.armRefusal n = none)
    (hk : k = ((((c.put (DOM_SLOT_STAT_ARMED n) true).put (DOM_SLOT_STAT_FIRED n) false).put (DOM_SLOT_STAT_LATE n) false).put
      (DOM_SLOT_STAT_REFUSED n) false).set (DOM_SLOT_STAT_MISSED n) 0)
    (hm : m = (k.set (DOM_SLOT_STAT_POL n) (k.slotPolicy n)).set64 (DOM_PRED_LO_TICK n) (DOM_PRED_HI_TICK n) 0)
    (hw : w = m.setTarget n (m.slotProgrammed n)) : (c.arm n).1 =
      if w.domValid (w.slotDom n) = false then
        ({ w with dom := { w.dom with waiting := w.dom.waiting ++ [n] } } : Chip).raiseArg 0x0604 0 (w.slotDom n)
      else (w.lateRule n true).1.showPred ((w.lateRule n true).1.slotDom n) := by
  subst hw hm hk
  unfold Chip.arm
  rw [if_neg (Bool.eq_false_iff.mp unarmed), permitted]
  exact apply_ite Prod.fst _ _ _

end Arm

/-! ### Slots that fire by time (R107, R109) and the end of a pin pulse (R114) -/

/-- Inside the fine window the predicted tick decides. -/
theorem Chip.extrapolatedFire_of_fine (c : Chip) (n tick x : Nat) (armed : c.armed n = true) (free : c.dom.waiting.contains n = false)
    (axisOrD4 : c.slotDom n ≤ 4) (valid : c.domValid (c.slotDom n) = true) (fine : c.predict n = some (tick, x, true)) :
    c.extrapolatedFire n = if tick ≤ c.now then c.fire n tick else c := by
  unfold Chip.extrapolatedFire
  rw [if_pos ⟨armed, Bool.eq_false_iff.mp free, axisOrD4, valid⟩, fine]
  simp only [true_and]

theorem Chip.extrapolatedFire_of_unarmed (c : Chip) (n : Nat) (unarmed : c.armed n = false) : c.extrapolatedFire n = c :=
  if_neg (fun h => Bool.eq_false_iff.mp unarmed h.1)

theorem Chip.vehicleTimeFire_of_reached (c : Chip) (n : Nat) (armed : c.armed n = true) (d7 : c.slotDom n = 7)
    (reached : c.slotTarget n ≤ (c.tbVeh : Int)) : c.vehicleTimeFire n = c.fire n c.now := if_pos ⟨armed, d7, reached⟩

theorem Chip.vehicleTimeFire_of_unarmed (c : Chip) (n : Nat) (unarmed : c.armed n = false) : c.vehicleTimeFire n = c :=
  if_neg (fun h => Bool.eq_false_iff.mp unarmed h.1)

/-- The instant at which the only pulse ends decides. -/
theorem Chip.pulseEnd_of_single (c : Chip) (g e : Nat) (base : Bool) (single : c.pins.pulses = [(g, base, e)]) :
    c.pulseEnd g = if e ≤ c.now then ({ c with pins := { c.pins with pulses := [] } } : Chip).gpioSet g base else c := by
  unfold Chip.pulseEnd
  simp [single]

/-- Settles O10: an arm by what the slot and its domain allow, a disarm, and each of the three timers. -/
theorem domainSlots : Obligations.DomainSlots := by
  unfold Obligations.DomainSlots
  refine ⟨?arming, ?timers⟩
  case arming =>
    rintro s t n c k rfl live
    have gives : ∀ x, ((s.chip.begin t).arm n).1 = x → Gives (.slotArm t n) s t x := fun _ => .ofRun (exec_slotArm ..) live
    refine ⟨fun armed => ?_, fun e unarmed refused => ?_, fun unarmed permitted hk m hm w hw => ⟨fun invalid => ?_, fun valid => ?_⟩,
      fun hk => ?_⟩
    · exact gives _ (congrArg Prod.fst (Chip.arm_of_armed _ n armed))
    · exact gives _ (congrArg Prod.fst (Chip.arm_of_refused unarmed e refused))
    · exact gives _ ((Chip.arm_of_permitted unarmed k m w permitted hk hm hw).trans (if_pos invalid))
    · exact gives _ ((Chip.arm_of_permitted unarmed k m w permitted hk hm hw).trans (if_neg (by simp [valid])))
    · exact .ofRun (exec_slotDisarm ..) live (hk ▸ rfl)
  case timers =>
    rintro s t n c rfl live
    refine ⟨fun tick x armed free axisOrD4 valid fine => ⟨fun due => ?_, fun early => ?_⟩, fun armed d7 reached => ?_,
      fun unarmed => ⟨?_, ?_⟩, fun g base e single => ⟨fun due => ?_, fun early => ?_⟩⟩
    · exact .ofRun (exec_extrapolatedFire ..) live
        ((Chip.extrapolatedFire_of_fine _ n tick x armed free axisOrD4 valid fine).trans (if_pos due))
    · exact .ofRun (exec_extrapolatedFire ..) live
        ((Chip.extrapolatedFire_of_fine _ n tick x armed free axisOrD4 valid fine).trans (if_neg (Nat.not_le.mpr early)))
    · exact .ofRun (exec_vehicleTimeFire ..) live (Chip.vehicleTimeFire_of_reached _ n armed d7 reached)
    · exact .ofRun (exec_vehicleTimeFire ..) live (Chip.vehicleTimeFire_of_unarmed _ n unarmed)
    · exact .ofRun (exec_extrapolatedFire ..) live (Chip.extrapolatedFire_of_unarmed _ n unarmed)
    · exact .ofRun (exec_pinPulseEnd ..) live ((Chip.pulseEnd_of_single _ g e base single).trans (if_pos due))
    · exact .ofRun (exec_pinPulseEnd ..) live ((Chip.pulseEnd_of_single _ g e base single).trans (if_neg (Nat.not_le.mpr early)))

end Sys2Proof.Machine

/-! ## The faults of an axis and its bridges (spec/06 R133, R142, spec/07 R145, R159) -/

namespace Sys2Proof.Machine

/-! ### The meanings of the commands -/

theorem exec_stall (t : Nat) (n : Fin 4) (s : State) : exec (.stall t n) s = run .app t (fun c => c.stallAxis n) s := rfl
theorem exec_bridgeEnableLoss (t : Nat) (n : Fin 4) (s : State) :
    exec (.bridgeEnableLoss t n) s = run .app t (fun c => c.bridgeLoss n) s := rfl
theorem exec_overcurrent (t : Nat) (n : Fin 4) (p : Fin 2) (s : State) :
    exec (.overcurrent t n p) s = run .app t (fun c => c.overcurrent n) s := rfl
theorem exec_openPhase (t : Nat) (n : Fin 4) (p : Fin 2) (s : State) :
    exec (.openPhase t n p) s = run .app t (fun c => c.openPhase n p) s := rfl
theorem exec_adcCheck (t : Nat) (n : Fin 4) (offset : Int) (refErr : Nat) (s : State) :
    exec (.adcCheck t n offset refErr) s = run .app t (fun c => c.adcCheck n offset refErr) s := rfl
theorem exec_currentSag (t : Nat) (n : Fin 4) (p : Fin 2) (s : State) :
    exec (.currentSag t n p) s = run .app t (fun c => c.currentSag n p) s := rfl

/-! ### Stall and lost bridges (R133, R142, R145) -/

/-- STALL_CYC watched cycles of a driven axis whose reference is still sound make a stall. -/
theorem Chip.stallAxis_of_due (c : Chip) (n : Nat) (cycles : c.get (MOT_AX_STALL_STALL_CYC n) ≤ (c.ax n).stallCnt)
    (driving : c.is (CUR_AX_STAT_DRIVING n) = true) (sound : c.is (MOT_AX_STAT_STEPLOSS_POSSIBLE n) = false) : c.stallAxis n =
      (((((c.hardStop n false).put (MOT_AX_STAT_STALL n) true).put (MOT_AX_STAT_STEPLOSS_POSSIBLE n) true).setAx n
        (fun a => { a with stallCnt := 0, stallRep := true })).put (MOT_AX_FAULT_STALL_S n) true).raiseArg 0x0702 0 n :=
  if_pos ⟨cycles, driving, Bool.eq_false_iff.mp sound⟩

/-- An axis without current cannot stall. -/
theorem Chip.stallAxis_of_undriven (c : Chip) (n : Nat) (undriven : c.is (CUR_AX_STAT_DRIVING n) = false) : c.stallAxis n = c :=
  if_neg (fun h => Bool.eq_false_iff.mp undriven h.2.1)

/-- A driven axis that no longer may be driven has its gates opened and is halted. -/
theorem Chip.bridgeLoss_of_lost (c : Chip) (n : Nat) (driving : c.is (CUR_AX_STAT_DRIVING n) = true) (lost : c.mayDrive n = false) :
    c.bridgeLoss n = (c.gatesOff n).hardStop n true := if_pos ⟨driving, lost⟩

/-- An axis without current has no bridge to lose. -/
theorem Chip.bridgeLoss_of_undriven (c : Chip) (n : Nat) (undriven : c.is (CUR_AX_STAT_DRIVING n) = false) : c.bridgeLoss n = c :=
  if_neg (fun h => Bool.eq_false_iff.mp undriven h.1)

/-! ### Coil faults (R159) -/

/-- The run of cycles with too little current decides on an open phase. -/
theorem Chip.openPhase_of_run (c : Chip) (n p : Nat) (long : 8 ≤ ((c.cu n).ph p).openCnt) : c.openPhase n p =
    (c.latchOff n (CUR_AX_FAULT_OPEN_S n) 0x0802).setCu n (fun x => x.setPh p (fun h => { h with openCnt := 0 })) := if_pos long

theorem Chip.openPhase_of_short (c : Chip) (n p : Nat) (short : ((c.cu n).ph p).openCnt < 8) : c.openPhase n p = c :=
  if_neg (Nat.not_le.mpr short)

/-- The run of control cycles that ended by ON_LIM decides on a sag. -/
theorem Chip.currentSag_of_run (c : Chip) (n p : Nat) (long : 20 ≤ ((c.cu n).ph p).sagCnt) : c.currentSag n p =
    ((c.put (CUR_AX_FAULT_SAG_S n) true).raiseArg 0x0804 0 n).setCu n (fun x => x.setPh p (fun h => { h with sagCnt := 0 })) :=
  if_pos long

theorem Chip.currentSag_of_short (c : Chip) (n p : Nat) (short : ((c.cu n).ph p).sagCnt < 20) : c.currentSag n p = c :=
  if_neg (Nat.not_le.mpr short)

/-- Offset and reference both within their limits pass the check. -/
theorem Chip.adcCheck_of_passed (c : Chip) (n : Nat) (offset : Int) (refErr : Nat) (offsetOk : offset.natAbs ≤ 1000)
    (refOk : refErr ≤ 2000) : c.adcCheck n offset refErr = c.setCu n (fun x => { x with adcOk := true }) := by
  unfold Chip.adcCheck
  simp only [decide_eq_true offsetOk, decide_eq_true refOk, Bool.and_self, if_true]

/-- Offset or reference beyond its limit fails the check; the fault is raised only where the last check had passed. -/
theorem Chip.adcCheck_of_failed (c k : Chip) (n : Nat) (offset : Int) (refErr : Nat) (failed : 1000 < offset.natAbs ∨ 2000 < refErr)
    (hk : k = (c.setCu n (fun x => { x with adcOk := false })).bridgeLoss n) : c.adcCheck n offset refErr =
      if (c.cu n).adcOk then (k.put (CUR_AX_FAULT_ADC_S n) true).raiseArg 0x0803 0 n else k := by
  have notOk : (decide (offset.natAbs ≤ 1000) && decide (refErr ≤ 2000)) = false := by
    simpa only [Bool.and_eq_false_iff, decide_eq_false_iff_not, Nat.not_le] using failed
  subst hk
  unfold Chip.adcCheck
  simp only [notOk, Bool.false_eq_true, if_false]

/-- Settles O13: a stall and a lost bridge by whether the axis is driven, then the coil faults by their counts and the ADC check by its
limits. -/
theorem axisFaults : Obligations.AxisFaults := by
  unfold Obligations.AxisFaults
  rintro s t n p c rfl live
  refine ⟨fun cycles driving sound => ?stall, fun undriven => ⟨?noStall, ?noLoss⟩, fun driving lost => ?bridgeLoss, ?overcurrent,
    fun long => ?openPhase, fun short => ?noOpenPhase, fun long => ?sag, fun short => ?noSag, fun o e offsetOk refOk => ?adcPassed,
    fun o e refBad passedBefore => ?adcFailed⟩
  case stall => exact .ofRun (exec_stall ..) live (Chip.stallAxis_of_due _ n cycles driving sound)
  case noStall => exact .ofRun (exec_stall ..) live (Chip.stallAxis_of_undriven _ n undriven)
  case noLoss => exact .ofRun (exec_bridgeEnableLoss ..) live (Chip.bridgeLoss_of_undriven _ n undriven)
  case bridgeLoss => exact .ofRun (exec_bridgeEnableLoss ..) live (Chip.bridgeLoss_of_lost _ n driving lost)
  case overcurrent => exact .ofRun (exec_overcurrent ..) live rfl
  case openPhase => exact .ofRun (exec_openPhase ..) live (Chip.openPhase_of_run _ n p long)
  case noOpenPhase => exact .ofRun (exec_openPhase ..) live (Chip.openPhase_of_short _ n p short)
  case sag => exact .ofRun (exec_currentSag ..) live (Chip.currentSag_of_run _ n p long)
  case noSag => exact .ofRun (exec_currentSag ..) live (Chip.currentSag_of_short _ n p short)
  case adcPassed => exact .ofRun (exec_adcCheck ..) live (Chip.adcCheck_of_passed _ n o e offsetOk refOk)
  case adcFailed =>
    exact .ofRun (exec_adcCheck ..) live ((Chip.adcCheck_of_failed _ _ n o e (.inr refBad) rfl).trans (if_pos passedBefore))

end Sys2Proof.Machine

/-! ## Pulsed inputs and the read-back of the TPOs (spec/09 R184, R200, spec/21 R486) -/

namespace Sys2Proof.Machine

/-- A command gives one chip: what two chips that it gives hold in VOTE is the same. -/
theorem Gives.vote_unique {i : Instr} {s : State} {t : Nat} {k k' : Chip} (h : Gives i s t k) (h' : Gives i s t k') :
    k.vote = k'.vote := by
  have same : (s.chip.begin t).finish k = (s.chip.begin t).finish k' :=
    congrArg State.chip (Host.Outcome.next.inj (h.symm.trans h'))
  simpa only [Chip.finish_vote] using congrArg Chip.vote same

theorem exec_pulsedInputCheck (t : Nat) (k : Fin 4) (la lb lc : BitVec 24) (tpoOk : Bool) (s : State) :
    exec (.pulsedInputCheck t k la lb lc tpoOk) s =
      run .island t (fun c => c.pulsedCheck k la.toNat lb.toNat lc.toNat tpoOk) s := rfl

/-- The chip with the read-back of TPO `k`: the record of the TPOs whose last pulse did not read back, and VOTE_RB (R200). -/
def Chip.tpoRead (c : Chip) (k : Nat) (ok : Bool) : Chip :=
  ({ c with vote := { c.vote with tpoBad := setBit c.vote.tpoBad k (!ok) } } : Chip).putBit VOTE_RB_TPO k ok

@[simp] theorem Chip.tpoRead_tpoBad (c : Chip) (k : Nat) (ok : Bool) :
    (c.tpoRead k ok).vote.tpoBad = setBit c.vote.tpoBad k (!ok) := by
  unfold Chip.tpoRead
  rw [Chip.putBit_vote]

/-- A check at which no pulsed input is in fault, before or after, takes the readings `m` and then the read-back, which raises F0407 where
it differs; the check of TPO 3 also ends a frame of the pulse hold. -/
theorem Chip.pulsedCheck_of_sound (c m : Chip) (k la lb lc : Nat) (ok : Bool) (fromNor : c.sys.fromNor = true) (notLast : k ≠ 3)
    (readings : m = c.setReadings (fun i x => x.check c k (if i = 0 then la else if i = 1 then lb else lc) (c.pair.pulseHold != 0)))
    (soundBefore : c.sinFaults = 0) (soundAfter : m.sinFaults = 0) :
    c.pulsedCheck k la lb lc ok = if ok then m.tpoRead k ok else (m.tpoRead k ok).raise 0x0407 := by
  have noneNew : Nat.land 0 (Nat.xor (2 ^ 24 - 1) 0) = 0 := Nat.zero_and _
  subst readings
  unfold Chip.pulsedCheck
  simp only [fromNor, Bool.true_eq_false, if_false, soundBefore, soundAfter, noneNew, ne_eq, not_true_eq_false, false_and, notLast]
  rfl

/-- A chip with SAFE and APP from NOR, no safety input enabled, every TPO read back as driven so far. -/
def State.fromNor : State := { chip := { sys := { started := true, fromNor := true } }, pending := [] }

/-- The readings of that chip after a check of TPO 0. -/
def Chip.checkedFromNor : Chip :=
  let c := State.fromNor.chip.begin 0
  c.setReadings (fun i x => x.check c 0 (if i = 0 then 0 else if i = 1 then 0 else 0) (c.pair.pulseHold != 0))

theorem Chip.checkedFromNor_sound : Chip.checkedFromNor.sinFaults = 0 := by decide

theorem Chip.checkedFromNor_tpoBad : Chip.checkedFromNor.vote.tpoBad = 0 := by decide

/-- A TPO 0 that does not read back on that chip is recorded and raises F0407. -/
theorem pulsedInputCheck_fromNor_gives : Gives (.pulsedInputCheck 0 0 0 0 0 false) State.fromNor 0
    ((Chip.checkedFromNor.tpoRead 0 false).raise 0x0407) :=
  .ofRun (exec_pulsedInputCheck ..) rfl
    (Chip.pulsedCheck_of_sound _ Chip.checkedFromNor 0 0 0 0 false rfl (by decide) rfl rfl Chip.checkedFromNor_sound)

/-- Refutes O16: its clause of the read-back sets VOTE_RB and raises F0407 and leaves the rest of the readings' chip as it was, where the
check also records the TPO as not read back (R200), on which the end of F0407 depends (R486, log 84). On a chip from NOR whose TPO 0 reads
back wrongly for the first time the two differ in that record. -/
theorem not_safetyInputs : ¬ Obligations.SafetyInputs := by
  unfold Obligations.SafetyInputs
  rintro ⟨inputs, -⟩
  obtain ⟨-, checks, -⟩ := inputs State.fromNor 0 0 _ rfl rfl
  obtain ⟨-, stated⟩ := checks 0 0 0 0 rfl (by decide) Chip.checkedFromNor rfl rfl Chip.checkedFromNor_sound
  have sameRecord := congrArg VoteSt.tpoBad (pulsedInputCheck_fromNor_gives.vote_unique stated)
  rw [Chip.raise_vote, Chip.raise_vote, Chip.tpoRead_tpoBad, Chip.putBit_vote, Chip.checkedFromNor_tpoBad] at sameRecord
  exact absurd sameRecord (by decide)

end Sys2Proof.Machine

/-! ## Cameras (spec/10 R218 to R223) -/

namespace Sys2Proof.Machine

/-! ### The meanings of the commands -/

theorem exec_frameStart (t : Nat) (n : Fin 2) (fn : Nat) (s : State) :
    exec (.frameStart t n fn) s = run .app t (fun c => c.frameStart n fn) s := rfl
theorem exec_longPacket (t : Nat) (n : Fin 2) (p : CsiPacket) (s : State) :
    exec (.longPacket t n p) s = run .app t (fun c => c.longPacket n p) s := rfl
theorem exec_frameEnd (t : Nat) (n : Fin 2) (s : State) : exec (.frameEnd t n) s = run .app t (fun c => c.frameEnd n) s := rfl
theorem exec_streamLoss (t : Nat) (n : Fin 2) (s : State) : exec (.streamLoss t n) s = run .app t (fun c => c.streamLoss n) s := rfl

/-! ### Receivers that are off (R218) -/

section Receiver

variable {c : Chip} {n : Nat}

/-- Whether a receiver takes no packet: its camera is disabled, or the part has none. -/
def Chip.camDeaf (c : Chip) (n : Nat) : Prop := ¬ c.is (NOS_CAM_CFG_EN n) ∨ c.fuses.partN

theorem Chip.camDeaf_of_off (off : c.fuses.partN = true ∨ c.is (NOS_CAM_CFG_EN n) = false) : c.camDeaf n :=
  off.symm.imp Bool.eq_false_iff.mp id

theorem Chip.not_camDeaf (part : c.fuses.partN = false) (enabled : c.is (NOS_CAM_CFG_EN n) = true) : ¬ c.camDeaf n := by
  simp [Chip.camDeaf, part, enabled]

theorem Chip.frameStart_of_deaf (deaf : c.camDeaf n) (fn : Nat) : c.frameStart n fn = c := if_pos deaf
theorem Chip.longPacket_of_deaf (deaf : c.camDeaf n) (p : CsiPacket) : c.longPacket n p = c := if_pos deaf
theorem Chip.frameEnd_of_deaf (deaf : c.camDeaf n) : c.frameEnd n = c := if_pos deaf

end Receiver

/-- Control and status of a receiver are two registers (section 10.10). -/
theorem camCfg_ne_camStat (n : Nat) : NOS_CAM_CFG_REG n ≠ NOS_CAM_STAT_REG n := by
  unfold NOS_CAM_CFG_REG NOS_CAM_STAT_REG
  omega

/-- The chip with F0A03 ended where every enabled camera shows its stream (R223). -/
def Chip.streamsShown (c : Chip) : Chip :=
  if c.is (NOS_CAM_STAT_STREAM 0) = c.is (NOS_CAM_CFG_EN 0) ∧ c.is (NOS_CAM_STAT_STREAM 1) = c.is (NOS_CAM_CFG_EN 1) then
    c.endCondition 0x0A03
  else c

section Packets

variable {c : Chip} {n : Nat} (hears : ¬ c.camDeaf n)
include hears

/-! ### Frame Start (R221, R222) -/

/-- The first Frame Start of a receiver whose stream is up loses no frame and makes no jump: it shows its index (`k`), the count of lost
frames written as it was (`m`), and may end F0A03. -/
theorem Chip.frameStart_of_first (fn : Nat) (k m : Chip) (first : (c.camSt n).fn = none)
    (hk : k = ((c.setCam n (fun x => { x with
        fn := some (fn % 65536), fidx := c.firstFidx n (fn % 65536), fsAt := c.now, lines := 0, short := false })).set64
      (NOS_CAM_FIDX_LO_FIDX n) (NOS_CAM_FIDX_HI_FIDX n) (c.firstFidx n (fn % 65536))).set64 (NOS_CAM_FS_TS_LO_TS n) (NOS_CAM_FS_TS_HI_TS n) c.now)
    (hm : m = k.set (NOS_CAM_ERR_FRAMES_LOST n) (satNat 8 (k.get (NOS_CAM_ERR_FRAMES_LOST n))))
    (streaming : m.is (NOS_CAM_STAT_STREAM n) = true) : c.frameStart n fn = m.streamsShown := by
  subst hm hk
  refine (if_neg hears).trans ?_
  simp only [first]
  exact congrArg Chip.streamsShown (if_pos streaming)

/-! ### Long packets (R219, R220) -/

/-- An uncorrectable header marks the frame short. -/
theorem Chip.longPacket_of_badHeader {p : CsiPacket} (bad : p.ecc = 2) :
    c.longPacket n p = (c.markShort n).raiseArg 0x0A01 0 n := (if_neg hears).trans (if_pos bad)

/-- A data type that no camera sends is counted. -/
theorem Chip.longPacket_of_ignored {p : CsiPacket} (clean : p.ecc = 0) (notRaw10 : p.dt ≠ 0x2B) (notRaw12 : p.dt ≠ 0x2C)
    (notYuv : p.dt ≠ 0x1E) : c.longPacket n p = c.incSat (NOS_CAM_ERR_DT_IGN n) := by
  refine (if_neg hears).trans ((if_neg (by simp [clean])).trans ?_)
  simp [clean, notRaw10, notRaw12, notYuv]

/-- A packet of another virtual channel is dropped. -/
theorem Chip.longPacket_of_otherVc {p : CsiPacket} (clean : p.ecc = 0) (raw10 : p.dt = 0x2B)
    (other : p.vc.val ≠ c.get (NOS_CAM_CFG_VC n)) : c.longPacket n p = c := by
  refine (if_neg hears).trans ((if_neg (by simp [clean])).trans ?_)
  simp [clean, raw10, other]

/-- A line of the frame is sampled by its domain and stored. -/
theorem Chip.longPacket_of_line {p : CsiPacket} (clean : p.ecc = 0) (raw10 : p.dt = 0x2B) (own : p.vc.val = c.get (NOS_CAM_CFG_VC n))
    (raw10Camera : c.get (NOS_CAM_CFG_DT n) = 0) (room : (c.camSt n).lines < c.get (NOS_CAM_GEOM_LINES n)) : c.longPacket n p =
      ((c.setCam n (fun x => { x with lines := (c.camSt n).lines + 1 })).lineSample n (c.camSt n).lines).storeLine n (c.camSt n).lines p := by
  refine (if_neg hears).trans ((if_neg (by simp [clean])).trans ?_)
  simp [clean, raw10, own, raw10Camera, room]

/-! ### Frame End (R220) -/

/-- A complete frame of a camera without jobs at the Frame End shows its lines and whether it was short. -/
theorem Chip.frameEnd_of_complete (noJobs : c.is (NOS_CAM_CFG_FE_EN n) = false) (complete : c.get (NOS_CAM_GEOM_LINES n) ≤ (c.camSt n).lines) :
    c.frameEnd n = (c.set (NOS_CAM_STAT_FRAME_LINES n) (c.camSt n).lines).put (NOS_CAM_STAT_SHORT n) (c.camSt n).short := by
  have shown : ((c.set (NOS_CAM_STAT_FRAME_LINES n) (c.camSt n).lines).put (NOS_CAM_STAT_SHORT n) (c.camSt n).short).is
      (NOS_CAM_CFG_FE_EN n) = false := by
    rw [Chip.is_put_ne _ (NOS_CAM_STAT_SHORT n) _ _ (camCfg_ne_camStat n),
      Chip.is_set_ne _ (NOS_CAM_STAT_FRAME_LINES n) _ _ (camCfg_ne_camStat n), noJobs]
  refine (if_neg hears).trans ?_
  simp only [if_neg (Nat.not_lt.mpr complete)]
  exact if_neg (Bool.eq_false_iff.mp shown)

end Packets

/-! ### The loss of a stream (R223) -/

theorem Chip.streamLoss_of_due (c : Chip) (n : Nat) (streaming : c.is (NOS_CAM_STAT_STREAM n) = true)
    (silent : 100000000 ≤ c.now - (c.camSt n).fsAt) : c.streamLoss n = (c.camShow n false).raiseArg 0x0A03 0 n :=
  if_pos ⟨.inl streaming, silent⟩

theorem Chip.streamLoss_of_recent (c : Chip) (n : Nat) (recent : c.now - (c.camSt n).fsAt < 100000000) : c.streamLoss n = c :=
  if_neg (fun due => Nat.not_le.mpr recent due.2)

/-- Settles O17: packets that no receiver takes, the first Frame Start, the long packets by header, data type, channel and line, then the
end of a frame and the loss of a stream. -/
theorem cameraFrames : Obligations.CameraFrames := by
  unfold Obligations.CameraFrames
  refine ⟨?packets, ?ends⟩
  case packets =>
    rintro s t n c rfl live
    refine ⟨fun fn p off => ⟨?_, ?_, ?_⟩, fun fn k part enabled first hk m hm streaming => ?frameStart, fun p part enabled =>
      ⟨fun bad => ?_, fun clean notRaw10 notRaw12 notYuv => ?_, fun clean raw10 other => ?_, fun clean raw10 own raw10Camera room => ?_⟩⟩
    · exact .ofRun (exec_frameStart ..) live (Chip.frameStart_of_deaf (Chip.camDeaf_of_off off) fn)
    · exact .ofRun (exec_longPacket ..) live (Chip.longPacket_of_deaf (Chip.camDeaf_of_off off) p)
    · exact .ofRun (exec_frameEnd ..) live (Chip.frameEnd_of_deaf (Chip.camDeaf_of_off off))
    case frameStart =>
      exact .ofRun (exec_frameStart ..) live (Chip.frameStart_of_first (Chip.not_camDeaf part enabled) fn k m first hk hm streaming)
    all_goals refine .ofRun (exec_longPacket ..) live ?_
    · exact Chip.longPacket_of_badHeader (Chip.not_camDeaf part enabled) bad
    · exact Chip.longPacket_of_ignored (Chip.not_camDeaf part enabled) clean notRaw10 notRaw12 notYuv
    · exact Chip.longPacket_of_otherVc (Chip.not_camDeaf part enabled) clean raw10 other
    · exact Chip.longPacket_of_line (Chip.not_camDeaf part enabled) clean raw10 own raw10Camera room
  case ends =>
    rintro s t n c rfl live
    refine ⟨fun part enabled noJobs complete => ?_, fun streaming silent => ?_, fun recent => ?_⟩
    · exact .ofRun (exec_frameEnd ..) live (Chip.frameEnd_of_complete (Chip.not_camDeaf part enabled) noJobs complete)
    · exact .ofRun (exec_streamLoss ..) live (Chip.streamLoss_of_due _ n streaming silent)
    · exact .ofRun (exec_streamLoss ..) live (Chip.streamLoss_of_recent _ n recent)

end Sys2Proof.Machine

/-! ## NOS_ENABLE and the end of the LPDDR4X training (spec/10 R240, spec/11 R261) -/

namespace Sys2Proof.Machine

theorem exec_nosEnable (t : Nat) (s : State) : exec (.nosEnable t) s = run .app t (fun c => c.nosEnable) s := rfl
theorem exec_lpddr4xTrainingEnd (t : Nat) (ok : Bool) (attempts : Nat) (s : State) :
    exec (.lpddr4xTrainingEnd t ok attempts) s = run .app t (fun c => c.ddrTrained ok attempts) s := rfl

/-- The CV-4410N has no engine. -/
theorem Chip.nosEnable_of_partN (c : Chip) (part : c.fuses.partN = true) : c.nosEnable = c := if_pos (.inl part)

/-- With no tenant enabled the start of the engine loads no container: it sets ENABLE and begins the training anew. -/
theorem Chip.nosEnable_of_noTenant (c k : Chip) (part : c.fuses.partN = false) (off : c.is NOS_CTRL_ENABLE = false)
    (hk : k = (((c.put NOS_CTRL_ENABLE true).put VMC_STAT_DDR_READY false).put VMC_DDR_STAT_TRAINED false).put VMC_DDR_STAT_TRAIN_FAIL false)
    (noTenant : k.get NOS_CTRL_TEN_EN = 0) : c.nosEnable = k := by
  have loadsNone : ∀ n, k.bit NOS_CTRL_TEN_EN n = false := fun n => by simp [Chip.bit, bitAt, noTenant]
  unfold Chip.nosEnable
  rw [if_neg (by simp [part, off])]
  simp only [← hk, List.foldl_cons, List.foldl_nil, loadsNone, Bool.false_eq_true, if_false]

section Training

variable {c : Chip} (enabled : c.is NOS_CTRL_ENABLE = true) (untrained : c.is VMC_STAT_DDR_READY = false)
include enabled untrained

theorem Chip.ddrTrained_of_failed (n : Nat) : c.ddrTrained false n =
    ((c.set VMC_DDR_STAT_ATTEMPTS (min n 3)).put VMC_DDR_STAT_TRAIN_FAIL true).raise 0x0B05 := by
  unfold Chip.ddrTrained
  rw [if_neg (by simp [enabled, untrained])]
  rfl

/-- Memory and engine are ready (`k`), and the loaded tenants start in order. -/
theorem Chip.ddrTrained_of_passed (n : Nat) (k : Chip)
    (hk : k = ((((c.set VMC_DDR_STAT_ATTEMPTS (min n 3)).put VMC_DDR_STAT_TRAINED true).put VMC_STAT_DDR_READY true).put NOS_STAT_RUNNING
      true).endCondition 0x0B05) : c.ddrTrained true n = (((k.tenantStart 0).tenantStart 1).tenantStart 2).tenantStart 3 := by
  subst hk
  unfold Chip.ddrTrained
  rw [if_neg (by simp [enabled, untrained])]
  rfl

end Training

/-- Settles O18: the start of the engine by part and tenants, the end of the training by its result. -/
theorem engineEnable : Obligations.EngineEnable := by
  unfold Obligations.EngineEnable
  rintro s t c k rfl live
  refine ⟨fun part => ?_, fun part off hk noTenant => ?_, fun n enabled untrained => ?_, fun n enabled untrained hk => ?_⟩
  · exact .ofRun (exec_nosEnable ..) live (Chip.nosEnable_of_partN _ part)
  · exact .ofRun (exec_nosEnable ..) live (Chip.nosEnable_of_noTenant _ k part off hk noTenant)
  · exact .ofRun (exec_lpddr4xTrainingEnd ..) live (Chip.ddrTrained_of_failed enabled untrained n)
  · exact .ofRun (exec_lpddr4xTrainingEnd ..) live (Chip.ddrTrained_of_passed enabled untrained n k hk)

end Sys2Proof.Machine

/-! ## The layers of the vision engine (spec/10 R228 to R239, spec/11 R253, R255, log 28) -/

namespace Sys2Proof.Machine

/-! ### The meanings of the commands -/

/-- Each layer command runs the operation of its opcode (Table 10-4). -/
theorem exec_layerCommand {t : Nat} {clu : Fin 4} {i : Instr} {op : Nat}
    (command : (i, op) ∈ [(Instr.conv t clu, 0), (.dwconv t clu, 1), (.pool t clu, 2), (.add t clu, 3), (.mul t clu, 4),
      (.act t clu, 5), (.resize t clu, 6), (.concat t clu, 7), (.warp t clu, 8), (.diff t clu, 9), (.regsum t clu, 10),
      (.thresh t clu, 11)]) (s : State) : exec i s = run .app t (fun c => c.layer clu op) s := by
  simp only [List.mem_cons, Prod.mk.injEq, List.not_mem_nil, or_false] at command
  rcases command with ⟨rfl, rfl⟩ | ⟨rfl, rfl⟩ | ⟨rfl, rfl⟩ | ⟨rfl, rfl⟩ | ⟨rfl, rfl⟩ | ⟨rfl, rfl⟩ | ⟨rfl, rfl⟩ | ⟨rfl, rfl⟩ |
    ⟨rfl, rfl⟩ | ⟨rfl, rfl⟩ | ⟨rfl, rfl⟩ | ⟨rfl, rfl⟩ <;> rfl

/-! ### A layer by its job, its opcode, its window and its lines -/

/-- A cluster without a job runs no layer. -/
theorem Chip.layer_of_idle (c : Chip) (clu op : Nat) (idle : c.runOn clu = none) : c.layer clu op = c := by
  unfold Chip.layer
  rw [idle]

/-- A ring line that the frame holds, captured well (R224, R228). -/
def Chip.lineSound (c : Chip) (r : JobRun) (n : Int) : Prop := ∃ x, c.ringLine r.cam r.fidx n = some x ∧ x.bad = false

/-- Of sound lines none is stale. -/
theorem Chip.stale_eq_nil {c : Chip} {r : JobRun} {lines : List Int} (sound : ∀ n ∈ lines, c.lineSound r n) :
    lines.filter (fun n => (c.ringLine r.cam r.fidx n).isNone && decide (n < r.l)) = [] := by
  refine List.filter_eq_nil_iff.mpr fun n hn => ?_
  obtain ⟨x, held, -⟩ := sound n hn
  simp [held]

/-- Of sound lines none is bad. -/
theorem Chip.any_bad_eq_false {c : Chip} {r : JobRun} {lines : List Int} {bad : Int → Bool} (sound : ∀ n ∈ lines, c.lineSound r n)
    (held : ∀ n x, c.ringLine r.cam r.fidx n = some x → bad n = x.bad) : lines.any bad = false := by
  refine List.any_eq_false.mpr fun n hn => ?_
  obtain ⟨x, hx, good⟩ := sound n hn
  simp [held n x hx, good]

/-- Whether an operand or a table of a descriptor lies outside a window of `size` bytes (R231, R233). -/
def descOutside (size op : Nat) (d : List Byte) (a b o : Opd) : Prop :=
  opdIn a size = false ∨ (usesIn1 op ∧ opdIn b size = false) ∨ (bitAt (leAt d 0 1) 5 = false ∧ opdIn o size = false) ∨
    (tablesOf d op o).any (fun x => decide (size < x.1 + x.2))

/-- A descriptor with its inputs, its output and its tables inside the window lies inside it. -/
theorem not_descOutside {size op : Nat} {d : List Byte} {a b o : Opd} (in0 : opdIn a size = true)
    (in1 : usesIn1 op = true → opdIn b size = true) (out : bitAt (leAt d 0 1) 5 = false → opdIn o size = true)
    (tables : (tablesOf d op o).any (fun x => decide (size < x.1 + x.2)) = false) : ¬ descOutside size op d a b o := by
  rintro (h | ⟨used, h⟩ | ⟨written, h⟩ | h)
  · simp [in0] at h
  · simp [in1 used] at h
  · simp [out written] at h
  · exact Bool.false_ne_true (tables.symm.trans h)

section Layer

variable {c : Chip} {clu op : Nat} {r : JobRun} {d : List Byte} {a b o : Opd} (onCluster : c.runOn clu = some r) (going : r.ended = false)
  (hd : d = descAt (c.tenant r.ten).descs ((c.jobOf r).first + r.done)) (whole : d.length = 64)
include onCluster hd

/-- A descriptor of another opcode waits for that opcode's command. -/
theorem Chip.layer_of_otherOp (other : leAt d 0 1 % 16 ≠ op) : c.layer clu op = c := by
  subst hd
  unfold Chip.layer
  rw [onCluster]
  exact if_pos (.inr (.inr other))

include going whole
variable (opcode : leAt d 0 1 % 16 = op) (ha : a = opdOf d 0) (hb : b = opdOf d 1) (ho : o = opdOf d 2)
include opcode ha hb ho

/-- An access outside the window abandons the job (R231). -/
theorem Chip.layer_of_outside (outside : descOutside (c.get (NOS_TEN_SIZE_SIZE r.ten)) op d a b o) :
    c.layer clu op = (c.abandon r).raiseArg 0x0A05 r.ten r.ten := by
  subst ha hb ho hd
  unfold Chip.layer
  rw [onCluster]
  exact (if_neg (by simp [going, whole, opcode])).trans (if_pos outside)

/-- An access inside the window and beyond the declared density abandons the job (R255, log 28). -/
theorem Chip.layer_of_beyond (inside : ¬ descOutside (c.get (NOS_TEN_SIZE_SIZE r.ten)) op d a b o)
    (beyond : c.beyondDdr r.ten op d a b o = true) :
    c.layer clu op = (c.abandon r).raiseArg 0x0B07 r.ten (c.get (NOS_TEN_BASE_OFS r.ten) + a.addr) := by
  subst ha hb ho hd
  unfold Chip.layer
  rw [onCluster]
  exact (if_neg (by simp [going, whole, opcode])).trans ((if_neg inside).trans (if_pos beyond))

/-- A layer whose accesses all fall on installed memory of its window, and whose ring lines are all sound, gives its rows (`k`), drops the
whey regions of its inputs (`m`), and moves the job on. -/
theorem Chip.layer_of_inside (k m : Chip) (inside : ¬ descOutside (c.get (NOS_TEN_SIZE_SIZE r.ten)) op d a b o)
    (installed : c.beyondDdr r.ten op d a b o = false) (sound : ∀ n ∈ c.linesRead r d op a b, c.lineSound r n)
    (rows : List (Nat × List Byte)) (hrows : rows = (List.range o.h).map (fun y => (y, c.layerRow r d op a b o y)))
    (hk : k = if bitAt (leAt d 0 1) 5 = true then
        c.setRun r (fun x => { x with rows := x.rows ++ rows.map (fun p => (leAt d 1 1 + p.1, p.2)) })
      else rows.foldl (fun c p => c.cluWrite clu (c.get (NOS_TEN_BASE_OFS r.ten) + o.addr + p.1 * o.stride) p.2) c)
    (hm : m = ((k.wheyOf clu r.ten a true).wheyOf clu r.ten b (usesIn1 op)).tickFree) : c.layer clu op =
      m.setRun r (fun x => { x with done := x.done + 1, ended := bitAt (leAt d 0 1) 4, layerAt := m.now, bad := x.bad }) := by
  subst hm hk hrows ha hb ho hd
  unfold Chip.layer
  rw [onCluster]
  refine (if_neg (by simp [going, whole, opcode])).trans ((if_neg inside).trans ((if_neg (by simp [installed])).trans ?_))
  simp only [Chip.stale_eq_nil sound, List.isEmpty_nil, if_true]
  rw [Chip.any_bad_eq_false sound (fun n x held => ?_)]
  · simp only [Bool.not_true, Bool.or_false]
  · rw [held]

end Layer

/-- Settles O19: the job on the cluster and the opcode of its next descriptor decide whether the layer runs, then the window, the declared
density and the soundness of the lines what it does. -/
theorem layerCommands : Obligations.LayerCommands := by
  unfold Obligations.LayerCommands
  rintro s t clu c k i op rfl live command
  have gives : ∀ {x}, (s.chip.begin t).layer clu op = x → Gives i s t x := .ofRun (exec_layerCommand command s) live
  refine ⟨fun idle => gives (Chip.layer_of_idle _ _ _ idle), fun r d a b o onCluster going hd whole ha hb ho =>
    ⟨fun other => ?otherOp, fun opcode in0 => ?in0Outside, fun opcode in0 in1 out tables => ⟨fun beyond => ?beyond,
      fun installed sound rows hrows hk m hm => ?runs⟩⟩⟩
  case otherOp => exact gives (Chip.layer_of_otherOp onCluster hd other)
  case in0Outside => exact gives (Chip.layer_of_outside onCluster going hd whole opcode ha hb ho (.inl in0))
  case beyond =>
    exact gives (Chip.layer_of_beyond onCluster going hd whole opcode ha hb ho (not_descOutside in0 in1 out tables) beyond)
  case runs =>
    exact gives (Chip.layer_of_inside onCluster going hd whole opcode ha hb ho k m (not_descOutside in0 in1 out tables) installed sound
      rows hrows hk hm)

end Sys2Proof.Machine

/-! ## Accesses at the L2 and the fills of its lines (spec/11 R245 to R256, R259) -/

namespace Sys2Proof.Machine

/-! ### The meanings of the commands -/

/-- An access that finds no ECC error is a plain access of its agent. -/
theorem exec_l2Read_sound (t : Nat) (agent : Fin 6) (off len : Nat) (s : State) :
    exec (.l2Read t agent off len 0) s = run .app t (fun c => c.agentRead agent off len) s := rfl
theorem exec_l2Write_sound (t : Nat) (agent : Fin 6) (off : Nat) (bytes : List Byte) (s : State) :
    exec (.l2Write t agent off bytes 0) s =
      run .app t (fun c => c.l2Access { agent := agent, off := off, len := bytes.length, wr := some bytes }) s := rfl
theorem exec_fillComplete (t off : Nat) (s : State) : exec (.fillComplete t off) s = run .app t (fun c => c.fillDone off) s := rfl

/-! ### Bytes written to memory -/

/-- A write of bytes changes memory only. -/
theorem Chip.wrBytes_eq (bs : List Byte) : ∀ (c : Chip) (a : Nat), ∃ m, c.wrBytes a bs = { c with mem := m } := by
  induction bs with
  | nil => exact fun c _ => ⟨c.mem, rfl⟩
  | cons b bs ih => exact fun c a => ih (c.wrB a b) (a + 1)

@[simp] theorem Chip.wrBytes_vmc (bs : List Byte) (c : Chip) (a : Nat) : (c.wrBytes a bs).vmc = c.vmc := by
  obtain ⟨m, h⟩ := Chip.wrBytes_eq bs c a
  rw [h]

@[simp] theorem Chip.wrBytes_flt (bs : List Byte) (c : Chip) (a : Nat) : (c.wrBytes a bs).flt = c.flt := by
  obtain ⟨m, h⟩ := Chip.wrBytes_eq bs c a
  rw [h]

/-- Each byte written reads as it was written. -/
theorem Chip.rdB_wrBytes_self (bs : List Byte) : ∀ (c : Chip) (a j : Nat) (h : j < bs.length),
    (c.wrBytes a bs).rdB (a + j) = bs[j] := by
  induction bs with
  | nil => exact fun _ _ _ h => absurd h (Nat.not_lt_zero _)
  | cons b bs ih =>
    intro c a j h
    cases j with
    | zero =>
      exact (Chip.rdB_wrBytes_ne bs (c.wrB a b) (a + 1) a (.inl (Nat.lt_succ_self a))).trans ((Chip.rdB_wrB c a a b).trans (if_pos rfl))
    | succ j =>
      rw [show a + (j + 1) = a + 1 + j by omega]
      exact ih (c.wrB a b) (a + 1) j (Nat.lt_of_succ_lt_succ h)

/-! ### One request at the L2 (R249, R250, R255, R259) -/

section Access

variable {c : Chip} {r : L2Req}

/-- The installed memory bounds every access (R255). -/
theorem Chip.l2Access_of_beyond (beyond : c.ddrSize < r.off + max 1 r.len) : c.l2Access r = c.vmcRefuse r.agent r.off := if_pos beyond

variable (installed : r.off + max 1 r.len ≤ c.ddrSize)
include installed

/-- The application core goes past the L2 to the window of a tenant that does not run (R259). -/
theorem Chip.l2Access_of_uncached (app : r.agent = 4) (window : c.partOf r.off < 4) (unshared : c.sharedAt r.off 4 = false)
    (stopped : c.is (NOS_TEN_STAT_RUNNING (c.partOf r.off)) = false) :
    c.l2Access r = match r.wr with | some bs => c.wrBytes (ddrAddr r.off) bs | none => c := by
  unfold Chip.l2Access
  exact (if_neg (Nat.not_lt.mpr installed)).trans ((if_pos ⟨app, window, unshared⟩).trans (if_neg (Bool.eq_false_iff.mp stopped)))

/-- A read that finds every one of its sectors in a line is counted and delivered (R249, R266). -/
theorem Chip.l2Access_of_hit {x : L2Line} {k : Chip} (read : r.wr = none) (cached : c.partOf r.off = 4)
    (counted : k = c.pmc 0 4 1) (owned : k.slices 4 ≠ []) (present : k.l2Line r.off = some x)
    (hit : (sectorsOf r.off r.len).all (fun o => x.holds o) = true) : c.l2Access r = k.deliver r := by
  subst counted
  unfold Chip.l2Access
  refine (if_neg (Nat.not_lt.mpr installed)).trans ((if_neg (by simp [cached])).trans ?_)
  simp only [read, cached, owned, present, hit, if_true, if_false]

end Access

section Read

variable (c : Chip) {off len : Nat}

theorem Chip.agentRead_of_beyond (agent : Nat) (beyond : c.ddrSize < off + max 1 len) :
    c.agentRead agent off len = c.vmcRefuse agent off := if_pos beyond

/-- A read of the application core inside one line is one request (R252). -/
theorem Chip.agentRead_of_line (installed : off + max 1 len ≤ c.ddrSize) (line : off % 128 + len ≤ 128) :
    c.agentRead 4 off len = c.l2Access { agent := 4, off := off, len := len, wr := none } := by
  have one : cutLine off len = [(off, len)] := if_pos line
  refine (if_neg (Nat.not_lt.mpr installed)).trans ((if_neg (Nat.lt_irrefl 4)).trans ?_)
  rw [one, List.foldl_cons, List.foldl_nil]

end Read

/-! ### Fills (R252, R254) -/

/-- An input at which nothing waits has nothing to run again. -/
theorem Chip.runHeld_of_none (c : Chip) (slice : Nat) (noHeld : c.vmc.held = []) : c.runHeld slice = c := by
  unfold Chip.runHeld
  simp only [noHeld, List.filter_nil, List.foldl_nil]
  rw [← noHeld]

/-- The chip with the sectors of a fill of a normal line valid and their bytes counted (R252, R266). -/
def Chip.sectorsFilled (c : Chip) (m : Mshr) : Chip :=
  (c.setL2 m.base (fun x =>
    if x.churn then { x with st := [2], data := c.rdBytes (ddrAddr x.base) 2048 }
    else { x with
      data := [0, 1, 2, 3].foldl (fun d i => if bitAt m.fill i then patch d (32 * i) (c.rdBytes (ddrAddr (x.base + 32 * i)) 32) else d) x.data
      st := (List.range 4).map (fun i => if bitAt m.fill i ∧ (x.st[i]?).getD 0 = 3 then 1 else (x.st[i]?).getD 0) })).pmc 6 (c.partOf m.base)
    (32 * ((List.range 4).filter (fun i => bitAt m.fill i)).length)

theorem Chip.fillDone_of_none (c : Chip) (off : Nat) (noFill : c.vmc.mshr = []) : c.fillDone off = c := by
  unfold Chip.fillDone
  rw [noFill, List.find?_nil]

/-- The fill of a lone register with one read waiting: the sectors are filled, the read is delivered (`d`), the register is free (`k`), and
where nothing waits to be run again nothing else happens. -/
theorem Chip.fillDone_of_read {c d k : Chip} {off : Nat} {m : Mshr} {r : L2Req} {x : L2Line} (lone : c.vmc.mshr = [m])
    (low : m.base ≤ off) (high : off < m.base + c.lineSize (c.partOf m.base)) (normal : c.is (VMC_PART_CFG_MODE (c.partOf m.base)) = false)
    (noSecond : m.second = 0) (noDrop : m.drop = false) (waiting : m.reqs = [r]) (read : r.wr = none)
    (present : (c.sectorsFilled m).l2Line r.off = some x) (holds : (sectorsOf r.off r.len).all (fun o => x.holds o) = true)
    (delivered : d = (c.sectorsFilled m).deliver r) (noReplay : d.vmc.replay = []) (noHeld : d.vmc.held = [])
    (freed : k = { d with vmc := { d.vmc with mshr := d.vmc.mshr.filter (fun y => y.base != m.base) } }) : c.fillDone off = k := by
  have found : c.vmc.mshr.find? (fun m => decide (m.base ≤ off) && decide (off < m.base + c.lineSize (c.partOf m.base))) = some m := by
    rw [lone, List.find?_cons_of_pos]
    simp [low, high]
  unfold Chip.fillDone
  rw [found]
  dsimp -zeta only
  extract_lets p slice full last lines bytes filled merged served answered _ out stalled written dropped replays kept left rerun
  have few : (c.vmc.mshr.filter (fun y => y.slice == slice)).length ≤ 1 :=
    (List.length_filter_le ..).trans_eq (congrArg List.length lone)
  have notFull : full = false := decide_eq_false (Nat.not_le.mpr (Nat.lt_of_le_of_lt few (by decide)))
  have hbytes : bytes = 32 * ((List.range 4).filter (fun i => bitAt m.fill i)).length := if_neg (Bool.eq_false_iff.mp normal)
  have hfilled : filled = c.sectorsFilled m := congrArg (lines.pmc 6 p) hbytes
  have hmerged : merged = c.sectorsFilled m := (if_neg (by simp [waiting, read])).trans hfilled
  have hserved : served = [r] := by simp [served, waiting, read, hmerged, present, holds]
  have hanswered : answered = d := by simp only [answered, hserved, hmerged, delivered, List.foldl_cons, List.foldl_nil]
  rw [if_neg (by simp [noSecond])]
  have hout : out = k := by rw [freed, ← hanswered]
  have hdropped : dropped = k := by simp [dropped, noDrop, written, waiting, read, stalled, notFull, hout]
  have hreplays : replays = [] := by simp [replays, hdropped, freed, noReplay]
  have hrerun : rerun = k := by simp [rerun, hreplays, left, kept, hdropped, freed, noReplay]
  rw [hrerun]
  exact Chip.runHeld_of_none _ _ (by rw [freed]; exact noHeld)

/-- Settles O21: the installed memory and the partition of the offset decide where an access goes, and the registers of the misses what a
fill does. -/
theorem visionL2Access : Obligations.VisionL2Access := by
  unfold Obligations.VisionL2Access
  rintro s t off c rfl live
  refine ⟨fun len beyond => ?readBeyond, fun bytes beyond => ?writeBeyond, fun len installed line window unshared stopped => ?readUncached,
    fun bytes installed window unshared stopped => ?writeUncached, fun len x k installed line cached counted owned present hit => ?readHit,
    fun noFill => ?noFill, ?fill⟩
  case readBeyond => exact .ofRun (exec_l2Read_sound ..) live (Chip.agentRead_of_beyond _ 4 beyond)
  case writeBeyond => exact .ofRun (exec_l2Write_sound ..) live (Chip.l2Access_of_beyond beyond)
  case readUncached =>
    exact .ofRun (exec_l2Read_sound ..) live
      ((Chip.agentRead_of_line _ installed line).trans (Chip.l2Access_of_uncached installed rfl window unshared stopped))
  case writeUncached =>
    refine (Gives.ofRun (exec_l2Write_sound ..) live (Chip.l2Access_of_uncached installed rfl window unshared stopped)).yields
      ⟨fun a outside => ?_, fun j inside => ?_, ?_, ?_, ?_⟩
    · rw [Chip.finish_rdB, Chip.rdB_wrBytes_ne _ _ _ _ outside]
    · rw [Chip.finish_rdB, Chip.rdB_wrBytes_self _ _ _ _ inside]
    · rw [Chip.finish_regs, Chip.wrBytes_regs]
    · rw [Chip.finish_vmc, Chip.wrBytes_vmc]
    · rw [Chip.finish_flt, Chip.wrBytes_flt]
  case readHit =>
    exact .ofRun (exec_l2Read_sound ..) live
      ((Chip.agentRead_of_line _ installed line).trans (Chip.l2Access_of_hit installed rfl cached counted owned present hit))
  case noFill => exact .ofRun (exec_fillComplete ..) live (Chip.fillDone_of_none _ _ noFill)
  case fill =>
    rintro m r x p k d lone rfl low high normal noSecond noDrop waiting read rfl present holds delivered noReplay noHeld
    exact .ofRun (exec_fillComplete ..) live
      (Chip.fillDone_of_read lone low high normal noSecond noDrop waiting read present holds delivered noReplay noHeld rfl)

end Sys2Proof.Machine

/-! ## The home of shared lines (spec/11 R257, R258) -/

namespace Sys2Proof.Machine

/-! ### The meanings of the commands -/

theorem exec_getS (t : Nat) (who : Fin 5) (off : Nat) (s : State) :
    exec (.getS t who off) s = run .app t (fun c => c.dirRequest { kind := 0, who := who, off := off, bytes := [] }) s := rfl
theorem exec_wt (t : Nat) (who : Fin 4) (off : Nat) (bytes : List Byte) (s : State) : exec (.wt t who off bytes) s =
    run .app t (fun c => if bytes.length = 0 ∨ 32 < bytes.length then c
      else c.dirRequest { kind := 1, who := who, off := off, bytes := bytes }) s := rfl
theorem exec_getM (t off : Nat) (s : State) :
    exec (.getM t off) s = run .app t (fun c => c.dirRequest { kind := 2, who := 4, off := off, bytes := [] }) s := rfl
theorem exec_putM (t off : Nat) (bytes : List Byte) (s : State) : exec (.putM t off bytes) s = execPutM t off bytes s := rfl
theorem exec_inv (t : Nat) (who : Fin 5) (off : Nat) (s : State) : exec (.inv t who off) s =
    run .app t (fun c => c.l1Drop (fun x => x.clu == who.val && x.base == off / 128 * 128)) s := rfl
theorem exec_invAck (t : Nat) (who : Fin 5) (off : Nat) (s : State) : exec (.invAck t who off) s = execInvAck t who off s := rfl
theorem exec_recall (t off : Nat) (s : State) : exec (.recall t off) s = run .app t (fun c =>
    if (c.dirAt (off / 128 * 128)).trans = 2 then c.emit (.coherence 2 5 (off / 128 * 128)) else c) s := rfl
theorem exec_recallData (t off : Nat) (bytes : List Byte) (s : State) :
    exec (.recallData t off bytes) s = execRecallData t off bytes s := rfl
theorem exec_appCoherenceTimeout (t off : Nat) (s : State) : exec (.appCoherenceTimeout t off) s = run .app t (fun c =>
    if (c.dirAt (off / 128 * 128)).trans ≠ 0 ∧ bitAt (c.dirAt (off / 128 * 128)).acks 4 ∧
      10000 ≤ c.now - (c.dirAt (off / 128 * 128)).since then c.raiseArg 0x0B08 0 off else c) s := rfl

/-! ### Requests (R257, R258) -/

theorem Chip.dirRequest_of_shared {c : Chip} {r : DirReq} (shared : c.sharedAt r.off 4 = true) :
    c.dirRequest r = c.dirRun (r.off / 128 * 128) [r] := if_pos shared

/-- A line outside the shared regions has no home. -/
theorem Chip.dirRequest_of_unshared {c : Chip} {r : DirReq} (unshared : c.sharedAt r.off 4 = false) : c.dirRequest r = c :=
  if_neg (Bool.eq_false_iff.mp unshared)

/-! ### What an agent sends to the home of a line -/

section Home

variable {s : State} {t off : Nat} {c : Chip} {e : DirEnt} (hc : c = s.chip.begin t) (live : c.live .app = true)
  (he : e = c.dirAt (off / 128 * 128))
include hc live he

/-- A PutM that no Recall awaits leaves the line uncached. -/
theorem putM_gives_of_stable (bytes : List Byte) (modified : e.st = 2) (stable : e.trans = 0) : Gives (.putM t off bytes) s t
    (((c.endCondition 0x0B08).l2Put (off / 128 * 128) (sliceBytes bytes 0 128)).setDir { e with st := 0, sharers := 0 }) := by
  subst hc he
  exact .ofRun (exec_putM ..) live ((if_pos modified).trans (if_neg (by simp [stable])))

/-- A PutM of a line that the application core does not hold modified is void. -/
theorem putM_gives_of_unmodified (bytes : List Byte) (unmodified : e.st ≠ 2) : Gives (.putM t off bytes) s t c := by
  subst hc he
  exact .ofRun (exec_putM ..) live (if_neg unmodified)

theorem recall_gives_of_awaited (awaited : e.trans = 2) : Gives (.recall t off) s t (c.emit (.coherence 2 5 (off / 128 * 128))) := by
  subst hc he
  exact .ofRun (exec_recall ..) live (if_pos awaited)

theorem recall_gives_of_unawaited (unawaited : e.trans ≠ 2) : Gives (.recall t off) s t c := by
  subst hc he
  exact .ofRun (exec_recall ..) live (if_neg unawaited)

theorem recallData_gives_of_unawaited (bytes : List Byte) (unawaited : e.trans ≠ 2) : Gives (.recallData t off bytes) s t c := by
  subst hc he
  exact .ofRun (exec_recallData ..) live (if_neg unawaited)

/-- Data awaited by a request end its transient state; after a GetS the application core stays a sharer (Table 11-5). -/
theorem recallData_gives_of_awaited (bytes : List Byte) {r : DirReq} {rest : List DirReq} (awaited : e.trans = 2)
    (first : e.reqs = r :: rest) : Gives (.recallData t off bytes) s t
      (if r.kind == 0 then ((c.endCondition 0x0B08).l2Put (off / 128 * 128) (sliceBytes bytes 0 128)).dirEnd (off / 128 * 128) 1 16
        else ((c.endCondition 0x0B08).l2Put (off / 128 * 128) (sliceBytes bytes 0 128)).dirEnd (off / 128 * 128) 0 0) := by
  subst hc he
  refine .ofRun (exec_recallData ..) live ((if_pos awaited).trans ?_)
  rw [first]

/-- An InvAck awaited from a cluster takes it from the sharers awaited. -/
theorem invAck_gives_of_more {who : Fin 5} (awaited : e.trans = 1) (cluster : who.val ≠ 4) (more : setBit e.acks who false ≠ 0) :
    Gives (.invAck t who off) s t (c.setDir { e with acks := setBit e.acks who false }) := by
  have notApp : who ≠ 4 := fun h => cluster (congrArg Fin.val h)
  subst hc he
  refine .ofRun (exec_invAck ..) live ((if_pos awaited).trans ((if_neg more).trans ?_))
  rw [if_neg notApp]

/-- The last InvAck ends the request; a line that the application core does not share is then uncached. -/
theorem invAck_gives_of_last {who : Fin 5} (awaited : e.trans = 1) (cluster : who.val ≠ 4) (last : setBit e.acks who false = 0)
    (noApp : e.sharers / 16 % 2 = 0) : Gives (.invAck t who off) s t (c.dirEnd (off / 128 * 128) 0 0) := by
  have notApp : who ≠ 4 := fun h => cluster (congrArg Fin.val h)
  subst hc he
  refine .ofRun (exec_invAck ..) live ((if_pos awaited).trans ((if_pos last).trans ?_))
  simp only [if_neg notApp, noApp, Nat.zero_mul, Nat.zero_ne_one, if_false, ite_self]

theorem invAck_gives_of_unawaited (who : Fin 5) (unawaited : e.trans ≠ 1) : Gives (.invAck t who off) s t c := by
  subst hc he
  exact .ofRun (exec_invAck ..) live (if_neg unawaited)

/-- 10 us without an answer of the application core raise F0B08. -/
theorem appCoherenceTimeout_gives_of_due (transient : e.trans ≠ 0) (fromApp : bitAt e.acks 4 = true) (due : 10000 ≤ c.now - e.since) :
    Gives (.appCoherenceTimeout t off) s t (c.raiseArg 0x0B08 0 off) := by
  subst hc he
  exact .ofRun (exec_appCoherenceTimeout ..) live (if_pos ⟨transient, fromApp, due⟩)

theorem appCoherenceTimeout_gives_of_early (early : c.now - e.since < 10000) : Gives (.appCoherenceTimeout t off) s t c := by
  subst hc he
  exact .ofRun (exec_appCoherenceTimeout ..) live (if_neg (fun ⟨_, _, due⟩ => Nat.not_le.mpr early due))

end Home

/-- Settles O22: requests by whether their line is shared, the other messages by the state of the directory entry. -/
theorem coherenceHome : Obligations.CoherenceHome := by
  unfold Obligations.CoherenceHome
  refine ⟨?requests, ?answers⟩
  case requests =>
    rintro s t off c e rfl live he
    refine ⟨fun who w bytes unshared => ⟨?getSUnshared, ?wtUnshared, ?getMUnshared⟩, fun who shared => ?getS,
      fun w bytes shared nonempty short => ?wt, fun shared => ?getM, putM_gives_of_stable rfl live he, putM_gives_of_unmodified rfl live he,
      fun who => ?inv, recall_gives_of_awaited rfl live he,
      fun unawaited => ⟨recall_gives_of_unawaited rfl live he unawaited,
        fun bytes => recallData_gives_of_unawaited rfl live he bytes unawaited⟩,
      fun bytes r rest awaited first => ?recallData⟩
    case getSUnshared => exact .ofRun (exec_getS ..) live (Chip.dirRequest_of_unshared unshared)
    case wtUnshared =>
      refine .ofRun (exec_wt ..) live ?_
      rw [Chip.dirRequest_of_unshared unshared, ite_self]
    case getMUnshared => exact .ofRun (exec_getM ..) live (Chip.dirRequest_of_unshared unshared)
    case getS => exact .ofRun (exec_getS ..) live (Chip.dirRequest_of_shared shared)
    case wt => exact .ofRun (exec_wt ..) live ((if_neg (by omega)).trans (Chip.dirRequest_of_shared shared))
    case getM => exact .ofRun (exec_getM ..) live (Chip.dirRequest_of_shared shared)
    case inv => exact .ofRun (exec_inv ..) live rfl
    case recallData =>
      have gives := recallData_gives_of_awaited rfl live he bytes awaited first
      refine ⟨fun getS => ?_, fun other => ?_⟩
      · rwa [if_pos (beq_iff_eq.mpr getS)] at gives
      · rwa [if_neg (mt beq_iff_eq.mp other)] at gives
  case answers =>
    rintro s t off c e rfl live he
    exact ⟨fun who => invAck_gives_of_more rfl live he, fun who => invAck_gives_of_last rfl live he, invAck_gives_of_unawaited rfl live he,
      appCoherenceTimeout_gives_of_due rfl live he, appCoherenceTimeout_gives_of_early rfl live he⟩

end Sys2Proof.Machine

/-! ## Partitions and performance counters (spec/11 R256, R266, R267) -/

namespace Sys2Proof.Machine

theorem exec_partitionReconfig (t : Nat) (p : Fin 5) (v : Word) (s : State) :
    exec (.partitionReconfig t p v) s = run .app t (fun c => c.partReconfig p v.toNat) s := rfl
theorem exec_vmcWriteBack (t : Nat) (p : Fin 5) (s : State) :
    exec (.vmcWriteBack t p) s = run .app t (fun c => if c.partIdle p then c.partClean p else c) s := rfl
theorem exec_vmcWriteBackInvalidate (t : Nat) (p : Fin 5) (s : State) :
    exec (.vmcWriteBackInvalidate t p) s = run .app t (fun c => if c.partIdle p then c.partFlush p else c) s := rfl
theorem exec_pmcClear (t : Nat) (n : Fin 8) (v : Word) (s : State) :
    exec (.pmcClear t n v) s = run .app t (fun c => c.pmcSelWrite n v.toNat) s := rfl

/-- A partition in use keeps its configuration. -/
theorem Chip.partReconfig_of_inUse (c : Chip) (p v : Nat) (inUse : c.partIdle p = false) :
    c.partReconfig p v = c.put VMC_STAT_WR_ERR true := if_neg (Bool.eq_false_iff.mp inUse)

/-- An idle partition is flushed and configured anew (`k`), and shows the number of its slices. -/
theorem Chip.partReconfig_of_idle (c k : Chip) (p v : Nat) (idle : c.partIdle p = true)
    (hk : k = ((c.partFlush p).set (VMC_PART_CFG_SLICES p) (bitsOf v 0 16)).set (VMC_PART_CFG_MODE p) (bitsOf v 16 1)) :
    c.partReconfig p v = k.set (VMC_PART_STAT_NSLICE p) (k.slices p).length := by
  subst hk
  exact if_pos idle

section PmcSel

variable (c k : Chip) (n v : Nat)
  (hk : k = (c.set (VMC_PMC_SEL_EVENT n) (bitsOf v 0 4)).set (VMC_PMC_SEL_SCOPE n) (bitsOf v 4 3))
include hk

theorem Chip.pmcSelWrite_of_keep (keep : bitAt v 8 = false) : c.pmcSelWrite n v = k := by
  subst hk
  exact if_neg (Bool.eq_false_iff.mp keep)

theorem Chip.pmcSelWrite_of_clear (clear : bitAt v 8 = true) : c.pmcSelWrite n v =
    (({ k with vmc := { k.vmc with pmcRest := modAt k.vmc.pmcRest n (fun _ => 0) } } : Chip).set64 (VMC_PMC_LO_CNT n) (VMC_PMC_HI_CNT n) 0) := by
  subst hk
  exact if_pos clear

end PmcSel

/-- Settles O23: whether the partition is idle decides on its commands, CLEAR on the counter. -/
theorem partitionsAndCounters : Obligations.PartitionsAndCounters := by
  unfold Obligations.PartitionsAndCounters
  rintro s t p v c k rfl live
  refine ⟨fun inUse => ⟨?_, ?_, ?_⟩, fun idle hk => ⟨?_, ?_, ?_⟩, fun n hk => ⟨fun keep => ?_, fun clear => ?_⟩⟩
  · exact .ofRun (exec_partitionReconfig ..) live (Chip.partReconfig_of_inUse _ p _ inUse)
  · exact .ofRun (exec_vmcWriteBack ..) live (if_neg (Bool.eq_false_iff.mp inUse))
  · exact .ofRun (exec_vmcWriteBackInvalidate ..) live (if_neg (Bool.eq_false_iff.mp inUse))
  · exact .ofRun (exec_partitionReconfig ..) live (Chip.partReconfig_of_idle _ k p _ idle hk)
  · exact .ofRun (exec_vmcWriteBack ..) live (if_pos idle)
  · exact .ofRun (exec_vmcWriteBackInvalidate ..) live (if_pos idle)
  · exact .ofRun (exec_pmcClear ..) live (Chip.pmcSelWrite_of_keep _ k n _ hk keep)
  · exact .ofRun (exec_pmcClear ..) live (Chip.pmcSelWrite_of_clear _ k n _ hk clear)

end Sys2Proof.Machine

/-! ## CAN FD: frames on the bus (spec/12 R270, R280, R284, R288) -/

namespace Sys2Proof.Machine

/-! ### The meanings of the commands -/

theorem exec_canFrameReceived (t : Nat) (n : Fin 3) (f : CanFrame) (eccC : Nat) (eccU : Option (Fin 128)) (s : State) :
    exec (.canFrameReceived t n f eccC eccU) s = run .app t (fun c => c.canFrameIn n f eccC (eccU.map (fun i => i.val))) s := rfl
theorem exec_canFrameTransmitted (t : Nat) (n : Fin 3) (sof : Nat) (loop : Option Nat) (eccU : Bool) (s : State) :
    exec (.canFrameTransmitted t n sof loop eccU) s = run .app t (fun c => c.canSent n sof loop eccU) s := rfl

/-! ### Reception -/

theorem Chip.canFrameIn_of_off (c : Chip) (n : Nat) (f : CanFrame) (eccC : Nat) (eccU : Option Nat) (off : c.canOnBus n = false) :
    c.canFrameIn n f eccC eccU = c := if_neg (Bool.eq_false_iff.mp off)

/-- A classical frame without ECC errors, received by a controller with a receive error counter of 1 to 127, lowers it (`k`) and is stored. -/
theorem Chip.canFrameIn_of_clean (c k : Chip) (n : Nat) (f : CanFrame) (on : c.canOnBus n = true) (classical : f.fdf = false)
    (notMonitor : (c.cc n).mode ≠ 1) (counted : 0 < (c.cc n).rec_) (active : (c.cc n).rec_ ≤ 127)
    (hk : k = (c.setCc n (fun x => { x with rec_ := (c.cc n).rec_ - 1 })).canShow n) :
    c.canFrameIn n f 0 none = ((k.canReceive n f).put (CAN_STAT_BUSY n) false).canSelect n := by
  have falls : ¬ ((c.cc n).mode = 1 ∨ (c.cc n).rec_ = 0) := by omega
  unfold Chip.canFrameIn
  rw [if_pos on, if_neg (by simp [classical])]
  simp only [if_true, if_neg falls, if_pos active, hk]

/-! ### Transmission -/

theorem Chip.canSent_of_none (c : Chip) (n sof : Nat) (loop : Option Nat) (eccU : Bool) (noSel : (c.cc n).sel = none) :
    c.canSent n sof loop eccU = c := by
  unfold Chip.canSent
  rw [noSel]

/-- A frame sent from the selected buffer leaves its registers and its event (`k`), frees the bus (`m`) and leaves the chip. -/
theorem Chip.canSent_of_selected (c k m : Chip) (n b sof : Nat) (selected : (c.cc n).sel = some b) (on : c.canOnBus n = true)
    (pending : c.bit (CAN_TX_PEND_BITS n) b = true)
    (hk : k = ((((((c.putBit (CAN_TX_PEND_BITS n) b false).putBit (CAN_TX_SENT_BITS n) b true).canIr n 0).incWrap (CAN_CNT_TX_N n)).txEvent n b 1
      (sof / 1000)).setCc n (fun x => { x with cancel := setBit x.cancel b false, tec := x.tec - 1 })))
    (hm : m = (k.put (CAN_STAT_BUSY n) false).canShow n) (notLoop : (m.cc n).mode ≠ 2) :
    c.canSent n sof none false =
      (m.emit (.canSent n b [m.mrd n (m.txElem n b), m.mrd n (m.txElem n b + 4)] (c.txFrame n b sof).data)).canSelect n := by
  subst hk
  unfold Chip.canSent
  rw [selected]
  dsimp -zeta only
  rw [if_pos ⟨on, pending⟩, if_neg Bool.false_ne_true]
  dsimp only
  rw [← hm, if_neg notLoop]

/-- Settles O24: a frame received by whether the controller is on its bus, a frame sent by whether a buffer is selected. -/
theorem canFrames : Obligations.CanFrames := by
  unfold Obligations.CanFrames
  rintro s t n c k rfl live
  refine ⟨fun f a u off => ?_, fun f on classical notMonitor counted active hk => ?_, fun sof l u noSel => ?_,
    fun sof b selected on pending hk m hm notLoop => ?_⟩
  · exact .ofRun (exec_canFrameReceived ..) live (Chip.canFrameIn_of_off _ _ _ _ _ off)
  · exact .ofRun (exec_canFrameReceived ..) live (Chip.canFrameIn_of_clean _ k _ _ on classical notMonitor counted active hk)
  · exact .ofRun (exec_canFrameTransmitted ..) live (Chip.canSent_of_none _ _ _ _ _ noSel)
  · exact .ofRun (exec_canFrameTransmitted ..) live (Chip.canSent_of_selected _ k m _ _ _ selected on pending hk hm notLoop)

end Sys2Proof.Machine

/-! ## CAN FD: errors, recovery, arbitration, INIT and modes (spec/12 R271, R273, R274, R276, R284 to R290) -/

namespace Sys2Proof.Machine

/-! ### The meanings of the commands -/

theorem exec_canBusError (t : Nat) (n : Fin 3) (e : CanErr) (s : State) :
    exec (.canBusError t n e) s = run .app t (fun c => c.busError n e) s := rfl
theorem exec_busOffRecovery (t : Nat) (n : Fin 3) (s : State) :
    exec (.busOffRecovery t n) s = run .app t (fun c => c.canRecovered n) s := rfl
theorem exec_arbitrationLost (t : Nat) (n : Fin 3) (s : State) : exec (.arbitrationLost t n) s = execArbitrationLost t n s := rfl
theorem exec_busSynchronisation (t : Nat) (n : Fin 3) (s : State) : exec (.busSynchronisation t n) s = run .app t (fun c =>
    if c.is (CAN_CTRL_EN n) ∧ ¬ c.is (CAN_STAT_INIT_ACK n) then (c.setCc n (fun x => { x with synced := true })).canSelect n else c) s := rfl
theorem exec_initRequest (t : Nat) (n : Fin 3) (busy : Bool) (s : State) :
    exec (.initRequest t n busy) s = run .app t (fun c => c.canSetInit n busy) s := rfl
theorem exec_initEntered (t : Nat) (n : Fin 3) (s : State) : exec (.initEntered t n) s =
    run .app t (fun c => if c.is (CAN_CTRL_INIT n) then c.canEnterInit n else c) s := rfl
theorem exec_initClear (t : Nat) (n : Fin 3) (s : State) : exec (.initClear t n) s = run .app t (fun c => (c.canClearInit n).1) s := rfl
theorem exec_modeChange (t : Nat) (n : Fin 3) (s : State) : exec (.modeChange t n) s = run .app t (fun c => c.canTakeMode n) s := rfl
theorem exec_timestampWrap (t : Nat) (n : Fin 3) (s : State) : exec (.timestampWrap t n) s = run .app t (fun c =>
    if (c.cc n).wraps < c.now / 1000 / 2 ^ 32 then (c.canIr n 19).setCc n (fun x => { x with wraps := c.now / 1000 / 2 ^ 32 }) else c) s := rfl

section Controller

variable (c : Chip) (n : Nat)

/-! ### Errors and bus-off (R288, R289) -/

/-- An error that does not put the controller bus-off goes to the counters only. -/
theorem Chip.busError_of_noChange (e : CanErr)
    (noChange : (c.canError n e).is (CAN_STAT_BO n) = false ∨ c.is (CAN_STAT_BO n) = true) : c.busError n e = c.canError n e :=
  if_neg (fun ⟨off, wasOn⟩ => by simp [off, wasOn] at noChange)

/-- A controller that goes bus-off loses its reference of vehicle time. -/
theorem Chip.busError_of_busOff (e : CanErr) (off : (c.canError n e).is (CAN_STAT_BO n) = true)
    (wasOn : c.is (CAN_STAT_BO n) = false) : c.busError n e = (c.canError n e).canTimeLost n := if_pos ⟨off, wasOn⟩

theorem Chip.canRecovered_of_on (on : c.is (CAN_STAT_BO n) = false) : c.canRecovered n = c := if_neg (Bool.eq_false_iff.mp on)

theorem Chip.canRecovered_of_busOff (k : Chip) (off : c.is (CAN_STAT_BO n) = true)
    (hk : k = ((c.put (CAN_STAT_BO n) false).set (CAN_STAT_BO_SEQ n) 128).setCc n (fun x => { x with tec := 0, rec_ := 0 })) :
    c.canRecovered n = (((k.canShow n).canIr n 16).endCondition (0x0C01 + 16 * n)).canSelect n := by
  subst hk
  exact if_pos off

/-! ### INIT (R271, R273) -/

theorem Chip.canClearInit_of_sound (ack : c.is (CAN_STAT_INIT_ACK n) = true) (ok : c.canInitOk n = true) : c.canClearInit n =
    ((((c.put (CAN_CTRL_INIT n) false).put (CAN_STAT_INIT_ACK n) false).canShowLayout n).setCc n (fun x => { x with synced := false }),
      true) := (if_pos ack).trans (if_pos ok)

/-- A configuration that does not pass the checks leaves the controller in INIT. -/
theorem Chip.canClearInit_of_unsound (ack : c.is (CAN_STAT_INIT_ACK n) = true) (bad : c.canInitOk n = false) :
    c.canClearInit n = (c, false) := (if_pos ack).trans (if_neg (Bool.eq_false_iff.mp bad))

theorem Chip.canClearInit_of_notEntered (noAck : c.is (CAN_STAT_INIT_ACK n) = false) :
    c.canClearInit n = (c.put (CAN_CTRL_INIT n) false, true) := if_neg (Bool.eq_false_iff.mp noAck)

end Controller

/-! ### Arbitration (R284, R285) -/

section Arbitration

variable {s : State} {t : Nat} {n : Fin 3} {c : Chip} (hc : c = s.chip.begin t) (live : c.live .app = true)
include hc live

theorem arbitrationLost_gives_of_idle (idle : (c.cc n).sel = none) : Gives (.arbitrationLost t n) s t c := by
  subst hc
  refine .ofRun (exec_arbitrationLost ..) live ?_
  rw [idle]

/-- Arbitration lost ends the attempt; a request whose cancellation waited for that ends cancelled. -/
theorem arbitrationLost_gives_of_selected {b : Nat} (selected : (c.cc n).sel = some b) (on : c.canOnBus n = true) :
    Gives (.arbitrationLost t n) s t (((if bitAt (c.cc n).cancel b then c.txCancelled n b else c).setCc n
      (fun x => { x with sel := none })).put (CAN_STAT_BUSY n) true) := by
  subst hc
  refine .ofRun (exec_arbitrationLost ..) live ?_
  rw [selected]
  exact if_pos on

end Arbitration

/-- Settles O25: errors, recovery and arbitration by bus-off and the selected buffer, then INIT by INIT_ACK and the checks. -/
theorem canErrorsAndModes : Obligations.CanErrorsAndModes := by
  unfold Obligations.CanErrorsAndModes
  refine ⟨?traffic, ?modes⟩
  case traffic =>
    rintro s t n c k rfl live
    refine ⟨fun e hk noChange => ?error, fun e hk off wasOn => ?busOff, fun on => ?onBus, fun off hk => ?recovered,
      fun b selected on keep => ?lost, fun b selected on cancel => ?cancelled, arbitrationLost_gives_of_idle rfl live,
      fun enabled noAck => ?synced, fun ack => ?inInit⟩
    case error =>
      subst hk
      exact .ofRun (exec_canBusError ..) live (Chip.busError_of_noChange _ _ _ noChange)
    case busOff =>
      subst hk
      exact .ofRun (exec_canBusError ..) live (Chip.busError_of_busOff _ _ _ off wasOn)
    case onBus => exact .ofRun (exec_busOffRecovery ..) live (Chip.canRecovered_of_on _ _ on)
    case recovered => exact .ofRun (exec_busOffRecovery ..) live (Chip.canRecovered_of_busOff _ _ k off hk)
    case lost => simpa only [keep, Bool.false_eq_true, if_false] using arbitrationLost_gives_of_selected rfl live selected on
    case cancelled => simpa only [cancel, if_true] using arbitrationLost_gives_of_selected rfl live selected on
    case synced => exact .ofRun (exec_busSynchronisation ..) live (if_pos ⟨enabled, Bool.eq_false_iff.mp noAck⟩)
    case inInit => exact .ofRun (exec_busSynchronisation ..) live (if_neg (fun ⟨_, noAck⟩ => noAck ack))
  case modes =>
    rintro s t n c rfl live
    refine ⟨?idle, ?busy, fun asked => ?entered, fun notAsked => ?notAsked, fun ack ok => ?left, fun ack bad => ?stays,
      fun noAck => ?withdrawn, ?mode, fun wrapped => ?wrapped, fun taken => ?taken⟩
    case idle => exact .ofRun (exec_initRequest ..) live rfl
    case busy => exact .ofRun (exec_initRequest ..) live rfl
    case entered => exact .ofRun (exec_initEntered ..) live (if_pos asked)
    case notAsked => exact .ofRun (exec_initEntered ..) live (if_neg (Bool.eq_false_iff.mp notAsked))
    case left => exact .ofRun (exec_initClear ..) live (congrArg Prod.fst (Chip.canClearInit_of_sound _ _ ack ok))
    case stays => exact .ofRun (exec_initClear ..) live (congrArg Prod.fst (Chip.canClearInit_of_unsound _ _ ack bad))
    case withdrawn => exact .ofRun (exec_initClear ..) live (congrArg Prod.fst (Chip.canClearInit_of_notEntered _ _ noAck))
    case mode => exact .ofRun (exec_modeChange ..) live rfl
    case wrapped => exact .ofRun (exec_timestampWrap ..) live (if_pos wrapped)
    case taken => exact .ofRun (exec_timestampWrap ..) live (if_neg (Nat.not_lt.mpr taken))

end Sys2Proof.Machine

/-! ## CAN FD: transmit requests, FIFOs and dedicated buffers (spec/12 R281 to R287) -/

namespace Sys2Proof.Machine

/-! ### The meanings of the commands -/

theorem exec_txGo (t : Nat) (n : Fin 3) (v : Word) (s : State) :
    exec (.txGo t n v) s = run .app t (fun c => c.txGoWrite n v.toNat) s := rfl
theorem exec_txAbort (t : Nat) (n : Fin 3) (v : Word) (started : Bool) (s : State) : exec (.txAbort t n v started) s =
    run .app t (fun c => c.forBits v.toNat (fun c b => c.txAbortOne n b started) (c.get (CAN_MRCFG1_NTX n))) s := rfl
theorem exec_fifoRelease (t : Nat) (n : Fin 3) (m : Fin 2) (v : Word) (s : State) : exec (.fifoRelease t n m v) s =
    run .app t (fun c => (c.set (CAN_RXF_REL_WM n m) (bitsOf v.toNat 8 6)).fifoFree n (CAN_RXF_STAT_FILL n m) (CAN_RXF_STAT_GET n m)
      (CAN_RXF_STAT_FULL n m) (c.fifoDepth n m) (bitsOf v.toNat 0 6)) s := rfl
theorem exec_tevRelease (t : Nat) (n : Fin 3) (v : Word) (s : State) : exec (.tevRelease t n v) s =
    run .app t (fun c => (c.set (CAN_TEV_REL_WM n) (bitsOf v.toNat 8 6)).fifoFree n (CAN_TEV_STAT_FILL n) (CAN_TEV_STAT_GET n)
      (CAN_TEV_STAT_FULL n) (c.get (CAN_MRCFG1_NTEV n)) (bitsOf v.toNat 0 6)) s := rfl
theorem exec_bufferLock (t : Nat) (n : Fin 3) (b : Fin 32) (s : State) : exec (.bufferLock t n b) s = run .app t (fun c =>
    { c.putBit (CAN_RXB_LOCK_BITS n) b (c.bit (CAN_RXB_LOCK_BITS n) b || decide (b.val < c.get (CAN_MRCFG1_NBUF n))) with
      resp := some (some (c.bufWord n b 0)) }) s := rfl
theorem exec_bufferRelease (t : Nat) (n : Fin 3) (b : Fin 32) (s : State) : exec (.bufferRelease t n b) s = run .app t (fun c =>
    { c.bufRelease n b with resp := some (some (c.bufWord n b (2 + canSize (c.get (CAN_MRCFG2_SZBUF n)) / 4))) }) s := rfl
theorem exec_bufferUnlock (t : Nat) (n : Fin 3) (v : Word) (s : State) : exec (.bufferUnlock t n v) s =
    run .app t (fun c => c.forBits v.toNat (fun c b => c.bufRelease n b) 32) s := rfl

/-! ### Transmit requests (R283) -/

/-- While a buffer is selected for the attempt in progress, requests (`k`) wait for the next selection. -/
theorem Chip.txGoWrite_of_selected (c k : Chip) (n v : Nat)
    (hk : k = c.forBits v (fun c b => c.txRequest n b) (c.get (CAN_MRCFG1_NTX n))) (selected : (k.cc n).sel ≠ none) :
    c.txGoWrite n v = k := by
  subst hk
  exact if_neg (fun ⟨noSel, _⟩ => selected noSel)

/-! ### FIFO releases (R281, R287) -/

/-- A release of no element, or of more than are held, is refused. -/
theorem Chip.fifoFree_of_refused (c : Chip) (n : Nat) (fill get full : Fld) (depth count : Nat) (refused : count = 0 ∨ c.get fill < count) :
    c.fifoFree n fill get full depth count = c.put (CAN_STAT_WR_ERR n) true := if_pos refused

/-- A release of elements that are held lowers the fill level (`r`) and moves the get index, which stands above it in the same register. -/
theorem Chip.fifoFree_of_held (c r : Chip) (n : Nat) (fill get full : Fld) (depth count : Nat) (oneReg : get.addr = fill.addr)
    (above : fill.lo + fill.w ≤ get.lo) (inWord : fill.lo + fill.w ≤ 32) (nonzero : 0 < count) (held : count ≤ c.get fill)
    (hr : r = c.set fill (c.get fill - count)) : c.fifoFree n fill get full depth count =
      (r.set get ((r.get get + count) % max depth 1)).put full false := by
  have getKept : r.get get = c.get get := hr ▸ Chip.get_set_apart c fill get _ inWord oneReg (.inr above)
  rw [getKept, hr]
  exact if_neg (by omega)

/-- The layout and the release of a FIFO are two registers (section 12.13). -/
theorem mrcfg0_ne_rxfRel (n m : Nat) : CAN_MRCFG0_REG n ≠ CAN_RXF_REL_REG n m := by
  unfold CAN_MRCFG0_REG CAN_RXF_REL_REG
  omega

/-- The depth of a FIFO is configuration: a write elsewhere keeps it. -/
theorem Chip.fifoDepth_set (c : Chip) (f : Fld) (v n m : Nat) (elsewhere : CAN_MRCFG0_REG n ≠ f.addr) :
    (c.set f v).fifoDepth n m = c.fifoDepth n m := by
  unfold Chip.fifoDepth
  rw [Chip.get_set_ne _ _ _ _ elsewhere, Chip.get_set_ne _ _ _ _ elsewhere]

/-! ### Dedicated buffers (R282) -/

/-- A locked buffer without a held frame loses lock and NEW. -/
theorem Chip.bufRelease_of_locked (c : Chip) (n b : Nat) (locked : c.bit (CAN_RXB_LOCK_BITS n) b = true)
    (noShadow : bitAt (c.cc n).shadow b = false) :
    c.bufRelease n b = (c.putBit (CAN_RXB_LOCK_BITS n) b false).putBit (CAN_RXB_NEW_BITS n) b false :=
  (if_pos locked).trans (if_neg (Bool.eq_false_iff.mp noShadow))

theorem Chip.bufRelease_of_unlocked (c : Chip) (n b : Nat) (unlocked : c.bit (CAN_RXB_LOCK_BITS n) b = false) :
    c.bufRelease n b = c := if_neg (Bool.eq_false_iff.mp unlocked)

/-- Settles O26: requests, then releases by their count and the fill level, then buffers by lock and shadow. -/
theorem canBuffers : Obligations.CanBuffers := by
  unfold Obligations.CanBuffers
  rintro s t n c k rfl live
  refine ⟨fun v _ hk selected => ?go, fun v started => ?abort, fun m v hk => ⟨fun refused => ?fifoRefused, fun nonzero held r hr => ?fifoFreed⟩,
    fun v hk zero => ?tevRefused, fun v r hk nonzero held hr => ?tevFreed, fun b present => ?lock, fun b locked noShadow => ?locked,
    fun b unlocked => ?unlocked, fun v => ?unlock⟩
  case go => exact .ofRun (exec_txGo ..) live (Chip.txGoWrite_of_selected _ k _ _ hk selected)
  case abort => exact .ofRun (exec_txAbort ..) live rfl
  case fifoRefused =>
    subst hk
    exact .ofRun (exec_fifoRelease ..) live (Chip.fifoFree_of_refused _ _ _ _ _ _ _ refused)
  case fifoFreed =>
    have depth : k.fifoDepth n m = (s.chip.begin t).fifoDepth n m := hk ▸ Chip.fifoDepth_set _ _ _ _ _ (mrcfg0_ne_rxfRel n m)
    rw [depth]
    subst hk
    exact .ofRun (exec_fifoRelease ..) live (Chip.fifoFree_of_held _ r _ _ _ _ _ _ rfl (by simp) (by simp) nonzero held hr)
  case tevRefused =>
    subst hk
    exact .ofRun (exec_tevRelease ..) live (Chip.fifoFree_of_refused _ _ _ _ _ _ _ (.inl zero))
  case tevFreed =>
    subst hk
    exact .ofRun (exec_tevRelease ..) live (Chip.fifoFree_of_held _ r _ _ _ _ _ _ rfl (by simp) (by simp) nonzero held hr)
  case lock =>
    refine .ofRun (exec_bufferLock ..) live ?_
    rw [decide_eq_true present, Bool.or_true]
  case locked =>
    refine .ofRun (exec_bufferRelease ..) live ?_
    rw [Chip.bufRelease_of_locked _ _ _ locked noShadow]
  case unlocked =>
    refine .ofRun (exec_bufferRelease ..) live ?_
    rw [Chip.bufRelease_of_unlocked _ _ _ unlocked]
  case unlock => exact .ofRun (exec_bufferUnlock ..) live rfl

end Sys2Proof.Machine

/-! ## Vehicle messages: DOOR_CMD, DOOR_STATUS and INTERLOCK_STATUS (spec/14 R319 to R325, log 53) -/

namespace Sys2Proof.Machine

/-! ### The meanings of the commands -/

theorem exec_doorCmd (t : Nat) (p : Path) (addr : Nat) (d : List Byte) (s : State) :
    exec (.doorCmd t p addr d) s = run .app t (fun c => c.doorCmd p addr d) s := rfl
theorem exec_doorStatus (t : Nat) (s : State) : exec (.doorStatus t) s = run .app t (fun c => c.doorStatus) s := rfl
theorem exec_interlockStatus (t : Nat) (s : State) : exec (.interlockStatus t) s = run .app t (fun c => c.interlockStatus) s := rfl

/-! ### DOOR_CMD (R319 to R323) -/

theorem Chip.doorCmd_of_unheard (c : Chip) (p : Path) (addr : Nat) (d : List Byte) (unheard : c.isActive = false ∨ c.pathUp p = false) :
    c.doorCmd p addr d = c := if_pos (or_assoc.mp (.inl unheard))

theorem Chip.doorCmd_of_otherDoor (c : Chip) (p : Path) (addr : Nat) (d : List Byte) (other : addr ≠ c.get VM_DOOR_ADDR_VALUE)
    (single : addr ≠ 31) : c.doorCmd p addr d = c := if_pos (.inr (.inr (not_or.mpr ⟨other, single⟩)))

/-- What the sender of a DOOR_CMD is told of its offer: a refusal, or the stored reply; a command that was taken or joined one being accepted
is answered when acceptance ends (R320, R323). -/
def Chip.offerAcked (p : Path) (req : Nat) : Chip × Offered → Chip
  | (k, .refused reason _) => k.refuseAck p req 0 reason
  | (k, .replay w) => k.sendAck p (ackReplay w.reply)
  | (k, _) => k

section Heard

variable (c : Chip) (p : Path) (addr : Nat) (d : List Byte)
variable (own : addr = c.get VM_DOOR_ADDR_VALUE) (single : addr ≠ 31) (active : c.isActive = true) (up : c.pathUp p = true)
include own single active up

/-- A command of this doorway's own address on a path that serves passes both checks of who is meant. -/
theorem Chip.doorCmd_hears : ¬ (c.isActive = false ∨ c.pathUp p = false ∨ ¬ (addr = c.get VM_DOOR_ADDR_VALUE ∨ addr = 31)) ∧
    ¬ (addr = 31 ∧ c.pathInSet p = false) := by
  refine ⟨?_, fun ⟨all, _⟩ => single all⟩
  rintro (standby | down | other)
  · exact Bool.false_ne_true (standby.symm.trans active)
  · exact Bool.false_ne_true (down.symm.trans up)
  · exact other (.inl own)

theorem Chip.doorCmd_of_malformed (bad : doorCmdOk d = false) : c.doorCmd p addr d = c.refuseAck p (leAt d 0 2) 0 4 := by
  obtain ⟨meant, inSet⟩ := Chip.doorCmd_hears c p addr own single active up
  exact (if_neg meant).trans ((if_neg inSet).trans (if_pos bad))

theorem Chip.doorCmd_of_stranger (good : doorCmdOk d = true) (stranger : c.allowed p = false) :
    c.doorCmd p addr d = c.refuseAck p (leAt d 0 2) 0 5 := by
  obtain ⟨meant, inSet⟩ := Chip.doorCmd_hears c p addr own single active up
  exact (if_neg meant).trans ((if_neg inSet).trans ((if_neg (by simp [good])).trans (if_pos stranger)))

/-- A good command of an allowed path whose source has a queue is offered to it. -/
theorem Chip.doorCmd_of_offered (q : Nat) (op : QOp) (good : doorCmdOk d = true) (allowed : c.allowed p = true) (inSet : c.pathInSet p = true)
    (bound : c.queueOf (c.vehicleSource p) 128 = some q) (known : doorOpOf (leAt d 2 1) = some op) (notIsolate : op ≠ .doorIsolate)
    (notUnisolate : op ≠ .doorUnisolate) :
    c.doorCmd p addr d = Chip.offerAcked p (leAt d 0 2) (c.offer q (c.vehicleSource p) (leAt d 0 2) (crc32 d) (c.opMotion op)
      { op := op, a := leAt d 3 1, b := 0, v := pathCode p } (.vehicle [p])) := by
  obtain ⟨meant, notAll⟩ := Chip.doorCmd_hears c p addr own single active up
  have noRole : ¬ (op = .doorIsolate ∨ op = .doorUnisolate) := not_or.mpr ⟨notIsolate, notUnisolate⟩
  unfold Chip.doorCmd
  rw [if_neg meant, if_neg notAll]
  dsimp only
  rw [if_neg (by simp [good]), if_neg (by simp [allowed]), if_pos inSet, bound, known]
  dsimp only
  rw [if_neg noRole]
  rfl

end Heard

/-! ### DOOR_STATUS and INTERLOCK_STATUS (R324, R325) -/

theorem Chip.doorStatus_of_standby (c : Chip) (standby : c.isActive = false) : c.doorStatus = c := if_pos (.inl standby)

theorem Chip.doorStatus_of_sent (c : Chip) (sent : c.msg.dsK = some ((c.tbVeh - c.get VM_DOOR_ADDR_VALUE * 500000) / 20000000)) :
    c.doorStatus = c := if_pos (.inr (.inr sent))

/-- The message of a slot `k` that TB_VEH has reached and that has not been sent. -/
theorem Chip.doorStatus_of_due (c : Chip) (k : Nat) (hk : k = (c.tbVeh - c.get VM_DOOR_ADDR_VALUE * 500000) / 20000000)
    (active : c.isActive = true) (reached : c.get VM_DOOR_ADDR_VALUE * 500000 ≤ c.tbVeh) (unsent : c.msg.dsK ≠ some k) :
    c.doorStatus = ({ c with msg := { c.msg with dsK := some k } } : Chip).sendStatus 3 0x60 (c.doorStatusBytes k) := by
  subst hk
  refine if_neg ?_
  rintro (standby | early | sent)
  · exact Bool.false_ne_true (standby.symm.trans active)
  · exact Nat.not_lt.mpr reached early
  · exact unsent sent

theorem Chip.interlockStatus_of_standby (c : Chip) (standby : c.isActive = false) : c.interlockStatus = c := if_pos (.inl standby)

/-- The same bytes, sent less than 100 ms ago. -/
theorem Chip.interlockStatus_of_recent (c : Chip) (a : Nat) (same : c.interlockBytes = c.msg.ilk) (sent : c.msg.ilkAt = some a)
    (recent : c.now - a < 100000000) : c.interlockStatus = c := by
  unfold Chip.interlockStatus
  rw [sent]
  exact if_pos (.inr ⟨same, decide_eq_false (Nat.not_le.mpr recent)⟩)

theorem Chip.interlockStatus_of_changed (c : Chip) (active : c.isActive = true) (changed : c.interlockBytes ≠ c.msg.ilk) :
    c.interlockStatus =
      ({ c with msg := { c.msg with ilk := c.interlockBytes, ilkAt := some c.now, ilkAlive := (c.msg.ilkAlive + 1) % 256 } } : Chip).sendStatus
        2 0x40 (c.interlockBytes ++ leBytes 1 c.msg.ilkAlive ++ leBytes 2 0) := by
  refine if_neg ?_
  rintro (standby | ⟨same, _⟩)
  · exact Bool.false_ne_true (standby.symm.trans active)
  · exact changed same

/-- Settles O29: a DOOR_CMD by who is meant, then by its checks in their order (log 53), and each status message by whether it is due. -/
theorem vehicleMessages : Obligations.VehicleMessages := by
  unfold Obligations.VehicleMessages
  refine ⟨?commands, ?status⟩
  case commands =>
    rintro s t p d c rfl live
    refine ⟨fun addr unheard => ?unheard, fun addr other single => ?otherDoor, fun addr own single active up =>
      ⟨fun bad => ?malformed, fun good stranger => ?stranger,
        fun q op k a good allowed inSet bound known notIsolate notUnisolate offered => ?offered⟩⟩
    case unheard => exact .ofRun (exec_doorCmd ..) live (Chip.doorCmd_of_unheard _ _ _ _ unheard)
    case otherDoor => exact .ofRun (exec_doorCmd ..) live (Chip.doorCmd_of_otherDoor _ _ _ _ other single)
    case malformed => exact .ofRun (exec_doorCmd ..) live (Chip.doorCmd_of_malformed _ _ _ _ own single active up bad)
    case stranger => exact .ofRun (exec_doorCmd ..) live (Chip.doorCmd_of_stranger _ _ _ _ own single active up good stranger)
    case offered =>
      refine .ofRun (exec_doorCmd ..) live ((Chip.doorCmd_of_offered _ _ _ _ own single active up q op good allowed inSet bound known
        notIsolate notUnisolate).trans ?_)
      rw [offered]
      cases a <;> rfl
  case status =>
    rintro s t off k b c rfl live rfl hk rfl
    refine ⟨fun standby => ⟨?dsStandby, ?ilkStandby⟩, fun active reached unsent => ?dsDue, fun sent => ?dsSent, fun active changed => ?ilkChanged,
      fun a same sent recent => ?ilkRecent⟩
    case dsStandby => exact .ofRun (exec_doorStatus ..) live (Chip.doorStatus_of_standby _ standby)
    case ilkStandby => exact .ofRun (exec_interlockStatus ..) live (Chip.interlockStatus_of_standby _ standby)
    case dsDue => exact .ofRun (exec_doorStatus ..) live (Chip.doorStatus_of_due _ k hk active reached unsent)
    case dsSent => exact .ofRun (exec_doorStatus ..) live (Chip.doorStatus_of_sent _ (hk ▸ sent))
    case ilkChanged => exact .ofRun (exec_interlockStatus ..) live (Chip.interlockStatus_of_changed _ active changed)
    case ilkRecent => exact .ofRun (exec_interlockStatus ..) live (Chip.interlockStatus_of_recent _ a same sent recent)

end Sys2Proof.Machine

/-! ## Vehicle messages: LEDGER_EXPORT (spec/14 R330 to R333, log 54) -/

namespace Sys2Proof.Machine

/-! ### The meanings of the commands -/

theorem exec_exportStart (t : Nat) (p : Path) (addr : Nat) (d : List Byte) (s : State) :
    exec (.exportStart t p addr d) s = run .app t (fun c => c.exportStart p addr d) s := rfl
theorem exec_exportAckn (t : Nat) (p : Path) (addr : Nat) (d : List Byte) (s : State) :
    exec (.exportAckn t p addr d) s = run .app t (fun c => c.exportAckn p addr d) s := rfl
theorem exec_exportStop (t : Nat) (p : Path) (addr : Nat) (d : List Byte) (s : State) :
    exec (.exportStop t p addr d) s = run .app t (fun c => c.exportStop p addr d) s := rfl
theorem exec_exportDataSend (t : Nat) (s : State) : exec (.exportDataSend t) s = run .app t (fun c => c.exportSend) s := rfl
theorem exec_exportRetransmit (t : Nat) (s : State) : exec (.exportRetransmit t) s = run .app t (fun c => c.exportAgain) s := rfl

/-! ### START, ACKN and STOP (R330 to R332) -/

section Requests

variable (c : Chip) (p : Path) (addr : Nat) (d : List Byte)

theorem Chip.exportStart_of_unheard (unheard : c.exportHears p addr = false) : c.exportStart p addr d = c := if_pos unheard

theorem Chip.exportAckn_of_unheard (unheard : c.exportHears p addr = false) : c.exportAckn p addr d = c := if_pos (.inl unheard)

theorem Chip.exportStop_of_unheard (unheard : c.exportHears p addr = false) : c.exportStop p addr d = c := if_pos unheard

variable (heard : c.exportHears p addr = true)
include heard

theorem Chip.exportStart_of_refused (r : Nat) (refused : c.exportRefusal p 1 d = some r) :
    c.exportStart p addr d = c.refuseAck p (leAt d 0 2) 4 r := by
  unfold Chip.exportStart
  rw [if_neg (by simp [heard]), refused]

/-- START where no session is open. -/
theorem Chip.exportStart_of_noSession (good : c.exportRefusal p 1 d = none) (noSession : c.msg.exp = none) :
    c.exportStart p addr d = (c.exportAccept p (leAt d 0 2)).exportOpen p (leAt d 3 1) (leAt d 4 6) := by
  unfold Chip.exportStart
  rw [if_neg (by simp [heard]), good]
  dsimp only
  rw [noSession]

/-- ACKN of the session's path for records that were sent and stand unacknowledged. -/
theorem Chip.exportAckn_of_advance (x : ExpSess) (high : Nat) (good : exportReqOk 2 d = true) (allowed : c.allowed p = true)
    (session : c.msg.exp = some x) (samePath : x.path = p) (ahead : x.una ≤ leAt d 4 6) (hasHigh : x.high = some high)
    (sent : leAt d 4 6 ≤ high) :
    c.exportAckn p addr d =
      ({ c with msg := { c.msg with exp := some { x with una := leAt d 4 6 + 1, next := max x.next (leAt d 4 6 + 1), lastAckn := c.now,
                                                         lastAdv := c.now } } } : Chip).ledgerAck (leAt d 4 6) := by
  have inWindow : ¬ (x.path ≠ p ∨ leAt d 4 6 + 1 < x.una ∨ decide (high < leAt d 4 6) = true) := by
    rintro (other | behind | beyond)
    · exact other samePath
    · omega
    · exact Nat.not_lt.mpr sent (of_decide_eq_true beyond)
  unfold Chip.exportAckn
  rw [if_neg (by simp [heard, good, allowed]), session]
  dsimp only
  rw [hasHigh]
  dsimp only
  rw [if_neg inWindow, if_pos (decide_eq_true ahead)]

/-- STOP of the session's path. -/
theorem Chip.exportStop_of_session (x : ExpSess) (good : c.exportRefusal p 3 d = none) (session : c.msg.exp = some x) (samePath : x.path = p) :
    c.exportStop p addr d = (c.exportAccept p (leAt d 0 2)).exportClose (some 1) := by
  unfold Chip.exportStop
  rw [if_neg (by simp [heard]), good]
  dsimp only
  rw [session]
  exact if_pos samePath

end Requests

/-! ### Data and retransmission (R331, R332) -/

theorem Chip.exportSend_of_noSession (c : Chip) (noSession : c.msg.exp = none) : c.exportSend = c := by
  unfold Chip.exportSend
  rw [noSession]

theorem Chip.exportAgain_of_noSession (c : Chip) (noSession : c.msg.exp = none) : c.exportAgain = c := by
  unfold Chip.exportAgain
  rw [noSession]

/-- An empty ring has been sent to its end: END with REASON 0 says so once. -/
theorem Chip.exportSend_of_empty (c : Chip) (x : ExpSess) (session : c.msg.exp = some x) (active : c.isActive = true)
    (up : c.pathUp x.path = true) (empty : c.ledg.ring = []) (notTold : x.endSent = false) :
    c.exportSend = ({ c with msg := { c.msg with exp := some { x with endSent := true } } } : Chip).sendEnd x.path 0 := by
  unfold Chip.exportSend
  rw [session]
  dsimp only
  rw [if_neg (by simp [active, up]), empty]
  exact if_neg (by simp [notTold])

/-- Records sent and not acknowledged for EXP_RTO. -/
theorem Chip.exportAgain_of_stalled (c : Chip) (x : ExpSess) (session : c.msg.exp = some x) (active : c.isActive = true)
    (unacknowledged : x.una < x.next) (stalled : c.get VM_EXP_RTO_VALUE * 1000000 ≤ c.now - x.lastAdv) :
    c.exportAgain = { c with msg := { c.msg with exp := some { x with next := x.una, lastAdv := c.now, endSent := false } } } := by
  unfold Chip.exportAgain
  rw [session]
  exact if_pos ⟨active, unacknowledged, stalled⟩

/-- Settles O30: requests by whether they are heard, their checks and the session, then sending by the session and the ring. -/
theorem ledgerExport : Obligations.LedgerExport := by
  unfold Obligations.LedgerExport
  rintro s t p addr d c rfl live
  refine ⟨fun unheard => ⟨?startUnheard, ?acknUnheard, ?stopUnheard⟩, fun r heard refused => ?startRefused,
    fun heard good noSession => ?started, ?acknowledged, fun x heard good session samePath => ?stopped,
    fun noSession => ⟨?nothingSent, ?nothingAgain⟩, fun x session active up empty notTold => ?caughtUp,
    fun x session active unacknowledged stalled => ?again⟩
  case startUnheard => exact .ofRun (exec_exportStart ..) live (Chip.exportStart_of_unheard _ _ _ _ unheard)
  case acknUnheard => exact .ofRun (exec_exportAckn ..) live (Chip.exportAckn_of_unheard _ _ _ _ unheard)
  case stopUnheard => exact .ofRun (exec_exportStop ..) live (Chip.exportStop_of_unheard _ _ _ _ unheard)
  case startRefused => exact .ofRun (exec_exportStart ..) live (Chip.exportStart_of_refused _ _ _ _ heard r refused)
  case started => exact .ofRun (exec_exportStart ..) live (Chip.exportStart_of_noSession _ _ _ _ heard good noSession)
  case acknowledged =>
    rintro x q heard good allowed session samePath rfl ahead ⟨high, hasHigh, sent⟩
    exact .ofRun (exec_exportAckn ..) live
      (Chip.exportAckn_of_advance _ _ _ _ heard x high good allowed session samePath ahead hasHigh sent)
  case stopped => exact .ofRun (exec_exportStop ..) live (Chip.exportStop_of_session _ _ _ _ heard x good session samePath)
  case nothingSent => exact .ofRun (exec_exportDataSend ..) live (Chip.exportSend_of_noSession _ noSession)
  case nothingAgain => exact .ofRun (exec_exportRetransmit ..) live (Chip.exportAgain_of_noSession _ noSession)
  case caughtUp => exact .ofRun (exec_exportDataSend ..) live (Chip.exportSend_of_empty _ x session active up empty notTold)
  case again => exact .ofRun (exec_exportRetransmit ..) live (Chip.exportAgain_of_stalled _ x session active unacknowledged stalled)

end Sys2Proof.Machine

/-! ## Vehicle messages: SPEED_IN, VEH_TIME and late OCCUPANCY (spec/14 R327 to R329) -/

namespace Sys2Proof.Machine

theorem exec_speedIn (t : Nat) (p : Path) (id : Nat) (d : List Byte) (s : State) :
    exec (.speedIn t p id d) s = run .app t (fun c => c.speedMsg p id d) s := rfl
theorem exec_vehTime (t : Nat) (n : Fin 3) (id sof : Nat) (d : List Byte) (s : State) :
    exec (.vehTime t n id sof d) s = run .app t (fun c => c.vehTimeMsg n id sof d) s := rfl
theorem exec_occupancyDiscard (t : Nat) (s : State) : exec (.occupancyDiscard t) s = run .app t (fun c => c.occDiscard) s := rfl

/-! ### SPEED_IN (R327) -/

theorem Chip.speedMsg_of_standby (c : Chip) (p : Path) (id : Nat) (d : List Byte) (standby : c.isActive = false) :
    c.speedMsg p id d = c := if_pos (.inl standby)

section Speed

variable (c : Chip) (n : Nat) (d : List Byte) (active : c.isActive = true) (up : c.pathUp (.can n) = true)
  (named : c.isSpeedPath (.can n) = true) (eightBytes : d.length = 8)
include active up named eightBytes

/-- A message with VALID and a new ALIVE is used. -/
theorem Chip.speedMsg_of_fresh (valid : leAt d 4 1 % 2 = 1) (newAlive : c.msg.spAlive ≠ some (leAt d 5 1)) :
    c.speedMsg (.can n) (c.get VM_SPEED_ID_VALUE) d =
      { c with msg := { c.msg with spAlive := some (leAt d 5 1) }
               vote := { c.vote with speedIn := some (signedOf 32 (leAt d 0 4), c.now) }
               wheel := { c.wheel with can := some (signedOf 32 (leAt d 0 4), c.now) } } := by
  have fresh : (leAt d 4 1 % 2 == 1 && c.msg.spAlive != some (leAt d 5 1)) = true := by simp [valid, newAlive]
  exact (if_neg (by simp [active, up, named, eightBytes])).trans (if_pos fresh)

/-- A message that repeats ALIVE is not used. -/
theorem Chip.speedMsg_of_repeated (sameAlive : c.msg.spAlive = some (leAt d 5 1)) :
    c.speedMsg (.can n) (c.get VM_SPEED_ID_VALUE) d = { c with msg := { c.msg with spAlive := some (leAt d 5 1) } } := by
  have stale : ¬ (leAt d 4 1 % 2 == 1 && c.msg.spAlive != some (leAt d 5 1)) = true := by simp [sameAlive]
  exact (if_neg (by simp [active, up, named, eightBytes])).trans (if_neg stale)

end Speed

/-! ### VEH_TIME (R328) -/

theorem Chip.vehTimeMsg_of_otherId (c : Chip) (n id sof : Nat) (d : List Byte) (other : id ≠ c.get VM_TIME_ID_VALUE) :
    c.vehTimeMsg n id sof d = c := if_pos (.inr (.inr (.inr (.inr (.inl other)))))

/-- The first message of the reference: none before it can have been missed. -/
theorem Chip.vehTimeMsg_of_first (c : Chip) (n sof : Nat) (d : List Byte) (active : c.isActive = true) (up : c.pathUp (.can n) = true)
    (enabled : c.is TSYN_CFG_CAN_EN = true) (controller : c.get TSYN_CFG_CAN_CTRL = n) (eightBytes : d.length = 8) (noneYet : c.tsyn.can.meas = []) :
    c.vehTimeMsg n (c.get VM_TIME_ID_VALUE) sof d =
      (c.setRef 2 (fun r => { r with interval := c.get VM_VT_PERIOD_VALUE * 1000000 })).measure 2 sof (leAt d 0 8) true true := by
  unfold Chip.vehTimeMsg
  rw [if_neg (by simp [active, up, enabled, controller, eightBytes]), noneYet]

/-- Settles O31: a SPEED_IN by its ALIVE, a VEH_TIME by its identifier, and the datagrams that are still fresh. -/
theorem vehicleSpeedTime : Obligations.VehicleSpeedTime := by
  unfold Obligations.VehicleSpeedTime
  rintro s t d c rfl live
  refine ⟨fun p id standby => ?standby, fun n active up named eightBytes valid newAlive => ?fresh,
    fun n active up named eightBytes sameAlive => ?repeated, fun n id sof other => ?otherId, ?first, ?discard⟩
  case standby => exact .ofRun (exec_speedIn ..) live (Chip.speedMsg_of_standby _ _ _ _ standby)
  case fresh => exact .ofRun (exec_speedIn ..) live (Chip.speedMsg_of_fresh _ n d active up named eightBytes valid newAlive)
  case repeated => exact .ofRun (exec_speedIn ..) live (Chip.speedMsg_of_repeated _ n d active up named eightBytes sameAlive)
  case otherId => exact .ofRun (exec_vehTime ..) live (Chip.vehTimeMsg_of_otherId _ _ _ _ _ other)
  case first =>
    rintro n sof k active up enabled controller eightBytes noneYet rfl
    exact .ofRun (exec_vehTime ..) live (Chip.vehTimeMsg_of_first _ n sof d active up enabled controller eightBytes noneYet)
  case discard => exact .ofRun (exec_occupancyDiscard ..) live rfl

end Sys2Proof.Machine

/-! ## The console: what becomes of a line (spec/17 R392 to R411, spec/18 R413 to R416) -/

namespace Sys2Proof.Machine

/-! ### From a line to what its command does -/

/-- On a chip that serves, a console command has its effect and the executors go on. -/
theorem Gives.ofConsole {i : Instr} {s : State} {t : Nat} {rom f : Chip → Chip} {x : Chip} (meaning : exec i s = conRunWith t rom f s)
    (serving : (s.chip.begin t).serving = true) (effect : f (s.chip.begin t) = x) : Gives i s t x.settle := by
  unfold Chip.serving at serving
  simp only [Bool.and_eq_true, Bool.not_eq_true', Option.isNone_iff_eq_none] at serving
  obtain ⟨⟨free, noBoot⟩, started⟩ := serving
  refine .ofRunAny meaning ?_
  rw [free, noBoot, started, effect]
  rfl

/-- While a reset holds the chip a console command has no effect (R63). -/
theorem Gives.ofConsole_held {i : Instr} {s : State} {t : Nat} {rom f : Chip → Chip} (meaning : exec i s = conRunWith t rom f s)
    (held : (s.chip.begin t).sys.held.isSome = true) : Gives i s t (s.chip.begin t) :=
  .ofRunAny meaning (if_pos held)

/-! ### The checks of a line, in their order (R398, R406, R410, R414, log 63) -/

theorem Chip.conLine_of_closed (c : Chip) (l : Ln) (bad role : Nat) (dw : Bool) (f : Chip → Chip) (closed : c.sessOpen l.sess = false) :
    c.conLine l bad role dw f = c := if_neg (Bool.eq_false_iff.mp closed)

section Checks

variable {c k : Chip} {l : Ln} (isOpen : c.sessOpen l.sess = true) (ended : k = c.lineTaken l.sess l.tag.isSome)
include isOpen ended

theorem Chip.conLine_of_untagged (bad role : Nat) (dw : Bool) (f : Chip → Chip) (gen : k.sessGen l.sess = true) (untagged : l.tag = none) :
    c.conLine l bad role dw f = k.fail l 102 "" := by
  subst ended
  exact (if_pos isOpen).trans (if_pos ⟨gen, untagged⟩)

theorem Chip.conLine_of_longTag (bad role : Nat) (dw : Bool) (f : Chip → Chip) {g : Nat} (tagged : l.tag = some g) (long : 65535 < g) :
    c.conLine l bad role dw f = k.fail { l with tag := none } 110 "" := by
  subst ended
  refine (if_pos isOpen).trans ((if_neg ?hasTag).trans (if_pos ?tooLong))
  case hasTag => simp [tagged]
  case tooLong => rw [tagged]; exact long

variable (tagged : k.sessGen l.sess = true → l.tag ≠ none) (short : l.tag.getD 0 ≤ 65535)
include tagged short

/-- A line with a good tag comes to the checks of its values, of its role and of its place. -/
theorem Chip.conLine_of_tagged (bad role : Nat) (dw : Bool) (f : Chip → Chip) :
    c.conLine l bad role dw f = if bad ≠ 0 then k.fail l bad "" else if k.sessRole l.sess < role then k.fail l 401 ""
      else if dw ∧ k.isStandby then k.fail l 403 "" else f k := by
  subst ended
  exact (if_pos isOpen).trans ((if_neg fun ⟨gen, untagged⟩ => tagged gen untagged).trans (if_neg (Nat.not_lt.mpr short)))

theorem Chip.conLine_of_bad {bad : Nat} (role : Nat) (dw : Bool) (f : Chip → Chip) (isBad : bad ≠ 0) :
    c.conLine l bad role dw f = k.fail l bad "" :=
  (Chip.conLine_of_tagged isOpen ended tagged short bad role dw f).trans (if_pos isBad)

theorem Chip.conLine_of_lowRole {role : Nat} (dw : Bool) (f : Chip → Chip) (low : k.sessRole l.sess < role) :
    c.conLine l 0 role dw f = k.fail l 401 "" :=
  (Chip.conLine_of_tagged isOpen ended tagged short 0 role dw f).trans ((if_neg (by simp)).trans (if_pos low))

theorem Chip.conLine_of_standby {role : Nat} (f : Chip → Chip) (high : role ≤ k.sessRole l.sess) (standby : k.isStandby = true) :
    c.conLine l 0 role true f = k.fail l 403 "" :=
  (Chip.conLine_of_tagged isOpen ended tagged short 0 role true f).trans
    ((if_neg (by simp)).trans ((if_neg (Nat.not_lt.mpr high)).trans (if_pos ⟨rfl, standby⟩)))

theorem Chip.conLine_of_allowed {role : Nat} {dw : Bool} (f : Chip → Chip) (high : role ≤ k.sessRole l.sess)
    (here : dw = true → k.isStandby = false) : c.conLine l 0 role dw f = f k := by
  refine (Chip.conLine_of_tagged isOpen ended tagged short 0 role dw f).trans
    ((if_neg (by simp)).trans ((if_neg (Nat.not_lt.mpr high)).trans (if_neg ?_)))
  rintro ⟨doorway, standby⟩
  exact Bool.false_ne_true ((here doorway).symm.trans standby)

end Checks

/-- A line that its session takes up in a role is taken up in every role that the session holds. -/
theorem Chip.LineReady.ofRole {c k : Chip} {l : Ln} {role : Nat} (h : c.LineReady k l role) {r : Nat} (holds : r ≤ k.sessRole l.sess) :
    c.LineReady k l r := by
  obtain ⟨serving, isOpen, ended, tagged, short, _⟩ := h
  exact ⟨serving, isOpen, ended, tagged, short, holds⟩

/-- An index below its bound stands against nothing (R415). -/
theorem badIndex_of_lt {i n : Nat} (h : i < n) : badIndex i n = 0 := if_pos h

/-- The line of a console command that is taken up, its values good and the chip the active where it acts on the doorway, has the command's
effect. What stands against its values may depend on the chip, and the boot ROM may have the command too. -/
theorem Gives.ofLineWith {i : Instr} {s : State} {t role : Nat} {l : Ln} {dw : Bool} {rom f : Chip → Chip} (bad : Chip → Nat) {k x : Chip}
    (meaning : exec i s = conRunWith t rom (fun c => c.conLine l (bad c) role dw f) s) (ready : (s.chip.begin t).LineReady k l role)
    (good : bad (s.chip.begin t) = 0) (here : dw = true → k.isStandby = false) (effect : f k = x) : Gives i s t x.settle := by
  obtain ⟨serving, isOpen, ended, tagged, short, high⟩ := ready
  refine .ofConsole meaning serving ?_
  rw [good, Chip.conLine_of_allowed isOpen ended tagged short f high here, effect]

/-- The same for a command that the boot ROM does not have. -/
theorem Gives.ofLine {i : Instr} {s : State} {t role bad : Nat} {l : Ln} {dw : Bool} {f : Chip → Chip} {k x : Chip}
    (meaning : exec i s = conRun t l (fun c => c.conLine l bad role dw f) s) (ready : (s.chip.begin t).LineReady k l role)
    (good : bad = 0) (here : dw = true → k.isStandby = false) (effect : f k = x) : Gives i s t x.settle :=
  .ofLineWith (fun _ => bad) meaning ready good here effect

/-- A queued command tells its session what `queueTold` says (R402, R411). -/
theorem Chip.queueCmd_eq (k : Chip) (l : Ln) (cmd : QCmd) : k.queueCmd l cmd = k.queueTold l cmd := by
  unfold Chip.queueCmd Chip.queueTold
  dsimp only
  cases k.queueOf (9 + l.sess.val) 128 with
  | none => rfl
  | some q =>
    dsimp only
    generalize k.offer q _ _ _ _ _ _ = told
    obtain ⟨m, answer⟩ := told
    cases answer <;> rfl

end Sys2Proof.Machine

/-! ## The console: commands that are queued and commands that act at once (spec/17 R394 to R411, spec/18 R420 to R432, spec/20 R458) -/

namespace Sys2Proof.Machine

/-! ### What stands against the values of a line: nothing, within their bounds (R415, R426) -/

theorem badSlot_of_lt {img slot : Nat} (himg : img < 10) (hslot : slot < 2) : badSlot img slot = 0 := if_pos ⟨himg, hslot⟩

theorem Chip.badVision_of_lt {c : Chip} {i n : Nat} (fitted : c.fuses.partN = false) (h : i < n) : c.badVision i n = 0 :=
  (if_neg (Bool.eq_false_iff.mp fitted)).trans (badIndex_of_lt h)

theorem badCount_toInt {n : Nat} (h : n < 6) (v : Word) : badCount n v.toInt = 0 :=
  if_pos ⟨h, by simpa using v.le_toInt, by simpa using v.toInt_lt⟩

theorem badWord_toNat (v : Word) : badWord (v.toNat : Int) = 0 := if_pos ⟨by omega, by omega⟩

theorem badMask_toNat (v : Word) : badMask v.toNat = 0 := if_pos v.isLt

/-- The two's-complement pattern of a word's signed value is the word. -/
theorem unsignedOf_toInt (v : Word) : unsignedOf 32 v.toInt = v.toNat := by
  unfold unsignedOf
  rw [BitVec.toInt_eq_toNat_cond]
  split <;> omega

/-! ### Queued commands (R402, R411) -/

/-- A queued command of DOOR's resources that is not DOOR's own, as told by its session (log 64). -/
theorem Chip.queueOwned_of_free (k : Chip) (l : Ln) (item : String) (cmd : QCmd) {owned : Bool} (free : owned = false) :
    k.queueOwned l owned item cmd = k.queueTold l cmd :=
  (if_neg (by simp [free])).trans (k.queueCmd_eq l cmd)

theorem Chip.ledgerAckCmd_of_good (k : Chip) (l : Ln) (seq : Nat) (good : k.ledgerAckErr seq = 0) :
    k.ledgerAckCmd l seq = k.queueTold l { op := .ledgerAck, a := 0, b := 0, v := seq } := by
  unfold Chip.ledgerAckCmd
  dsimp only
  rw [good, if_neg (show (0 : Nat) ≠ 703 by decide), if_neg (show ¬ (0 : Nat) ≠ 0 by decide), ite_self, Chip.queueCmd_eq]

/-- A queued line that is taken up is offered to the queue of its session's source. -/
theorem Gives.ofQueued {i : Instr} {s : State} {t role bad : Nat} {l : Ln} {dw : Bool} {k : Chip} {cmd : QCmd}
    (meaning : exec i s = conRun t l (fun c => c.conLine l bad role dw (fun c => c.queueCmd l cmd)) s)
    (ready : (s.chip.begin t).LineReady k l role) (good : bad = 0) (here : dw = true → k.isStandby = false) :
    Gives i s t (k.queueTold l cmd).settle :=
  .ofLine meaning ready good here (k.queueCmd_eq l cmd)

/-! ### The meanings of the commands that the boot ROM has too, and of those of the vision engine -/

theorem exec_updateBegin (t : Nat) (l : Ln) (img slot size : Nat) (s : State) : exec (.updateBegin t l img slot size) s =
    conRunWith t (fun c => c.romUpdate l img (fun c => c.svcBegin size)) (fun c => c.conQueued l (badSlot img slot) 2 false .updBegin img slot size)
      s := rfl
theorem exec_updateVerify (t : Nat) (l : Ln) (img slot : Nat) (s : State) : exec (.updateVerify t l img slot) s =
    conRunWith t (fun c => c.romUpdate l img (fun c => c.svcVerify)) (fun c => c.conQueued l (badSlot img slot) 2 false .updVerify img slot 0) s := rfl
theorem exec_updateActivate (t : Nat) (l : Ln) (img slot : Nat) (s : State) : exec (.updateActivate t l img slot) s =
    conRunWith t (fun c => c.romUpdate l img (fun c => c.svcRun)) (fun c => c.conQueued l (badSlot img slot) 2 false .updActivate img slot 0) s := rfl

theorem exec_visionTenantStart (t : Nat) (l : Ln) (n : Nat) (s : State) : exec (.visionTenantStart t l n) s =
    conRun t l (fun c => c.conQueued l (c.badVision n 4) 2 true .tenantStart n 0 0) s := rfl
theorem exec_visionTenantStop (t : Nat) (l : Ln) (n : Nat) (s : State) : exec (.visionTenantStop t l n) s =
    conRun t l (fun c => c.conQueued l (c.badVision n 4) 2 true .tenantStop n 0 0) s := rfl

/-- FAULT_ACK as a write of FLT_ACK. -/
theorem exec_faultAck_register (t code : Nat) (s : State) : exec (.faultAck t none code) s = runS .app t (fun c => (c.ackFault code).1) s := rfl

/-! ### Commands on the axes, channels and slots -/

section Queued

variable {s : State} {t : Nat} {l : Ln} {k : Chip} (ready : (s.chip.begin t).LineReady k l 2) (active : k.isStandby = false)
include ready active

theorem axisStart_gives {n set : Nat} (hn : 2 ≤ n) (hn' : n < 4) (hs : 32 ≤ set) (hs' : set < 64) :
    Gives (.axisStart t l n set) s t (k.queueTold l { op := .axisStart, a := n, b := set, v := 0 }).settle := by
  refine .ofLine rfl ready ?good (fun _ => active) (k.queueOwned_of_free l _ _ (decide_eq_false (by omega)))
  case good => rw [badIndex_of_lt hn', if_pos hn', badIndex_of_lt hs']

theorem fbkCount_gives (n : Fin 6) (v : Word) :
    Gives (.fbkCount t l n v.toInt) s t (k.queueTold l { op := .fbkCount, a := n, b := 0, v := v.toNat }).settle := by
  rw [← unsignedOf_toInt v]
  exact .ofQueued rfl ready (badCount_toInt n.isLt v) fun _ => active

theorem domArm_gives {n : Nat} (hn : 32 ≤ n) (hn' : n < 64) :
    Gives (.domArm t l n) s t (k.queueTold l { op := .domArm, a := n, b := 0, v := 0 }).settle :=
  .ofLine rfl ready (badIndex_of_lt hn') (fun _ => active) (k.queueOwned_of_free l _ _ (decide_eq_false (Nat.not_lt.mpr hn)))

theorem domDisarm_gives {n : Nat} (hn : 32 ≤ n) (hn' : n < 64) :
    Gives (.domDisarm t l n) s t (k.queueTold l { op := .domDisarm, a := n, b := 0, v := 0 }).settle :=
  .ofLine rfl ready (badIndex_of_lt hn') (fun _ => active) (k.queueOwned_of_free l _ _ (decide_eq_false (Nat.not_lt.mpr hn)))

end Queued

/-- Settles O47: a queued line that passes the checks is offered to its session's queue; those of role operate, those of role service on the
doorway, and those of role service on either chip. -/
theorem consoleQueued : Obligations.ConsoleQueued := by
  unfold Obligations.ConsoleQueued
  rintro s t l c k rfl
  refine ⟨fun ready active => ?operate, fun ready active => ?doorway, fun ready => ?service, fun code live => ?byRegister⟩
  case operate =>
    have here : true = true → k.isStandby = false := fun _ => active
    exact ⟨fun ramp => .ofQueued rfl ready rfl here, .ofQueued rfl ready rfl here, .ofQueued rfl ready rfl here, .ofQueued rfl ready rfl here,
      .ofQueued rfl ready rfl here⟩
  case doorway =>
    have here : ∀ dw, dw = true → k.isStandby = false := fun _ _ => active
    refine ⟨.ofQueued rfl ready rfl (here _), .ofQueued rfl ready rfl (here _), .ofQueued rfl ready rfl (here _),
      fun n set => axisStart_gives ready active, fun n => ⟨?reref, ?cal, ?clrofs⟩, fun n => ⟨?fbkArm, ?fbkDisarm, fbkCount_gives ready active n⟩,
      fun n hn hn' => ⟨domArm_gives ready active hn hn', domDisarm_gives ready active hn hn'⟩, fun v => ?d4, fun n m => ?canMode,
      fun n on => ?canInit, .ofQueued rfl ready rfl (here _), fun code => .ofQueued rfl ready rfl (here _), fun seq good => ?ledgerAck,
      fun n fitted => ⟨?tenantStart, ?tenantStop⟩, fun f => .ofQueued rfl ready rfl (here _)⟩
    case reref | cal | clrofs | fbkArm | fbkDisarm | canMode | canInit => exact .ofQueued rfl ready (badIndex_of_lt n.isLt) (here _)
    case d4 => exact .ofQueued rfl ready (badWord_toNat v) (here _)
    case ledgerAck => exact .ofLine rfl ready rfl (here _) (k.ledgerAckCmd_of_good l seq good)
    case tenantStart =>
      exact .ofLineWith _ (exec_visionTenantStart ..) ready (Chip.badVision_of_lt fitted n.isLt) (here _) (k.queueCmd_eq l _)
    case tenantStop =>
      exact .ofLineWith _ (exec_visionTenantStop ..) ready (Chip.badVision_of_lt fitted n.isLt) (here _) (k.queueCmd_eq l _)
  case service =>
    refine ⟨.ofQueued rfl ready rfl nofun, fun img sl size => ⟨?begin, ?verify, ?activate, ?confirm, ?abort⟩, fun f outside => ?reset,
      fun mask => .ofQueued rfl ready (badMask_toNat mask) nofun⟩
    case begin => exact .ofLineWith _ (exec_updateBegin ..) ready (badSlot_of_lt img.isLt sl.isLt) nofun (k.queueCmd_eq l _)
    case verify => exact .ofLineWith _ (exec_updateVerify ..) ready (badSlot_of_lt img.isLt sl.isLt) nofun (k.queueCmd_eq l _)
    case activate => exact .ofLineWith _ (exec_updateActivate ..) ready (badSlot_of_lt img.isLt sl.isLt) nofun (k.queueCmd_eq l _)
    case abort => exact .ofQueued rfl ready (badSlot_of_lt img.isLt sl.isLt) nofun
    case confirm => exact .ofQueued rfl ready (badSlot_of_lt img.isLt (by decide)) nofun
    case reset =>
      have elsewhere : decide (f.val < 3) = false := decide_eq_false (Nat.not_lt.mpr outside)
      exact .ofQueued rfl ready rfl fun inside => absurd (elsewhere.symm.trans inside) Bool.false_ne_true
  case byRegister => exact .ofRunS (exec_faultAck_register ..) live rfl

end Sys2Proof.Machine

/-! ## The console: direct commands with an effect (spec/17 R394 to R408, spec/18 R420 to R425) -/

namespace Sys2Proof.Machine

theorem exec_updateData (t : Nat) (l : Ln) (off : Nat) (bytes : List Byte) (fails : Fin 3) (s : State) : exec (.updateData t l off bytes fails) s =
    conRunWith t (fun c => c.romData l off bytes)
      (fun c => c.conLine l (if bytes.length = 128 then 0 else 108) 2 false (fun c => c.updateDataReply l off bytes fails)) s := rfl

/-- Settles O46: each line acts at once, where its role, its place and its values pass. -/
theorem consoleDirect : Obligations.ConsoleDirect := by
  unfold Obligations.ConsoleDirect
  rintro s t l c k rfl
  refine ⟨fun ready => ?view, fun ready active => ?operate, fun ready => ?service⟩
  case view =>
    exact ⟨.ofLine rfl ready rfl nofun rfl, .ofLine rfl ready rfl nofun rfl, fun _ _ => .ofLine rfl ready rfl nofun rfl,
      fun _ => .ofLine rfl ready rfl nofun rfl, .ofLine rfl ready rfl nofun rfl, fun _ => .ofLine rfl ready rfl nofun rfl⟩
  case operate =>
    exact ⟨fun _ => .ofLine rfl ready rfl (fun _ => active) rfl, fun n => ⟨.ofLine rfl ready (badIndex_of_lt n.isLt) (fun _ => active) rfl,
      .ofLine rfl ready (badIndex_of_lt n.isLt) (fun _ => active) rfl⟩⟩
  case service =>
    exact ⟨fun _ => .ofLine rfl ready rfl nofun rfl, .ofLine rfl ready rfl nofun rfl, .ofLine rfl ready rfl nofun rfl,
      .ofLine rfl ready rfl nofun rfl, fun off bytes fails full => .ofLineWith _ (exec_updateData ..) ready (if_pos full) nofun rfl,
      fun active n => .ofLine rfl ready (badIndex_of_lt n.isLt) (fun _ => active) rfl⟩

end Sys2Proof.Machine

/-! ## The console: what a line is refused for (spec/17 R398, R406, R410, spec/18 R414, R426, log 63) -/

namespace Sys2Proof.Machine

/-! ### The order of the refusals -/

/-- A command of the console at `t` whose values meet their bounds: line `l`, the role that it needs and whether it acts on the doorway. -/
def IsLine (i : Instr) (t : Nat) (l : Ln) (role : Nat) (dw : Bool) : Prop :=
  ∃ f, ∀ s, exec i s = conRun t l (fun c => c.conLine l 0 role dw f) s

theorem IsLine.of {i : Instr} {t : Nat} {l : Ln} {role bad : Nat} {dw : Bool} {f : Chip → Chip}
    (meaning : ∀ s, exec i s = conRun t l (fun c => c.conLine l bad role dw f) s) (good : bad = 0) : IsLine i t l role dw := by
  subst good
  exact ⟨f, meaning⟩

/-- The refusals of such a line, in their order. -/
theorem IsLine.refusals {i : Instr} {t : Nat} {l : Ln} {role : Nat} {dw : Bool} (line : IsLine i t l role dw) (s : State) (c k : Chip)
    (hc : c = s.chip.begin t) :
    (c.sys.held.isSome = true → Gives i s t c) ∧
    (c.serving = true → c.sessOpen l.sess = false → Gives i s t c.settle) ∧
    (c.serving = true → c.sessOpen l.sess = true → k = c.lineTaken l.sess l.tag.isSome →
      (k.sessGen l.sess = true → l.tag = none → Gives i s t (k.fail l 102 "").settle) ∧
      (∀ g, l.tag = some g → 65535 < g → Gives i s t (k.fail { l with tag := none } 110 "").settle) ∧
      ((k.sessGen l.sess = true → l.tag ≠ none) → l.tag.getD 0 ≤ 65535 →
        (k.sessRole l.sess < role → Gives i s t (k.fail l 401 "").settle) ∧
        (role ≤ k.sessRole l.sess → dw = true → k.isStandby = true → Gives i s t (k.fail l 403 "").settle))) := by
  obtain ⟨f, meaning⟩ := line
  subst hc
  refine ⟨.ofConsole_held (meaning s), fun serving closed => ?closed, fun serving isOpen ended => ⟨fun gen untagged => ?untagged,
    fun g tagged long => ?longTag, fun tagged short => ⟨fun low => ?lowRole, fun high doorway standby => ?standby⟩⟩⟩
  case closed => exact .ofConsole (meaning s) serving (Chip.conLine_of_closed _ l 0 role dw f closed)
  case untagged => exact .ofConsole (meaning s) serving (Chip.conLine_of_untagged isOpen ended 0 role dw f gen untagged)
  case longTag => exact .ofConsole (meaning s) serving (Chip.conLine_of_longTag isOpen ended 0 role dw f tagged long)
  case lowRole => exact .ofConsole (meaning s) serving (Chip.conLine_of_lowRole isOpen ended tagged short dw f low)
  case standby =>
    subst doorway
    exact .ofConsole (meaning s) serving (Chip.conLine_of_standby isOpen ended tagged short f high standby)

/-- Settles O49: every command of the list is a line with the role and the place that the list gives it. -/
theorem consoleRefusals : Obligations.ConsoleRefusals := by
  unfold Obligations.ConsoleRefusals
  intro s t l c k i role dw hc on n4 f code items layer row
  refine IsLine.refusals ?_ s c k hc
  refine (List.forall_iff_forall_mem (p := fun r : Instr × Nat × Bool => IsLine r.1 t l r.2.1 r.2.2)).mp ?_ _ row
  have axis : badIndex n4 4 = 0 := badIndex_of_lt n4.isLt
  exact ⟨.of (fun _ => rfl) rfl, .of (fun _ => rfl) rfl, .of (fun _ => rfl) rfl, .of (fun _ => rfl) rfl, .of (fun _ => rfl) rfl,
    .of (fun _ => rfl) rfl, .of (fun _ => rfl) rfl, .of (fun _ => rfl) rfl, .of (fun _ => rfl) rfl, .of (fun _ => rfl) axis,
    .of (fun _ => rfl) axis, .of (fun _ => rfl) axis, .of (fun _ => rfl) rfl, .of (fun _ => rfl) rfl, .of (fun _ => rfl) rfl,
    .of (fun _ => rfl) rfl, .of (fun _ => rfl) rfl, .of (fun _ => rfl) rfl, .of (fun _ => rfl) rfl, .of (fun _ => rfl) axis,
    .of (fun _ => rfl) rfl, .of (fun _ => rfl) rfl, .of (fun _ => rfl) rfl, .of (fun _ => rfl) rfl, .of (fun _ => rfl) rfl⟩

/-! ### Vision commands on the CV-4410N (R426) -/

/-- A line with a bad value is answered with its error. -/
theorem Gives.ofBadLine {i : Instr} {s : State} {t role e : Nat} {l : Ln} {dw : Bool} {f : Chip → Chip} (bad : Chip → Nat) {k : Chip}
    (meaning : exec i s = conRun t l (fun c => c.conLine l (bad c) role dw f) s) (ready : (s.chip.begin t).LineReady k l 0)
    (isBad : bad (s.chip.begin t) = e) (error : e ≠ 0) : Gives i s t (k.fail l e "").settle := by
  obtain ⟨serving, isOpen, ended, tagged, short, _⟩ := ready
  refine .ofConsole meaning serving ?_
  rw [isBad, Chip.conLine_of_bad isOpen ended tagged short role dw f error]

theorem Chip.badVision_of_partN {c : Chip} (partN : c.fuses.partN = true) (i n : Nat) : c.badVision i n = 203 := if_pos partN

theorem Chip.badGrid_of_partN {c : Chip} (partN : c.fuses.partN = true) (cam tenant : Nat) : c.badGrid cam tenant = 203 := if_pos partN

theorem exec_visionStatus (t : Nat) (l : Ln) (s : State) : exec (.visionStatus t l) s =
    conRun t l (fun c => c.conLine l (c.badVision 0 1) 0 false (fun c => c.visionQuery l)) s := rfl
theorem exec_visionCam (t : Nat) (l : Ln) (n : Nat) (s : State) : exec (.visionCam t l n) s =
    conRun t l (fun c => c.conLine l (c.badVision n 2) 0 false (fun c => c.camQuery l n)) s := rfl
theorem exec_visionTenant (t : Nat) (l : Ln) (n : Nat) (s : State) : exec (.visionTenant t l n) s =
    conRun t l (fun c => c.conLine l (c.badVision n 4) 0 false (fun c => c.tenantQuery l n)) s := rfl
theorem exec_visionGrid (t : Nat) (l : Ln) (cam tenant : Nat) (s : State) : exec (.visionGrid t l cam tenant) s =
    conRun t l (fun c => c.conLine l (c.badGrid cam tenant) 0 false (fun c => c.gridQuery l cam tenant)) s := rfl

/-- Settles O45: on the CV-4410N the part stands against every vision line, before its index, its role and its place (log 63). -/
theorem visionRefusedOnN : Obligations.VisionRefusedOnN := by
  unfold Obligations.VisionRefusedOnN
  rintro s t a b l c k i rfl partN ready row
  refine (List.forall_iff_forall_mem (p := fun i => Gives i s t (k.fail l 203 "").settle)).mp ?_ i row
  refine ⟨?status, ?cam, ?tenant, ?grid, ?start, ?stop⟩
  case status => exact .ofBadLine _ (exec_visionStatus ..) ready (Chip.badVision_of_partN partN ..) (by decide)
  case cam => exact .ofBadLine _ (exec_visionCam ..) ready (Chip.badVision_of_partN partN ..) (by decide)
  case tenant => exact .ofBadLine _ (exec_visionTenant ..) ready (Chip.badVision_of_partN partN ..) (by decide)
  case grid => exact .ofBadLine _ (exec_visionGrid ..) ready (Chip.badGrid_of_partN partN ..) (by decide)
  case start => exact .ofBadLine _ (exec_visionTenantStart ..) ready (Chip.badVision_of_partN partN ..) (by decide)
  case stop => exact .ofBadLine _ (exec_visionTenantStop ..) ready (Chip.badVision_of_partN partN ..) (by decide)

end Sys2Proof.Machine

/-! ## The console: queries, the hold of the door release, timers and malformed lines (spec/17 R393 to R409, spec/18 R413 to R428) -/

namespace Sys2Proof.Machine

/-! ### What an answer changes: the sessions and the emissions -/

/-- `x` is `k` with something sent to a session. -/
def Answers (k x : Chip) : Prop := ∃ sess out, x = { k with sess := sess, out := out }

theorem Answers.eq {k x : Chip} (h : Answers k x) : x = { k with sess := x.sess, out := x.out } := by
  obtain ⟨sess, out, rfl⟩ := h
  rfl

theorem Answers.refl (k : Chip) : Answers k k := ⟨_, _, rfl⟩

theorem Answers.trans {k x y : Chip} (h : Answers k x) (h' : Answers x y) : Answers k y := by
  obtain ⟨sess, out, rfl⟩ := h
  obtain ⟨sess', out', rfl⟩ := h'
  exact ⟨sess', out', rfl⟩

theorem Answers.foldl {α : Type} {f : Chip → α → Chip} (step : ∀ c a, Answers c (f c a)) : ∀ (l : List α) (k : Chip), Answers k (l.foldl f k)
  | [], k => .refl k
  | a :: l, k => (step k a).trans (Answers.foldl step l (f k a))

theorem Answers.regs {k x : Chip} (h : Answers k x) : x.regs = k.regs := by rw [h.eq]
theorem Answers.cfg {k x : Chip} (h : Answers k x) : x.cfg = k.cfg := by rw [h.eq]
theorem Answers.wqm {k x : Chip} (h : Answers k x) : x.wqm = k.wqm := by rw [h.eq]
theorem Answers.flt {k x : Chip} (h : Answers k x) : x.flt = k.flt := by rw [h.eq]

theorem Answers.store {k x : Chip} (h : Answers k x) : SameStore k x := by
  obtain ⟨sess, out, rfl⟩ := h
  exact ⟨fun _ => rfl, rfl, rfl⟩

theorem Answers.sendLine (k : Chip) (s : Nat) (text : String) : Answers k (k.sendLine s text) := ⟨_, _, rfl⟩

theorem Answers.emit (k : Chip) (e : Emission) : Answers k (k.emit e) := ⟨k.sess, _, rfl⟩

theorem Answers.reply (k : Chip) (s : Nat) (tag : Option Nat) (text : String) : Answers k (k.reply s tag text) := by
  unfold Chip.reply
  cases tag with
  | some g => exact .sendLine ..
  | none =>
    dsimp only
    split
    · exact .sendLine ..
    · exact (Answers.sendLine ..).trans (.emit ..)

theorem Answers.replyMore (k : Chip) (s : Nat) (tag : Option Nat) (text : String) : Answers k (k.replyMore s tag text) := by
  unfold Chip.replyMore
  cases tag <;> exact .sendLine ..

theorem Answers.okay (k : Chip) (l : Ln) (text : String) : Answers k (k.okay l text) := .reply ..

theorem Answers.fail (k : Chip) (l : Ln) (code : Nat) (detail : String) : Answers k (k.fail l code detail) := .reply ..

theorem Answers.okLines (k : Chip) (l : Ln) (ls : List String) (last : String) : Answers k (k.okLines l ls last) :=
  (Answers.foldl (fun c x => .replyMore c l.sess l.tag x) ls k).trans (.okay ..)

/-! ### The queries whose answer depends on what they find (R413, R419, R427, R428) -/

theorem Answers.helpReply (k : Chip) (l : Ln) (family : Option String) : Answers k (k.helpReply l family) := by
  unfold Chip.helpReply
  cases family with
  | none => exact .okLines ..
  | some f =>
    dsimp only
    split
    · exact .okLines ..
    · exact .fail ..

theorem Answers.getReply (k : Chip) (l : Ln) (names : List String) (pending : Bool) : Answers k (k.getReply l names pending) := by
  unfold Chip.getReply
  dsimp only
  split
  · exact .fail ..
  split
  · exact .fail ..
  split
  · split
    · exact .fail ..
    split
    · exact .fail ..
    · exact .okLines ..
  · split
    · exact .fail ..
    · exact .okay ..

theorem Answers.lfQuery (k : Chip) (l : Ln) : Answers k (k.lfQuery l) := by
  unfold Chip.lfQuery
  cases k.dom.lf <;> exact .okay ..

theorem Answers.keyQuery (k : Chip) (l : Ln) (q key : Nat) : Answers k (k.keyQuery l q key) := by
  unfold Chip.keyQuery
  dsimp only
  split <;> exact .okay ..

theorem Answers.ledgerReadReply (k : Chip) (l : Ln) (seq count : Nat) : Answers k (k.ledgerReadReply l seq count) := by
  unfold Chip.ledgerReadReply
  split
  · exact .fail ..
  split
  · exact .fail ..
  · exact .okLines ..

/-! ### Queries -/

/-- A query is answered, and its answer goes to its session. -/
def Answered (s : State) (t : Nat) (k : Chip) (i : Instr) (x : Chip) : Prop := Gives i s t x.settle ∧ Answers k x

theorem Answered.of {s : State} {t bad : Nat} {l : Ln} {k x : Chip} {i : Instr} {f : Chip → Chip}
    (meaning : exec i s = conRun t l (fun c => c.conLine l bad 0 false f) s) (ready : (s.chip.begin t).LineReady k l 0) (good : bad = 0)
    (effect : f k = x) (answers : Answers k x) : Answered s t k i x :=
  ⟨.ofLine meaning ready good nofun effect, answers⟩

theorem exec_ping (t : Nat) (l : Ln) (s : State) : exec (.ping t l) s =
    conRunWith t (fun c => c.romLine l (fun c => c.okay l "")) (fun c => c.conLine l 0 0 false (fun c => c.okay l "")) s := rfl

theorem exec_updateStatus (t : Nat) (l : Ln) (img : Option Nat) (s : State) : exec (.updateStatus t l img) s =
    conRun t l (fun c => c.conLine l (img.elim 0 (fun k => badIndex k 9)) 0 false (fun c => c.updateQuery l img)) s := by
  cases img <;> rfl

/-- The image that a status query names, if it names one, is one of the nine (R430). -/
theorem badImg_of_lt (img : Option (Fin 9)) : (img.map (·.val)).elim 0 (fun k => badIndex k 9) = 0 := by
  cases img with
  | none => rfl
  | some k => exact badIndex_of_lt k.isLt

theorem Chip.badGrid_of_lt {c : Chip} (fitted : c.fuses.partN = false) (cam tenant : Fin 2) : c.badGrid cam (tenant + 1) = 0 :=
  (if_neg (Bool.eq_false_iff.mp fitted)).trans (if_pos ⟨cam.isLt, by omega⟩)

/-- Settles O44: every query of the list is answered with one reply, of one line or of several, and a reply goes to its session only; those of
the vision engine where the part has one. -/
theorem consoleQueries : Obligations.ConsoleQueries := by
  unfold Obligations.ConsoleQueries
  rintro s t l c k x i rfl ready n4 n4b n6 n64 n3 n2 n2b q key seq count names pend fam img row
  suffices h : Answered s t k i x from ⟨h.1, h.2.eq⟩
  have index {i n : Nat} (h : i < n) : badIndex i n = 0 := badIndex_of_lt h
  obtain row | row := List.mem_append.mp row
  · refine (List.forall_iff_forall_mem (p := fun r : Instr × Chip => Answered s t k r.1 r.2)).mp ?_ _ row
    refine ⟨?help, ?ping, ?get, ?configShow, ?configCrc, ?door, ?meas, ?axis, ?cur, ?fbk, ?wheel, ?dom, ?slot, ?lf, ?can, ?eth, ?port, ?time, ?now,
      ?pair, ?health, ?queue, ?key, ?faults, ?ledger, ?ledgerRead, ?update, ?info, ?cause, ?frst, ?supply⟩
    case help => exact .of rfl ready rfl rfl (.helpReply ..)
    case ping => exact ⟨.ofLineWith _ (exec_ping ..) ready rfl nofun rfl, .okay ..⟩
    case get => exact .of rfl ready rfl rfl (.getReply ..)
    case lf => exact .of rfl ready rfl rfl (.lfQuery ..)
    case key => exact .of rfl ready (index q.isLt) rfl (.keyQuery ..)
    case ledgerRead => exact .of rfl ready rfl rfl (.ledgerReadReply ..)
    case configShow | faults | frst => exact .of rfl ready rfl rfl (.okLines ..)
    case update => exact .of (exec_updateStatus ..) ready (badImg_of_lt img) rfl (.okLines ..)
    case axis | cur => exact .of rfl ready (index n4.isLt) rfl (.okay ..)
    case fbk => exact .of rfl ready (index n6.isLt) rfl (.okay ..)
    case slot => exact .of rfl ready (index n64.isLt) rfl (.okay ..)
    case can => exact .of rfl ready (index n3.isLt) rfl (.okay ..)
    case port => exact .of rfl ready (index n2.isLt) rfl (.okay ..)
    case queue => exact .of rfl ready (index q.isLt) rfl (.okay ..)
    case configCrc | door | meas | wheel | dom | eth | time | now | pair | health | ledger | info | cause | supply =>
      exact .of rfl ready rfl rfl (.okay ..)
  · cases fitted : (s.chip.begin t).fuses.partN with
    | true =>
      rw [if_pos fitted] at row
      cases row
    | false =>
      rw [if_neg (Bool.eq_false_iff.mp fitted)] at row
      refine (List.forall_iff_forall_mem (p := fun r : Instr × Chip => Answered s t k r.1 r.2)).mp ?_ _ row
      refine ⟨⟨?status, .okay ..⟩, ⟨?cam, .okay ..⟩, ⟨?tenant, .okay ..⟩, ⟨?grid, .okLines ..⟩⟩
      case status => exact .ofLineWith _ (exec_visionStatus ..) ready (Chip.badVision_of_lt fitted (by decide)) nofun rfl
      case cam => exact .ofLineWith _ (exec_visionCam ..) ready (Chip.badVision_of_lt fitted n2.isLt) nofun rfl
      case tenant => exact .ofLineWith _ (exec_visionTenant ..) ready (Chip.badVision_of_lt fitted n4b.isLt) nofun rfl
      case grid => exact .ofLineWith _ (exec_visionGrid ..) ready (Chip.badGrid_of_lt fitted n2 n2b) nofun rfl

/-! ### The hold of the door release (R421) -/

/-- `set` changes nothing but the working copy, and answers (R420). -/
theorem Chip.setReply_answers (k : Chip) (l : Ln) (items : List (String × Int)) :
    ∃ work, Answers ({ k with cfg := { k.cfg with work := work } } : Chip) (k.setReply l items) := by
  unfold Chip.setReply
  dsimp only
  split
  · exact ⟨_, .fail ..⟩
  split
  · exact ⟨_, .fail ..⟩
  split
  · exact ⟨_, .fail ..⟩
  split
  · exact ⟨_, .fail ..⟩
  · exact ⟨_, .okay ..⟩

/-- The answer to a field put leaves the other registers alone. -/
theorem Answers.sameRegs_of_put {k x : Chip} {f : Fld} {b : Bool} (h : Answers (k.put f b) x) : SameRegs [f.addr] k x := by
  intro a ha
  have other : a ≠ f.addr := fun e => ha (List.mem_singleton.mpr e)
  have rd : x.rd a = (k.put f b).rd a := by unfold Chip.rd; rw [h.regs]
  exact rd.trans (Chip.rd_set_ne k f _ a other)

theorem Answers.is {k x : Chip} (h : Answers k x) (f : Fld) : x.is f = k.is f := by
  unfold Chip.is Chip.get Chip.rd
  rw [h.regs]

/-- A line that is taken up in view but lacks its role. -/
theorem Gives.ofLowRole {i : Instr} {s : State} {t role : Nat} {l : Ln} {dw : Bool} {f : Chip → Chip} {k : Chip}
    (meaning : exec i s = conRun t l (fun c => c.conLine l 0 role dw f) s) (ready : (s.chip.begin t).LineReady k l 0)
    (low : k.sessRole l.sess < role) : Gives i s t (k.fail l 401 "").settle := by
  obtain ⟨serving, isOpen, ended, tagged, short, _⟩ := ready
  exact .ofConsole meaning serving (Chip.conLine_of_lowRole isOpen ended tagged short dw f low)

/-- A line that has its role but acts on the doorway, at the standby. -/
theorem Gives.ofStandby {i : Instr} {s : State} {t role : Nat} {l : Ln} {f : Chip → Chip} {k : Chip}
    (meaning : exec i s = conRun t l (fun c => c.conLine l 0 role true f) s) (ready : (s.chip.begin t).LineReady k l role)
    (standby : k.isStandby = true) : Gives i s t (k.fail l 403 "").settle := by
  obtain ⟨serving, isOpen, ended, tagged, short, high⟩ := ready
  exact .ofConsole meaning serving (Chip.conLine_of_standby isOpen ended tagged short f high standby)

/-- Settles O51: the hold is one field put and answered, or refused; `set` only takes a working copy. -/
theorem releaseHold : Obligations.ReleaseHold := by
  unfold Obligations.ReleaseHold
  rintro s t l on c k rfl ready
  refine ⟨fun operate active => ⟨(k.put VOTE_HOLD_REL_HOLD on).okay l "", ?held⟩, fun view => ?view, fun operate standby => ?standby,
    fun service items => ⟨k.setReply l items, ?set⟩⟩
  case held =>
    have answer : Answers (k.put VOTE_HOLD_REL_HOLD on) ((k.put VOTE_HOLD_REL_HOLD on).okay l "") := .okay ..
    exact ⟨.ofLine rfl (ready.ofRole operate) rfl (fun _ => active) rfl, (answer.is _).trans (Chip.is_put_self _ _ _ rfl (by decide)),
      answer.sameRegs_of_put, answer.cfg, answer.wqm, answer.flt, answer.store⟩
  case view => exact .ofLowRole (role := 1) rfl ready (by omega)
  case standby => exact .ofStandby rfl (ready.ofRole operate) standby
  case set =>
    obtain ⟨work, answer⟩ := k.setReply_answers l items
    exact ⟨.ofLine rfl (ready.ofRole service) rfl nofun rfl, answer.regs, answer.store⟩

/-! ### Timers, typed editing and malformed lines (R393, R397, R408, R409) -/

theorem exec_roleIdleTimeout (t : Nat) (n : Fin 6) (s : State) : exec (.roleIdleTimeout t n) s = run .app t (fun c => c.roleIdle n) s := rfl
theorem exec_authLockEnd (t : Nat) (n : Fin 6) (s : State) : exec (.authLockEnd t n) s = run .app t (fun c => c.authUnlock n) s := rfl
theorem exec_typedEdit (t : Nat) (n : Fin 6) (bytes : List Byte) (s : State) :
    exec (.typedEdit t n bytes) s = run .app t (fun c => c.typedEdit n bytes) s := rfl
theorem exec_malformedLine (t : Nat) (n : Fin 6) (bytes : List Byte) (framing full : Bool) (s : State) :
    exec (.malformedLine t n bytes framing full) s =
      conRunWith t (fun c => c.romBadLine n bytes framing full) (fun c => c.badLine n bytes framing full) s := rfl

section Session

variable {c : Chip} {n : Nat} {x : Sess} (found : c.sess[n]? = some x)
include found

/-- What the two timers of a session come to, once the session is found. -/
theorem Chip.roleIdle_eq : c.roleIdle n = if c.sessRole n = 2 ∧ 900000000000 ≤ c.now - x.lastLine then c.roleFall n "idle" else c := by
  unfold Chip.roleIdle
  rw [found]

theorem Chip.authUnlock_eq {a : Nat} (locked : x.lockedAt = some a) : c.authUnlock n =
    if 60000000000 ≤ c.now - a then { c with sess := modAt c.sess n (fun y => { y with lockedAt := none, wrong := 0 }) } else c := by
  unfold Chip.authUnlock
  rw [found]
  dsimp only
  rw [locked]

end Session

theorem Chip.badLine_of_good {c : Chip} {n : Nat} {bytes : List Byte} {framing full : Bool}
    (good : (lineErr (c.sessGen n) bytes framing full).2 = 0) : c.badLine n bytes framing full = c := by
  unfold Chip.badLine
  dsimp only
  rw [if_pos good, ite_self]

theorem Chip.badLine_of_bad {c : Chip} {n : Nat} {bytes : List Byte} {framing full : Bool} (isOpen : c.sessOpen n = true)
    (bad : (lineErr (c.sessGen n) bytes framing full).2 ≠ 0) : c.badLine n bytes framing full =
      (c.lineTaken n (bytes.head? == some 0x21)).reply n (lineErr (c.sessGen n) bytes framing full).1
        ("err " ++ errName (lineErr (c.sessGen n) bytes framing full).2) := by
  unfold Chip.badLine
  dsimp only
  rw [if_pos isOpen, if_neg bad]
  cases (lineErr (c.sessGen n) bytes framing full).1 <;> rfl

/-- Settles O50: each timer by whether it has run, an edit by the mode of the session, and a line by whether it is an acceptable one. -/
theorem consoleTimers : Obligations.ConsoleTimers := by
  unfold Obligations.ConsoleTimers
  rintro s t n c x rfl found
  refine ⟨fun live => ⟨fun service due => ?fall, fun early => ?stay, fun a locked due => ?unlock, fun a locked early => ?lock,
    fun bytes isOpen typed => ?edit, fun bytes other => ?noEdit⟩, fun bytes framing full serving isOpen => ⟨fun good => ?good, fun bad => ?bad⟩⟩
  case fall => exact .ofRun (exec_roleIdleTimeout ..) live ((Chip.roleIdle_eq found).trans (if_pos ⟨service, due⟩))
  case stay =>
    refine .ofRun (exec_roleIdleTimeout ..) live ((Chip.roleIdle_eq found).trans (if_neg fun ⟨service, due⟩ => ?_))
    obtain other | early := early
    · exact other service
    · exact Nat.not_lt.mpr due early
  case unlock => exact .ofRun (exec_authLockEnd ..) live ((Chip.authUnlock_eq found locked).trans (if_pos due))
  case lock => exact .ofRun (exec_authLockEnd ..) live ((Chip.authUnlock_eq found locked).trans (if_neg (Nat.not_le.mpr early)))
  case edit => exact .ofRun (exec_typedEdit ..) live (if_pos ⟨isOpen, typed⟩)
  case noEdit =>
    refine .ofRun (exec_typedEdit ..) live (if_neg fun ⟨isOpen, typed⟩ => ?_)
    obtain closed | gen := other
    · exact Bool.false_ne_true (closed.symm.trans isOpen)
    · exact Bool.false_ne_true (typed.symm.trans gen)
  case good => exact .ofConsole (exec_malformedLine ..) serving (Chip.badLine_of_good good)
  case bad => exact .ofConsole (exec_malformedLine ..) serving (Chip.badLine_of_bad isOpen bad)

end Sys2Proof.Machine

/-! ## The block as a whole (spec/00, logs 2 and 3) -/

namespace Sys2Proof.Machine

theorem Ends.goesOn {s : State} {o : Host.Outcome State Fault Refusal} (h : Ends s o) : ∃ u, o = .next u ∧ u.pending = s.pending := by
  cases h <;> exact ⟨_, rfl, rfl⟩

/-- Settles O53: a command ends with time passed or with its effect, and neither stops the block. -/
theorem everyCommandGoesOn : Obligations.EveryCommandGoesOn := fun i s => (exec_ends i s).goesOn

theorem step_of_empty (s : State) (empty : s.pending = []) : step s = .next s := by
  unfold step
  rw [empty]

/-- Settles O52: a step looks at the front of the queue, and no word of the table spells a command. -/
theorem stepRunsFront : Obligations.StepRunsFront := ⟨fun _ _ => rfl, step_of_empty, fun _ _ _ => ⟨rfl, rfl⟩⟩

end Sys2Proof.Machine

/-! ## The fault manager (spec/21 R476 to R486) -/

namespace Sys2Proof.Machine

/-! ### The meanings of the commands -/

theorem exec_faultTake (t : Nat) (s : State) : exec (.faultTake t) s = runS .app t (fun c => c.faultTake.visionCheck) s := rfl
theorem exec_faultHandlingEnd (t : Nat) (s : State) : exec (.faultHandlingEnd t) s = runS .app t (fun c => c.handlingEnd) s := rfl
theorem exec_eventFaultClear (t code : Nat) (s : State) : exec (.eventFaultClear t code) s = run .app t (fun c => c.eventClear code) s := rfl
theorem exec_coalescedRecord (t code : Nat) (s : State) : exec (.coalescedRecord t code) s = run .app t (fun c => c.coalRecord code) s := rfl

/-! ### The taking of a raise (R476 to R481) -/

/-- The handling that a raise asks for. -/
def Raise.handling (r : Raise) : Handling :=
  { code := r.code, sev := r.sev, esc := r.esc, func := r.func, since := r.at_, last := r.at_, count := 1, detail := r.detail }

/-- The chip with a raise off its way and counted (R478). -/
def Chip.raiseTaken (c : Chip) (r : Raise) : Chip := ({ c with flt := { c.flt with inbox := c.flt.inbox.erase r } } : Chip).incWrap FLT_RAISED_N

theorem Chip.faultTake_of_empty (c : Chip) (empty : c.flt.inbox = []) : c.faultTake = c := by
  unfold Chip.faultTake Chip.nextRaise
  rw [empty]
  rfl

section Taken

variable {c : Chip} {r : Raise} (next : c.nextRaise = some r)
include next

theorem Chip.faultTake_of_known (known : (c.raiseTaken r).fltKnown r.code = true) : c.faultTake = (c.raiseTaken r).coalesce r.code r.at_ := by
  unfold Chip.faultTake
  rw [next]
  exact if_pos known

variable (unknown : (c.raiseTaken r).fltKnown r.code = false)
include unknown

/-- A code that is not known yet: what becomes of its handling depends on the one under way. -/
theorem Chip.faultTake_of_unknown : c.faultTake =
    match c.flt.cur with
    | none => (c.raiseTaken r).handle r.handling
    | some x =>
      if x.sev < r.sev then ({ c.raiseTaken r with flt := { (c.raiseTaken r).flt with susp := x :: (c.raiseTaken r).flt.susp } } : Chip).handle r.handling
      else if c.flt.fifo.length < 16 then
        ({ c.raiseTaken r with flt := { (c.raiseTaken r).flt with fifo := (c.raiseTaken r).flt.fifo ++ [r.handling] } } : Chip).fltStat
      else (((((c.raiseTaken r).faultRecord r.code r.sev (if r.esc then 5 else 1) 1 r.detail).set FLT_OVF_CODE r.code).incSat
        FLT_OVF_COUNT).overflowFault).fltStat := by
  unfold Chip.faultTake
  rw [next]
  exact if_neg (Bool.eq_false_iff.mp unknown)

end Taken

/-- Settles O36: the next raise by whether its code is known, then by the handling under way and the room in the FIFO. -/
theorem faultTaken : Obligations.FaultTaken := by
  unfold Obligations.FaultTaken
  rintro s t c k r h rfl live hh hk
  obtain rfl : h = r.handling := hh
  obtain rfl : k = (s.chip.begin t).raiseTaken r := hk
  refine ⟨fun empty => ?nothing, fun next => ⟨fun known => ?coalesced, fun unknown idle => ?handled, fun x unknown cur lower => ?suspends,
    fun x unknown cur higher room => ?queued, fun x unknown cur higher full => ?overflows⟩⟩
  case nothing => exact .ofRunS (exec_faultTake ..) live (congrArg Chip.visionCheck (Chip.faultTake_of_empty _ empty))
  case coalesced => exact .ofRunS (exec_faultTake ..) live (congrArg Chip.visionCheck (Chip.faultTake_of_known next known))
  all_goals
    refine .ofRunS (exec_faultTake ..) live (congrArg Chip.visionCheck ((Chip.faultTake_of_unknown next unknown).trans ?_))
  case handled => rw [idle]
  case suspends =>
    rw [cur]
    exact if_pos lower
  case queued =>
    rw [cur]
    exact (if_neg (Nat.not_lt.mpr higher)).trans (if_pos room)
  case overflows =>
    rw [cur]
    exact (if_neg (Nat.not_lt.mpr higher)).trans (if_neg (Nat.not_lt.mpr full))

/-! ### The end of a handling (R477, R478) -/

theorem Chip.handlingEnd_of_idle (c : Chip) (idle : c.flt.cur = none) : c.handlingEnd = c := by
  unfold Chip.handlingEnd
  rw [idle]

section Current

variable {c : Chip} {h : Handling} (cur : c.flt.cur = some h)
include cur

theorem Chip.handlingEnd_of_lasting (lasting : c.handlingOver h = false) : c.handlingEnd = c := by
  unfold Chip.handlingEnd
  rw [cur]
  exact if_neg (Bool.eq_false_iff.mp lasting)

variable (isOver : c.handlingOver h = true) {k : Chip} (freed : k = { c with flt := { c.flt with cur := none } })
include isOver freed

theorem Chip.handlingEnd_of_suspended {x : Handling} {rest : List Handling} (suspended : c.flt.susp = x :: rest) :
    c.handlingEnd = ({ k with flt := { k.flt with cur := some x, susp := rest } } : Chip).fltStat := by
  subst freed
  unfold Chip.handlingEnd
  rw [cur]
  dsimp only
  rw [if_pos isOver, suspended]

theorem Chip.handlingEnd_of_queued {x : Handling} {rest : List Handling} (noSusp : c.flt.susp = []) (queued : c.flt.fifo = x :: rest) :
    c.handlingEnd = ({ k with flt := { k.flt with fifo := rest } } : Chip).handle x := by
  subst freed
  unfold Chip.handlingEnd
  rw [cur]
  dsimp only
  rw [if_pos isOver, noSusp]
  dsimp only
  rw [queued]

theorem Chip.handlingEnd_of_last (noSusp : c.flt.susp = []) (noQueue : c.flt.fifo = []) : c.handlingEnd = k.fltStat := by
  subst freed
  unfold Chip.handlingEnd
  rw [cur]
  dsimp only
  rw [if_pos isOver, noSusp]
  dsimp only
  rw [noQueue]

end Current

/-! ### Faults in force (R479, R486) -/

section InForce

variable {c : Chip} {code : Nat} {e : InForce} (found : c.flt.inForce.find? (fun x => x.code == code) = some e)
include found

theorem Chip.eventClear_eq : c.eventClear code =
    if e.sev = 2 ∧ isCondition code = false ∧ 10000000000 ≤ c.now - e.last then c.dropFault code else c := by
  unfold Chip.eventClear
  rw [found]

theorem Chip.coalRecord_of_due (coalesced : 0 < e.since) (due : e.lastRec ≤ c.now) : c.coalRecord code =
    ({ c with flt := { c.flt with inForce := c.flt.inForce.map (fun x =>
      if x.code = code then { x with since := 0, lastRec := c.now + 10000000000 } else x) } } : Chip).faultRecord code e.sev 8 e.since e.detail := by
  unfold Chip.coalRecord
  rw [found]
  exact if_pos ⟨coalesced, due⟩

theorem Chip.coalRecord_of_none (noneCoalesced : e.since = 0) : c.coalRecord code = c := by
  unfold Chip.coalRecord
  rw [found]
  exact if_neg fun ⟨coalesced, _⟩ => coalesced.ne' noneCoalesced

end InForce

/-- Settles O37: the end of a handling by what waits for it, an event fault by its severity and age, a coalesced record by its count. -/
theorem faultHandling : Obligations.FaultHandling := by
  unfold Obligations.FaultHandling
  rintro s t c k rfl live
  refine ⟨fun idle => ?idle, fun h cur lasting => ?lasting, fun h cur isOver freed => ⟨fun x rest suspended => ?suspended,
    fun x rest noSusp queued => ?queued, fun noSusp noQueue => ?last⟩, fun code e found => ⟨fun sev event due => ?clears, fun not => ?stays,
    fun coalesced due => ?recorded, fun noneCoalesced => ?unrecorded⟩⟩
  case idle => exact .ofRunS (exec_faultHandlingEnd ..) live (Chip.handlingEnd_of_idle _ idle)
  case lasting => exact .ofRunS (exec_faultHandlingEnd ..) live (Chip.handlingEnd_of_lasting cur lasting)
  case suspended => exact .ofRunS (exec_faultHandlingEnd ..) live (Chip.handlingEnd_of_suspended cur isOver freed suspended)
  case queued => exact .ofRunS (exec_faultHandlingEnd ..) live (Chip.handlingEnd_of_queued cur isOver freed noSusp queued)
  case last => exact .ofRunS (exec_faultHandlingEnd ..) live (Chip.handlingEnd_of_last cur isOver freed noSusp noQueue)
  case clears => exact .ofRun (exec_eventFaultClear ..) live ((Chip.eventClear_eq found).trans (if_pos ⟨sev, event, due⟩))
  case stays =>
    refine .ofRun (exec_eventFaultClear ..) live ((Chip.eventClear_eq found).trans (if_neg fun ⟨sev, event, due⟩ => ?_))
    obtain otherSev | condition | early := not
    · exact otherSev sev
    · exact Bool.false_ne_true (event.symm.trans condition)
    · exact Nat.not_lt.mpr due early
  case recorded => exact .ofRun (exec_coalescedRecord ..) live (Chip.coalRecord_of_due found coalesced due)
  case unrecorded => exact .ofRun (exec_coalescedRecord ..) live (Chip.coalRecord_of_none found noneCoalesced)

end Sys2Proof.Machine

/-! ## The lichen pair: frames of the link (spec/15 R335 to R360) -/

namespace Sys2Proof.Machine

/-! ### What keeps the instant and the state of the resets -/

theorem Answers.flushNotes (c : Chip) (s : Nat) : Answers c (c.flushNotes s) := by
  unfold Chip.flushNotes
  split
  · exact .refl c
  · exact Answers.trans ⟨_, _, rfl⟩ (.foldl (fun k x => .sendLine k s x) _ _)

theorem Answers.notifyOne (c : Chip) (s : Nat) (body : String) : Answers c (c.notifyOne s body) := by
  unfold Chip.notifyOne
  split
  case isFalse => exact .refl c
  case isTrue =>
    dsimp only
    generalize (if c.sessGen s then genLine ("~" ++ body) else "~" ++ body) = line
    have sent : Answers c ((c.flushNotes s).sendLine s line) := (Answers.flushNotes c s).trans (.sendLine ..)
    split
    · exact .refl c
    split
    · split
      · exact sent
      · exact sent.trans (.emit ..)
    · split <;> exact ⟨_, _, rfl⟩

theorem Answers.notify (c : Chip) (k : NoteKind) (body : String) : Answers c (c.notify k body) := by
  refine .foldl (fun c s => ?_) _ c
  split
  · split
    · exact .notifyOne ..
    · exact .refl c
  · exact .refl c

/-- `k` is at the instant of `c`, with the resets as `c` has them. -/
def Chip.SameTime (c k : Chip) : Prop := k.now = c.now ∧ k.sys = c.sys

theorem Chip.SameTime.refl (c : Chip) : c.SameTime c := ⟨rfl, rfl⟩

theorem Chip.SameTime.trans {c k x : Chip} (h : c.SameTime k) (h' : k.SameTime x) : c.SameTime x :=
  ⟨h'.1.trans h.1, h'.2.trans h.2⟩

theorem Answers.sameTime {c k : Chip} (h : Answers c k) : c.SameTime k := by
  rw [h.eq]
  exact ⟨rfl, rfl⟩

theorem Chip.SameTime.set {c k : Chip} (h : c.SameTime k) (f : Fld) (v : Nat) : c.SameTime (k.set f v) := h
theorem Chip.SameTime.put {c k : Chip} (h : c.SameTime k) (f : Fld) (b : Bool) : c.SameTime (k.put f b) := h
theorem Chip.SameTime.pins {c k : Chip} (h : c.SameTime k) (p : Pins) : c.SameTime { k with pins := p } := h

theorem Chip.SameTime.raise {c k : Chip} (h : c.SameTime k) (code : Nat) : c.SameTime (k.raise code) :=
  h.trans ⟨k.raise_now code, k.raise_sys code⟩

theorem Chip.SameTime.record {c k : Chip} (h : c.SameTime k) (type : Nat) (pieces : List (Nat × List Byte)) : c.SameTime (k.record type pieces) := by
  refine h.trans ?_
  unfold Chip.record
  dsimp only
  split
  · split
    · exact ⟨rfl, rfl⟩
    split
    · exact ⟨rfl, rfl⟩
    · exact Chip.SameTime.raise ⟨rfl, rfl⟩ _
  · generalize numbered : Chip.set64 _ _ _ _ = n
    have same : k.SameTime n := numbered ▸ ⟨Chip.set64_now .., Chip.set64_sys ..⟩
    split
    · exact same
    · refine Chip.SameTime.raise (same.trans ?_) _
      exact ⟨rfl, rfl⟩

theorem Chip.SameTime.fltShow (c : Chip) : c.SameTime c.fltShow := by
  unfold Chip.fltShow
  exact ((((Chip.SameTime.refl c).set _ _).set _ _).put _ _).pins _


theorem Chip.SameTime.dropFault (c : Chip) (code : Nat) : c.SameTime (c.dropFault code) := by
  unfold Chip.dropFault
  split
  case h_1 => exact .refl c
  case h_2 e _ =>
    have recorded : ∀ {k : Chip} (sev flags count detail : Nat), c.SameTime k → c.SameTime (k.faultRecord code sev flags count detail) :=
      fun _ _ _ _ same => same.record _ _
    have told : ∀ {k : Chip}, c.SameTime k → c.SameTime (k.notifyFault code e.sev "clr" e.count) := fun {k} same => by
      unfold Chip.notifyFault
      split
      · exact same.trans (Answers.notify ..).sameTime
      · exact same
    refine Chip.SameTime.trans (told (recorded _ _ _ _ ?_)) (.fltShow _)
    split
    · exact recorded _ _ _ _ ⟨rfl, rfl⟩
    · exact ⟨rfl, rfl⟩

theorem Chip.SameTime.endCondition (c : Chip) (code : Nat) : c.SameTime (c.endCondition code) := by
  unfold Chip.endCondition
  dsimp only
  split
  · split
    · exact .dropFault c code
    · exact ⟨rfl, rfl⟩
  · split <;> exact ⟨rfl, rfl⟩

/-- The arrival of a pair frame takes no time and changes no reset. -/
theorem Chip.SameTime.pairFrame (c : Chip) (h : PairHdr) : c.SameTime (c.pairFrame h).1 := by
  unfold Chip.pairFrame
  dsimp only
  split
  · exact .refl c
  split
  · dsimp only
    split
    · unfold Chip.dropLane
      split
      · exact ⟨rfl, rfl⟩
      · exact Chip.SameTime.raise ⟨rfl, rfl⟩ _
    · exact ⟨rfl, rfl⟩
  split
  · exact ⟨rfl, rfl⟩
  · exact Chip.SameTime.trans ⟨rfl, rfl⟩ (.endCondition ..)

/-! ### The meanings of the commands -/

theorem exec_renew (t : Nat) (h : PairHdr) (s : State) : exec (.renew t h) s = run .app t (fun c => c.renew h) s := rfl
theorem exec_mirror (t : Nat) (h : PairHdr) (f : MirFrame) (s : State) : exec (.mirror t h f) s = runS .app t (fun c => c.mirrorFrame h f) s := rfl
theorem exec_health (t : Nat) (h : PairHdr) (st ch : Nat) (s : State) :
    exec (.health t h st ch) s = runS .app t (fun c => c.healthFrame h st ch) s := rfl
theorem exec_hello (t : Nat) (h : PairHdr) (i : HelloInfo) (s : State) : exec (.hello t h i) s = runS .app t (fun c => c.hello h i) s := rfl
theorem exec_hoReq (t : Nat) (h : PairHdr) (s : State) : exec (.hoReq t h) s = run .app t (fun c => c.hoReqFrame h) s := rfl
theorem exec_hoAck (t : Nat) (h : PairHdr) (s : State) : exec (.hoAck t h) s = runS .app t (fun c => c.hoAckFrame h) s := rfl
theorem exec_transfer (t : Nat) (h : PairHdr) (s : State) : exec (.transfer t h) s = run .app t (fun c => c.transferFrame h) s := rfl
theorem exec_safe (t : Nat) (h : PairHdr) (s : State) : exec (.safe t h) s = runS .app t (fun c => c.safeFrame h) s := rfl

/-! ### A frame that is not taken -/

section Untaken

variable {c k : Chip} {h : PairHdr} (frame : c.pairFrame h = (k, false))
include frame

theorem Chip.renew_of_untaken : c.renew h = k := by unfold Chip.renew; rw [frame]; rfl
theorem Chip.mirrorFrame_of_untaken (f : MirFrame) : c.mirrorFrame h f = k := by unfold Chip.mirrorFrame; rw [frame]; rfl
theorem Chip.healthFrame_of_untaken (st ch : Nat) : c.healthFrame h st ch = k := by
  unfold Chip.healthFrame
  rw [frame]
  exact if_neg fun taken => Bool.noConfusion taken.1
theorem Chip.hello_of_untaken (i : HelloInfo) : c.hello h i = k := by unfold Chip.hello; rw [frame]; rfl
theorem Chip.hoReqFrame_of_untaken : c.hoReqFrame h = k := by unfold Chip.hoReqFrame; rw [frame]; exact if_pos (.inl rfl)
theorem Chip.hoAckFrame_of_untaken : c.hoAckFrame h = k := by unfold Chip.hoAckFrame; rw [frame]; exact if_pos (.inl rfl)
theorem Chip.transferFrame_of_untaken : c.transferFrame h = k := by
  unfold Chip.transferFrame
  rw [frame]
  exact if_neg fun taken => Bool.noConfusion taken.1
theorem Chip.safeFrame_of_untaken : c.safeFrame h = k := by unfold Chip.safeFrame; rw [frame]; rfl

end Untaken

/-! ### A frame that is taken -/

section Taken

variable {c k : Chip} {h : PairHdr} (frame : c.pairFrame h = (k, true))
include frame

theorem Chip.renew_of_held (held : k.is PAIR_STAT_HELD = true) : c.renew h = k.raise 0x0309 := by
  unfold Chip.renew
  rw [frame]
  exact if_pos held

theorem Chip.renew_of_newer (free : k.is PAIR_STAT_HELD = false) (standby : k.isStandby = true)
    (newer : serialNewer 32 h.epoch (k.get PAIR_PEER_EPOCH_EPOCH) = true) {m : Chip}
    (known : m = (k.set PAIR_PEER_EPOCH_EPOCH h.epoch).set PAIR_EPOCH_EPOCH h.epoch) :
    c.renew h = ({ m with pair := { m.pair with renewRx := some m.now, epochAt := m.now } } : Chip).splitOver := by
  unfold Chip.renew
  rw [frame, known]
  exact (if_neg (Bool.eq_false_iff.mp free)).trans (if_pos ⟨standby, .inr newer⟩)

theorem Chip.mirrorFrame_of_state (b : MirBody) (standby : k.isStandby = true) : c.mirrorFrame h (.state b) = k.mirrorApply h b := by
  unfold Chip.mirrorFrame
  rw [frame]
  exact if_pos standby

theorem Chip.mirrorFrame_of_ack (a : MirAck) (active : k.isActive = true) : c.mirrorFrame h (.ack a) = k.mirrorAcked a := by
  unfold Chip.mirrorFrame
  rw [frame]
  exact if_pos active

theorem Chip.healthFrame_of_active (st ch : Nat) (active : k.isActive = true) : c.healthFrame h st ch = k.peerHealth (min st 2) ch := by
  unfold Chip.healthFrame
  rw [frame]
  exact if_pos ⟨rfl, active⟩

theorem Chip.hoReqFrame_of_healthy (standby : k.isStandby = true) (healthy : k.healthShow.get PAIR_STAT_OWN_HEALTH = 0) :
    c.hoReqFrame h = k.healthShow.sendPair 6 [] := by
  unfold Chip.hoReqFrame
  rw [frame]
  exact (if_neg (by simp [standby])).trans (if_pos healthy)

theorem Chip.hoAckFrame_of_healthy (busy : k.is PAIR_HO_STAT_BUSY = true) (healthy : k.get PAIR_STAT_PEER_HEALTH = 0) :
    c.hoAckFrame h = ((((k.incSat PAIR_CNT_HANDOVERS).hoFinish 0).mirrorSend).sendPair 7 []).release false := by
  unfold Chip.hoAckFrame
  rw [frame]
  exact (if_neg (by simp [busy])).trans (if_neg (not_not.mpr healthy))

theorem Chip.hoAckFrame_of_unhealthy (busy : k.is PAIR_HO_STAT_BUSY = true) (unhealthy : k.get PAIR_STAT_PEER_HEALTH ≠ 0) :
    c.hoAckFrame h = k.hoFinish 2 := by
  unfold Chip.hoAckFrame
  rw [frame]
  exact (if_neg (by simp [busy])).trans (if_pos unhealthy)

theorem Chip.transferFrame_of_fit (standby : k.isStandby = true) (fit : k.get PAIR_STAT_OWN_HEALTH ≠ 2) : c.transferFrame h = k.claim 1 := by
  unfold Chip.transferFrame
  rw [frame]
  exact if_pos ⟨rfl, standby, fit⟩

theorem Chip.safeFrame_of_taken : c.safeFrame h = k.enterPairSafe false := by
  unfold Chip.safeFrame
  rw [frame]
  rfl

section Hello

variable {i : HelloInfo} {m : Chip}
  (kept : m = ({ k.pairOffset h i with pair := { (k.pairOffset h i).pair with
                                                   peer := some (i, h.side), helloRx := some (h.tb, (k.pairOffset h i).now) } } : Chip))
  (otherSide : m.sameSide = false)
include kept otherSide

theorem Chip.hello_of_election (electing : m.get PAIR_STAT_ROLE = 0) : c.hello h i = m.elect := by
  subst kept
  unfold Chip.hello
  simp only [frame, otherSide, Bool.false_eq_true, false_and, if_false, if_pos electing]
  rfl

theorem Chip.hello_of_standby (standby : m.get PAIR_STAT_ROLE = 2) : c.hello h i = m := by
  have electing : m.get PAIR_STAT_ROLE ≠ 0 := by omega
  have active : m.isActive = false := by unfold Chip.isActive; rw [standby]; rfl
  subst kept
  unfold Chip.hello
  simp only [frame, otherSide, active, Bool.false_eq_true, false_and, if_false, if_neg electing]
  rfl

end Hello

end Taken

/-- Settles O32: the branches of each frame's effect, with the arrival (`pairFrame`) as given. -/
theorem pairFrames : Obligations.PairFrames := by
  constructor
  · intro s t h c k ok begun live frame
    subst begun
    refine ⟨fun f st ch i untaken => ?untaken, fun taken held => ?held, fun m taken free standby newer known => ?newer,
      fun b taken standby => ?mirror, fun a taken active => ?acked, fun st ch taken active => ?health, fun taken standby healthy => ?hoReq,
      fun taken busy healthy => ?hoAck, fun taken busy unhealthy => ?hoFails, fun taken standby fit => ?transfer, fun taken => ?safe⟩
    case untaken =>
      subst untaken
      exact ⟨.ofRun (exec_renew ..) live (Chip.renew_of_untaken frame), .ofRunS (exec_mirror ..) live (Chip.mirrorFrame_of_untaken frame f),
        .ofRunS (exec_health ..) live (Chip.healthFrame_of_untaken frame st ch), .ofRunS (exec_hello ..) live (Chip.hello_of_untaken frame i),
        .ofRun (exec_hoReq ..) live (Chip.hoReqFrame_of_untaken frame), .ofRunS (exec_hoAck ..) live (Chip.hoAckFrame_of_untaken frame),
        .ofRun (exec_transfer ..) live (Chip.transferFrame_of_untaken frame), .ofRunS (exec_safe ..) live (Chip.safeFrame_of_untaken frame)⟩
    all_goals subst taken
    case held => exact .ofRun (exec_renew ..) live (Chip.renew_of_held frame held)
    case newer => exact .ofRun (exec_renew ..) live (Chip.renew_of_newer frame free standby newer known)
    case mirror => exact .ofRunS (exec_mirror ..) live (Chip.mirrorFrame_of_state frame b standby)
    case acked => exact .ofRunS (exec_mirror ..) live (Chip.mirrorFrame_of_ack frame a active)
    case health => exact .ofRunS (exec_health ..) live (Chip.healthFrame_of_active frame st ch active)
    case hoReq => exact .ofRun (exec_hoReq ..) live (Chip.hoReqFrame_of_healthy frame standby healthy)
    case hoAck => exact .ofRunS (exec_hoAck ..) live (Chip.hoAckFrame_of_healthy frame busy healthy)
    case hoFails => exact .ofRunS (exec_hoAck ..) live (Chip.hoAckFrame_of_unhealthy frame busy unhealthy)
    case transfer => exact .ofRun (exec_transfer ..) live (Chip.transferFrame_of_fit frame standby fit)
    case safe => exact .ofRunS (exec_safe ..) live (Chip.safeFrame_of_taken frame)
  · intro s t h i c k m begun live frame kept otherSide
    subst begun
    exact ⟨fun electing => .ofRunS (exec_hello ..) live (Chip.hello_of_election frame kept otherSide electing),
      fun standby => .ofRunS (exec_hello ..) live (Chip.hello_of_standby frame kept otherSide standby)⟩

/-! ### The raise of F0309 (R359) -/

/-- The raise of F0309 as it goes to the fault manager. -/
def leaseConflict (at_ : Nat) : Raise := { code := 0x0309, at_ := at_, sev := 5, esc := false, func := none, detail := 0 }

/-- F0309 counts as itself in a takeover also, and no reset mapped to the pair is in progress that would raise its severity. -/
theorem Chip.raise_leaseConflict (k : Chip) (free : k.sys.held = none) :
    k.raise 0x0309 = { k.putBit PAIR_FAULT_SEEN 8 true with
      flt := { k.flt with ended := k.flt.ended.filter (fun x => x != 0x0309), inbox := k.flt.inbox ++ [leaseConflict k.now] } } := by
  have seen : k.markSeen 0x0309 = k.putBit PAIR_FAULT_SEEN 8 true := rfl
  have itself : ∀ x : Chip, x.takeoverFault 0x0309 5 = false := fun x => by simp [Chip.takeoverFault]
  have notHeld : ¬ (k.putBit PAIR_FAULT_SEEN 8 true).sys.held.isSome = true := by
    rw [show (k.putBit PAIR_FAULT_SEEN 8 true).sys = k.sys from rfl, free]
    exact Bool.false_ne_true
  unfold Chip.raise Chip.raiseArg
  rw [seen]
  exact (if_neg notHeld).trans (if_neg (Bool.eq_false_iff.mp (itself _)))

theorem bitAt_eq_testBit (n k : Nat) : bitAt n k = n.testBit k := by
  rw [Nat.testBit_eq_decide_div_mod_eq]
  rfl

theorem Chip.bit_putBit_self (k : Chip) (f : Fld) (n : Nat) (b : Bool) (word : f.lo + f.w ≤ 32) (inside : n < f.w) :
    (k.putBit f n b).bit f n = b := by
  have kept : (k.putBit f n b).get f = setBit (k.get f) n b % 2 ^ f.w := Chip.get_set_self k f _ word
  have whole : bitAt (setBit (k.get f) n b % 2 ^ f.w) n = bitAt (setBit (k.get f) n b) n := by
    rw [bitAt_eq_testBit, bitAt_eq_testBit, Nat.testBit_mod_two_pow, decide_eq_true inside, Bool.true_and]
  unfold Chip.bit
  rw [kept, whole, bitAt_setBit, if_pos rfl]

/-- Settles O38: the frame is taken and the lease held, so the whole effect is the raise of F0309, which writes PAIR_FAULT and the faults
on their way. -/
theorem renewWhileHeld : Obligations.RenewWhileHeld := by
  intro s t h c k begun live frame held
  subst begun
  have same : (s.chip.begin t).SameTime k := by simpa only [frame] using Chip.SameTime.pairFrame (s.chip.begin t) h
  have raised := k.raise_leaseConflict (same.2 ▸ Chip.free_of_app _ live)
  refine (Gives.ofRun (exec_renew t h s) live (Chip.renew_of_held frame held)).yields ?_
  refine ⟨⟨leaseConflict k.now, rfl, rfl, same.1, ?inbox⟩, ?seen, fun a other => ?regs, ⟨fun a => ?mem, ?nor, ?fuses⟩, ?wqm, ?ledg, ?pair, ?door⟩
  case inbox => rw [Chip.finish_flt, raised]
  case seen =>
    rw [Chip.finish_bit, raised, Chip.bit, Chip.get_with_flt]
    exact k.bit_putBit_self PAIR_FAULT_SEEN 8 true (by decide) (by decide)
  case regs =>
    rw [Chip.finish_rd, raised, Chip.rd_with_flt]
    exact Chip.rd_set_ne k _ _ a (fun eq => other (List.mem_singleton.mpr eq))
  case mem => rw [Chip.finish_rdB, Chip.rdB, Chip.raise_mem, Chip.rdB]
  case nor => rw [Chip.finish_nor, Chip.raise_nor]
  case fuses => rw [Chip.finish_fuses, Chip.raise_fuses]
  case wqm => rw [Chip.finish_wqm, Chip.raise_wqm]
  case ledg => rw [Chip.finish_ledg, Chip.raise_ledg]
  case pair => rw [Chip.finish_pair, Chip.raise_pair]
  case door => rw [Chip.finish_door, Chip.raise_door]

end Sys2Proof.Machine

/-! ## The lichen pair: timers and messages (spec/15 R335 to R358) -/

namespace Sys2Proof.Machine

theorem exec_pairLinkDown (t : Nat) (s : State) : exec (.pairLinkDown t) s = runS .app t (fun c => c.pairLinkDown) s := rfl
theorem exec_helloSend (t : Nat) (s : State) : exec (.helloSend t) s = run .app t (fun c => c.helloSend) s := rfl
theorem exec_electWaitExpiry (t : Nat) (s : State) : exec (.electWaitExpiry t) s = run .app t (fun c => c.elect) s := rfl
theorem exec_healthSend (t : Nat) (s : State) : exec (.healthSend t) s = run .app t (fun c => c.healthSend) s := rfl
theorem exec_pairHealth (t : Nat) (s : State) : exec (.pairHealth t) s = run .app t (fun c => c.pairHealthMsg) s := rfl
theorem exec_mirrorMissed (t : Nat) (s : State) : exec (.mirrorMissed t) s = run .app t (fun c => c.mirrorMissed) s := rfl
theorem exec_hoGo (t : Nat) (s : State) : exec (.hoGo t) s = run .app t (fun c => c.hoBegin.1) s := rfl
theorem exec_hoAckTimeout (t : Nat) (s : State) : exec (.hoAckTimeout t) s = runS .app t (fun c => c.hoAckLate) s := rfl
theorem exec_symbolLockLoss (t : Nat) (l : Fin 2) (s : State) :
    exec (.symbolLockLoss t l) s = run .app t (fun c => if c.paired then c.dropLane l else c) s := rfl
theorem exec_splitRetry (t : Nat) (s : State) : exec (.splitRetry t) s = run .app t (fun c => c.splitRetry) s := rfl

section Timers

variable (c : Chip)

/-! ### The link and HELLO (R335, R336) -/

theorem Chip.pairLinkDown_of_silent (link : c.is PAIR_STAT_LINK = true) (silent : 200000 ≤ c.now - c.pair.frameAt) {k : Chip}
    (down : k = (((c.put PAIR_STAT_LINK false).set PAIR_STAT_PEER_HEALTH 3).raise 0x0301).pairNote) (other : k.isActive = false) :
    c.pairLinkDown = { k with pair := { k.pair with work := [] } } := by
  unfold Chip.pairLinkDown
  rw [if_pos ⟨link, silent⟩, ← down]
  exact if_neg (Bool.eq_false_iff.mp other)

theorem Chip.pairLinkDown_of_noLink (noLink : c.is PAIR_STAT_LINK = false) : c.pairLinkDown = c :=
  if_neg fun down => Bool.eq_false_iff.mp noLink down.1

/-! ### The election (R343) -/

theorem Chip.elect_of_settled (settled : c.pair.electSince = none) : c.elect = c := by
  unfold Chip.elect
  rw [settled]

section Electing

variable {a : Nat} (electing : c.pair.electSince = some a) (role : c.get PAIR_STAT_ROLE = 0)
include electing role

theorem Chip.elect_of_single (single : c.paired = false) (fit : c.r74 = true) : c.elect = c.claim 3 := by
  unfold Chip.elect
  rw [electing]
  exact (if_neg (not_not.mpr role)).trans ((if_pos single).trans (if_pos fit))

theorem Chip.elect_of_leaseIn (paired : c.paired = true) (leaseIn : c.is PAIR_STAT_LEASE_IN = true) : c.elect = c.becomeStandby := by
  unfold Chip.elect
  rw [electing]
  exact (if_neg (not_not.mpr role)).trans ((if_neg (by simp [paired])).trans (if_pos leaseIn))

end Electing

/-! ### Health and MIRROR (R346, R349, R350) -/

section Standby

variable (standby : c.isStandby = true)
include standby

theorem Chip.healthSend_of_standby : c.healthSend = c.healthShow.sendPair 3
    (leBytes 1 (c.healthShow.get PAIR_STAT_OWN_HEALTH) ++ leBytes 2 (c.healthShow.get PAIR_HEALTH_CHECKS)) := if_pos standby

theorem Chip.pairHealthMsg_of_enabled (enabled : c.is (CAN_CTRL_EN 2) = true) : c.pairHealthMsg =
    ({ c with pair := { c.pair with alive := (c.pair.alive + 1) % 256 } } : Chip).sendCan 2 0xC0
      (leBytes 1 (c.get PAIR_STAT_OWN_HEALTH + 4 * c.get PAIR_STAT_SIDE) ++ leBytes 2 (c.get PAIR_HEALTH_CHECKS) ++ leBytes 1 c.pair.alive ++
        leBytes 4 (c.get PAIR_EPOCH_EPOCH)) := if_pos ⟨standby, enabled⟩

theorem Chip.mirrorMissed_of_late (held : c.is PAIR_STAT_LEASE_IN = true) (late : 70000 ≤ c.now - c.pair.mirAt) :
    c.mirrorMissed = ((c.incSat PAIR_LINK_CNT_MISSED).put PAIR_STAT_MIRROR_STALE true).raise 0x0304 := if_pos ⟨standby, held, late⟩

end Standby

section NotStandby

variable (other : c.isStandby = false)
include other

theorem Chip.healthSend_of_other : c.healthSend = c := if_neg (Bool.eq_false_iff.mp other)
theorem Chip.pairHealthMsg_of_other : c.pairHealthMsg = c := if_neg fun due => Bool.eq_false_iff.mp other due.1
theorem Chip.mirrorMissed_of_other : c.mirrorMissed = c := if_neg fun due => Bool.eq_false_iff.mp other due.1

end NotStandby

/-! ### The handover and the lanes (R335, R356) -/

theorem Chip.hoBegin_of_ready (ready : c.hoRefusal = 0) : c.hoBegin.1 =
    (({ c with pair := { c.pair with hoSince := some c.now } } : Chip).put PAIR_HO_STAT_BUSY true).sendPair 5 [] :=
  congrArg Prod.fst (if_neg (not_not.mpr ready))

theorem Chip.hoBegin_of_refused (refused : c.hoRefusal ≠ 0) (rests : c.is PAIR_HO_STAT_BUSY = false) :
    c.hoBegin.1 = c.set PAIR_HO_STAT_RESULT c.hoRefusal :=
  (congrArg Prod.fst (if_pos refused)).trans (if_neg (Bool.eq_false_iff.mp rests))

theorem Chip.hoAckLate_of_late {a : Nat} (asked : c.pair.hoSince = some a) (busy : c.is PAIR_HO_STAT_BUSY = true)
    (late : 1000000 ≤ c.now - a) : c.hoAckLate = c.hoFinish 5 := by
  unfold Chip.hoAckLate
  rw [asked]
  exact if_pos ⟨busy, late⟩

theorem Chip.dropLane_of_first (l : Nat) (first : (c.pair.dropped[l]?).getD true = false) : c.dropLane l =
    (({ c with pair := { c.pair with dropped := modAt c.pair.dropped l (fun _ => true) } } : Chip).put PAIR_STAT_ONE_LANE true).raise 0x0302 :=
  if_neg (Bool.eq_false_iff.mp first)

/-! ### SPLIT (R358) -/

theorem Chip.splitRetry_of_noSplit (noSplit : c.is PAIR_STAT_SPLIT = false) : c.splitRetry = c :=
  if_neg fun due => Bool.eq_false_iff.mp noSplit due.2.1

theorem Chip.splitRetry_of_untried (expired : c.leaseOver = true) (split : c.is PAIR_STAT_SPLIT = true) (still : c.is PAIR_STAT_LEASE_IN = false)
    (rested : 1000000 ≤ c.now - c.pair.idleSince) (untried : c.pair.triedAt = none) (fit : c.get PAIR_STAT_OWN_HEALTH ≤ 1) :
    c.splitRetry = c.claim 0 := by
  unfold Chip.splitRetry
  rw [untried]
  exact if_pos ⟨expired, split, Bool.eq_false_iff.mp still, rested, rfl, fit⟩

end Timers

/-- Settles O34: one clause for each branch of a timer. -/
theorem pairTimers : Obligations.PairTimers := by
  intro s t c k begun live
  subst begun
  refine ⟨fun link silent down other => ?down, fun noLink => ?noLink, fun safe => ?safe, fun unsafe_ => ?hello, fun settled => ?settled,
    fun a electing role single fit => ?single, fun a electing role paired leaseIn => ?leaseIn, fun standby => ?health, fun other => ?other,
    fun standby enabled => ?onCan, fun standby held late => ?missed, fun ready => ?ready, fun refused rests => ?refused,
    fun a asked busy late => ?late, fun l paired first => ?lane, fun l single => ?noPair, fun noSplit => ?noSplit,
    fun expired split still rested untried fit => ?retry⟩
  case down => exact .ofRunS (exec_pairLinkDown ..) live (Chip.pairLinkDown_of_silent _ link silent down other)
  case noLink => exact .ofRunS (exec_pairLinkDown ..) live (Chip.pairLinkDown_of_noLink _ noLink)
  case safe => exact .ofRun (exec_helloSend ..) live (if_pos safe)
  case hello => exact .ofRun (exec_helloSend ..) live (if_neg unsafe_)
  case settled => exact .ofRun (exec_electWaitExpiry ..) live (Chip.elect_of_settled _ settled)
  case single => exact .ofRun (exec_electWaitExpiry ..) live (Chip.elect_of_single _ electing role single fit)
  case leaseIn => exact .ofRun (exec_electWaitExpiry ..) live (Chip.elect_of_leaseIn _ electing role paired leaseIn)
  case health => exact .ofRun (exec_healthSend ..) live (Chip.healthSend_of_standby _ standby)
  case other =>
    exact ⟨.ofRun (exec_healthSend ..) live (Chip.healthSend_of_other _ other), .ofRun (exec_pairHealth ..) live (Chip.pairHealthMsg_of_other _ other),
      .ofRun (exec_mirrorMissed ..) live (Chip.mirrorMissed_of_other _ other)⟩
  case onCan => exact .ofRun (exec_pairHealth ..) live (Chip.pairHealthMsg_of_enabled _ standby enabled)
  case missed => exact .ofRun (exec_mirrorMissed ..) live (Chip.mirrorMissed_of_late _ standby held late)
  case ready => exact .ofRun (exec_hoGo ..) live (Chip.hoBegin_of_ready _ ready)
  case refused => exact .ofRun (exec_hoGo ..) live (Chip.hoBegin_of_refused _ refused rests)
  case late => exact .ofRunS (exec_hoAckTimeout ..) live (Chip.hoAckLate_of_late _ asked busy late)
  case lane => exact .ofRun (exec_symbolLockLoss ..) live ((if_pos paired).trans (Chip.dropLane_of_first _ l first))
  case noPair => exact .ofRun (exec_symbolLockLoss ..) live (if_neg (Bool.eq_false_iff.mp single))
  case noSplit => exact .ofRun (exec_splitRetry ..) live (Chip.splitRetry_of_noSplit _ noSplit)
  case retry => exact .ofRun (exec_splitRetry ..) live (Chip.splitRetry_of_untried _ expired split still rested untried fit)

end Sys2Proof.Machine

/-! ## Acceptance, the journal and the ledger's stores (spec/16 R368 to R385, spec/17 R402) -/

namespace Sys2Proof.Machine

/-! ### The offer of a command (R368, R369) -/

/-- The entry whose acceptance a key joins: of the same source and key, and not yet accepted. -/
def Chip.accepting (c : Chip) (src key : Nat) : Option Entry :=
  c.wqm.entries.find? (fun e => e.source == src && e.key == key && !e.visible && e.cstate == 0)

/-- What waits in a queue. -/
def Chip.waitingIn (c : Chip) (q : Nat) : List Entry := c.wqm.entries.filter (fun e => e.queue == q && e.cstate == 0)

/-- The sequence number that the next entry of a queue follows (R362). -/
def Chip.lastSeq (c : Chip) (q : Nat) : Nat :=
  (c.wqm.entries.filter (fun e => e.queue == q)).foldl (fun m e => if serialNewer 32 e.qseq m then e.qseq else m) (c.get (WQM_Q_SEQ_QSEQ q))

/-- The journal entry that an offer joins as. -/
def Chip.newEntry (c : Chip) (slot q src key pcrc : Nat) (mo : Bool) (cmd : QCmd) (r : ReplyTo) : Entry :=
  { slot := slot, queue := q, source := src, motion := mo, unmirrored := false, heldAcc := mo && c.is SUP_STATUS_WARN, dual := false
    qseq := (c.lastSeq q + 1) % 2 ^ 32, key := key, tAcc := 0, boot := 0, cmd := cmd, cstate := 0, ecode := 0, tDone := 0, pcrc := pcrc
    visible := false, stored := false, mirrored := false, doneMirrored := false, taken := false, tArr := c.now, reply := r }

/-- In a queue without an entry the sequence goes on from the queue's own register. -/
theorem Chip.lastSeq_of_unused (c : Chip) (q : Nat) (unused : c.wqm.entries.any (fun x => x.queue == q) = false) :
    c.lastSeq q = c.get (WQM_Q_SEQ_QSEQ q) := by
  have nothing : c.wqm.entries.filter (fun e => e.queue == q) = [] :=
    List.filter_eq_nil_iff.mpr fun e mem => by simpa using List.any_eq_false.mp unused e mem
  unfold Chip.lastSeq
  rw [nothing]
  rfl

section Offer

variable {c : Chip} {q src key pcrc : Nat} {mo : Bool} {cmd : QCmd} {r : ReplyTo}

section Checked

variable (keyed : key ≠ 0) (windowed : (winSet src).isSome = true)
include keyed windowed

theorem offer_checked : (decide (key ≠ 0) && (winSet src).isSome) = true := by simp [keyed, windowed]

theorem Chip.offer_of_accepting {e : Entry} (same : c.accepting src key = some e) :
    (c.offer q src key pcrc mo cmd r).2 = if e.pcrc = pcrc then .copy else (c.refuse 6 506).2 := by
  unfold Chip.accepting at same
  unfold Chip.offer
  simp only [offer_checked keyed windowed, if_true, same]
  split <;> rfl

theorem Chip.offer_of_accepted {w : WinEntry} (noSame : c.accepting src key = none)
    (win : c.findWindow ((winSet src).getD 15) key = some w) :
    c.offer q src key pcrc mo cmd r = if w.pcrc = pcrc then (c.incSat WQM_CNT_RPL_N, .replay w) else c.refuse 6 506 := by
  unfold Chip.accepting at noSame
  unfold Chip.offer
  simp only [offer_checked keyed windowed, if_true, noSame, win]

end Checked

section New

variable (new : key = 0 ∨ winSet src = none ∨ (c.accepting src key = none ∧ c.findWindow ((winSet src).getD 15) key = none))
include new

/-- A new entry is neither a copy nor a replay: nothing is checked, or nothing is found. -/
theorem offer_unfound : (if (decide (key ≠ 0) && (winSet src).isSome) = true then c.accepting src key else none) = none ∧
    (if (decide (key ≠ 0) && (winSet src).isSome) = true then c.findWindow ((winSet src).getD 15) key else none) = none := by
  obtain unkeyed | unwindowed | ⟨noSame, noWin⟩ := new
  · simp [unkeyed]
  · simp [unwindowed]
  · rw [noSame, noWin]
    exact ⟨ite_self _, ite_self _⟩

theorem Chip.offer_of_full (full : 256 ≤ (c.waitingIn q).length) : c.offer q src key pcrc mo cmd r = c.refuse 3 501 := by
  obtain ⟨noSame, noWin⟩ := offer_unfound new
  unfold Chip.accepting at noSame
  unfold Chip.waitingIn at full
  unfold Chip.offer
  simp only [noSame, noWin, if_pos full]

theorem Chip.offer_of_room (room : (c.waitingIn q).length < 256) {slot : Nat}
    (free : freeSlotFrom c.wqm.entries 4096 (c.get WQM_JRN_HEAD_SLOT) = some slot) {k : Chip}
    (joined : k = { c with wqm := { c.wqm with entries := c.wqm.entries ++ [c.newEntry slot q src key pcrc mo cmd r] } }) :
    c.offer q src key pcrc mo cmd r = if k.gateOpen .accept then (k.commit slot, .taken slot) else (k.deferStore .accept slot [], .taken slot) := by
  obtain ⟨noSame, noWin⟩ := offer_unfound new
  unfold Chip.accepting at noSame
  unfold Chip.waitingIn at room
  unfold Chip.offer
  simp only [noSame, noWin, if_neg (Nat.not_le.mpr room), free]
  rw [joined]
  rfl

end New

end Offer

/-- Settles O48: a key is looked for among the entries that are being accepted, then in its window set; what is in neither is new. -/
theorem offerTakes : Obligations.OfferTakes := by
  intro c q src key pcrc mo cmd r same win isSame isWin
  subst isSame isWin
  refine ⟨fun keyed windowed => ⟨fun e found => Chip.offer_of_accepting keyed windowed found,
    fun w noSame found => Chip.offer_of_accepted keyed windowed noSame found⟩,
    fun new => ⟨fun full => Chip.offer_of_full new full, fun slot room free => ?room⟩⟩
  refine ⟨c.newEntry slot q src key pcrc mo cmd r, _, rfl, rfl, rfl, rfl, rfl, rfl, rfl, rfl, rfl, fun unused => ?_, rfl, fun isOpen => ?_,
    fun isShut => ?_⟩
  · show (c.lastSeq q + 1) % 2 ^ 32 = _
    rw [c.lastSeq_of_unused q unused]
  · exact (Chip.offer_of_room new room free rfl).trans (if_pos isOpen)
  · exact (Chip.offer_of_room new room free rfl).trans (if_neg (Bool.eq_false_iff.mp isShut))

/-! ### The journal's and the ledger's timers -/

theorem exec_mirrorConfirmTimeout (t : Nat) (slot : Fin 4096) (s : State) :
    exec (.mirrorConfirmTimeout t slot) s = runS .app t (fun c => c.confirmLate slot) s := rfl
theorem exec_resynchronisationEnd (t : Nat) (s : State) : exec (.resynchronisationEnd t) s = run .app t (fun c => c.resyncEnd) s := rfl
theorem exec_ledgerRecordStore (t : Nat) (s : State) : exec (.ledgerRecordStore t) s = run .app t (fun c => c.ledgerStore) s := rfl
theorem exec_stateCellWrite (t : Nat) (s : State) : exec (.stateCellWrite t) s = run .app t (fun c => c.cellDue) s := rfl
theorem exec_gatedStoreStart (t : Nat) (s : State) : exec (.gatedStoreStart t) s = runS .app t (fun c => c.gatedStart) s := rfl

section Timers

variable (c : Chip)

theorem Chip.confirmLate_of_late {slot : Nat} {e : Entry} (entry : c.entryAt slot = some e) (stored : e.stored = true) (unseen : e.visible = false)
    (active : c.isActive = true) (late : 1800000 ≤ c.now - e.tArr) : c.confirmLate slot = (c.voidEntry slot 2 503).raise 0x0E02 := by
  unfold Chip.confirmLate
  rw [entry]
  exact if_pos ⟨stored, unseen, active, late⟩

theorem Chip.confirmLate_of_free {slot : Nat} (free : c.entryAt slot = none) : c.confirmLate slot = c := by
  unfold Chip.confirmLate
  rw [free]

theorem Chip.resyncEnd_of_complete (active : c.isActive = true) (resync : c.is WQM_STAT_RESYNC = true) (link : c.is PAIR_STAT_LINK = true)
    (snapped : c.pair.needSnap = false) {k : Chip}
    (mirrored : k = { c with wqm := { c.wqm with resyncSince := none, resyncBreaks := 0
                                                 entries := c.wqm.entries.map (fun e => { e with doneMirrored := true }) } }) :
    c.resyncEnd = ((k.put WQM_STAT_RESYNC false).put PAIR_STAT_ALONE false).wqmShow 0 := by
  subst mirrored
  exact if_pos ⟨active, resync, link, snapped⟩

theorem Chip.resyncEnd_of_none (none : c.is WQM_STAT_RESYNC = false) : c.resyncEnd = c :=
  if_neg fun due => Bool.eq_false_iff.mp none due.2.1

theorem Chip.ledgerStore_of_empty (empty : c.ledg.queue = []) : c.ledgerStore = c := by
  unfold Chip.ledgerStore
  rw [empty]

theorem Chip.ledgerStore_of_queued {r : LRec} {rest : List LRec} (queued : c.ledg.queue = r :: rest) : c.ledgerStore =
    if c.gateOpen .ledger then ({ c with ledg := { c.ledg with queue := rest } } : Chip).storeRecord r else c.put SUP_STATUS_STORE_GATED true := by
  unfold Chip.ledgerStore
  rw [queued]

theorem Chip.cellDue_of_first (dirty : c.ledg.cellDirty = true) (first : c.ledg.cellAt = none) (isOpen : c.gateOpen .stateCell = true) :
    c.cellDue = c.writeCell := by
  unfold Chip.cellDue
  rw [first]
  exact (if_pos ⟨dirty, rfl⟩).trans (if_pos isOpen)

theorem Chip.cellDue_of_recent {a : Nat} (written : c.ledg.cellAt = some a) (recent : c.now - a < 100000000) : c.cellDue = c := by
  unfold Chip.cellDue
  rw [written]
  exact if_neg fun due => Nat.not_le.mpr recent (of_decide_eq_true due.2)

/-- With no function in reset that waits for a store, none goes on. -/
theorem Chip.fnGated_of_none (noReset : c.sys.frst = []) : c.fnGated = c := by
  unfold Chip.fnGated
  rw [noReset]
  exact ite_self _

theorem Chip.gatedStart_of_none (noStore : c.sup.waiting = []) (noRepair : c.cfg.repair = none) (noReset : c.sys.frst = []) :
    c.gatedStart = c.gatedShow := by
  unfold Chip.gatedStart
  simp only [noStore, noRepair, List.find?_nil, Option.isSome_none, Bool.false_eq_true, if_false, c.fnGated_of_none noReset]

theorem Chip.gatedStart_of_first {w : Store} {rest : List Store} (waiting : c.sup.waiting = w :: rest) (isOpen : c.gateOpen w.kind = true) :
    c.gatedStart = (c.startStore w).gatedShow := by
  have first : c.sup.waiting.find? (fun w => c.gateOpen w.kind) = some w := by
    rw [waiting]
    exact List.find?_cons_of_pos isOpen
  unfold Chip.gatedStart
  rw [first]

end Timers

/-- Settles O35: one clause for each branch of the stores. -/
theorem journalAndLedger : Obligations.JournalAndLedger := by
  intro s t c k begun live
  subst begun
  refine ⟨fun slot e entry stored unseen active late => ?late, fun slot free => ?free, fun active resync link snapped mirrored => ?complete,
    fun none => ?noResync, fun empty => ?empty, fun r rest queued isOpen => ?store, fun r rest queued isShut => ?gated,
    fun dirty first isOpen => ?cell, fun a written recent => ?recent, fun noStore noRepair noReset => ?nothing,
    fun w rest waiting isOpen => ?waiting⟩
  case late => exact .ofRunS (exec_mirrorConfirmTimeout ..) live (Chip.confirmLate_of_late _ entry stored unseen active late)
  case free => exact .ofRunS (exec_mirrorConfirmTimeout ..) live (Chip.confirmLate_of_free _ free)
  case complete => exact .ofRun (exec_resynchronisationEnd ..) live (Chip.resyncEnd_of_complete _ active resync link snapped mirrored)
  case noResync => exact .ofRun (exec_resynchronisationEnd ..) live (Chip.resyncEnd_of_none _ none)
  case empty => exact .ofRun (exec_ledgerRecordStore ..) live (Chip.ledgerStore_of_empty _ empty)
  case store => exact .ofRun (exec_ledgerRecordStore ..) live ((Chip.ledgerStore_of_queued _ queued).trans (if_pos isOpen))
  case gated =>
    exact .ofRun (exec_ledgerRecordStore ..) live ((Chip.ledgerStore_of_queued _ queued).trans (if_neg (Bool.eq_false_iff.mp isShut)))
  case cell => exact .ofRun (exec_stateCellWrite ..) live (Chip.cellDue_of_first _ dirty first isOpen)
  case recent => exact .ofRun (exec_stateCellWrite ..) live (Chip.cellDue_of_recent _ written recent)
  case nothing => exact .ofRunS (exec_gatedStoreStart ..) live (Chip.gatedStart_of_none _ noStore noRepair noReset)
  case waiting => exact .ofRunS (exec_gatedStoreStart ..) live (Chip.gatedStart_of_first _ waiting isOpen)

end Sys2Proof.Machine

/-! ## Update: the timers, and the boot ROM on CAN0 (spec/20 R460 to R471) -/

namespace Sys2Proof.Machine

theorem exec_verificationEnd (t : Nat) (s : State) : exec (.verificationEnd t) s = runS .app t (fun c => c.verifyEnd) s := rfl
theorem exec_trialTimeStore (t : Nat) (s : State) : exec (.trialTimeStore t) s = run .app t (fun c => c.trialStore) s := rfl
theorem exec_trialTimeLimit (t : Nat) (s : State) : exec (.trialTimeLimit t) s = runS .app t (fun c => c.trialLimit) s := rfl
theorem exec_selfResetPulse (t : Nat) (s : State) : exec (.selfResetPulse t) s = run .app t (fun c => c.selfReset) s := rfl

section Timers

variable (c : Chip)

/-! ### The end of a verification (R460) -/

theorem Chip.verifyEnd_of_none (none : c.upd.verify = none) : c.verifyEnd = c := by
  unfold Chip.verifyEnd
  rw [none]

theorem Chip.verifyEnd_of_slot {i js : Nat} (verifying : c.upd.verify = some (i, js)) {k : Chip}
    (ended : k = { c with upd := { c.upd with verify := none } }) :
    c.verifyEnd = if c.imgErr i = 0 then ((k.setSlot i 4).updEvent i 3 0).complete js 0 ""
      else ((k.setSlot i 2).raise 0x0F02).complete js (c.imgErr i) "" := by
  unfold Chip.verifyEnd
  rw [verifying, ended]

/-! ### The trial (R467) -/

theorem Chip.trialStore_of_none (none : c.upd.since = none) : c.trialStore = c := by
  unfold Chip.trialStore
  rw [none]

theorem Chip.trialStore_of_recent {a : Nat} (since : c.upd.since = some a) (recent : c.now - a < 10000000000) : c.trialStore = c := by
  unfold Chip.trialStore
  rw [since]
  exact if_neg fun due => Nat.not_le.mpr recent due.2

theorem Chip.trialStore_of_due {a : Nat} (since : c.upd.since = some a) (trial : c.trialSlots ≠ []) (due : 10000000000 ≤ c.now - a) {k : Chip}
    (counted : k = { c with upd := { c.upd with secs := satNat 10 c.trialSecs, since := some c.now } }) :
    c.trialStore = (c.trialSlots.foldl (fun c i => c.slotStore i) k).updShow := by
  unfold Chip.trialStore
  rw [since, counted]
  exact if_pos ⟨trial, due⟩

theorem Chip.trialLimit_of_early (early : c.trialSlots = [] ∨ c.trialSecs < 600) : c.trialLimit = c :=
  if_neg fun ⟨trial, limit⟩ => early.elim trial (Nat.not_lt.mpr limit)

section Limit

variable (trial : c.trialSlots ≠ []) (limit : 600 ≤ c.trialSecs)
include trial limit

theorem Chip.trialLimit_of_open (isOpen : c.gateOpen .pointer = true) : c.trialLimit = c.trialOver :=
  (if_pos ⟨trial, limit⟩).trans (if_pos isOpen)

section Shut

variable (isShut : c.gateOpen .pointer = false)
include isShut

theorem Chip.trialLimit_of_shut (noStore : c.sup.waiting = []) (noConfirm : c.confirmWaits = false) :
    c.trialLimit = c.deferStore .pointer 8191 [] := by
  have nothing : ¬ (c.sup.waiting.any (fun w => w.kind == .pointer) = true ∨ c.confirmWaits = true) := by simp [noStore, noConfirm]
  exact (if_pos ⟨trial, limit⟩).trans ((if_neg (Bool.eq_false_iff.mp isShut)).trans (if_neg nothing))

theorem Chip.trialLimit_of_confirm (confirm : c.confirmWaits = true) : c.trialLimit = c :=
  (if_pos ⟨trial, limit⟩).trans ((if_neg (Bool.eq_false_iff.mp isShut)).trans (if_pos (.inr confirm)))

end Shut

end Limit

/-! ### The self-reset (R465) -/

theorem Chip.selfReset_of_none (none : c.upd.resetAt = none) : c.selfReset = c := by
  unfold Chip.selfReset
  rw [none]

theorem Chip.selfReset_of_early {a : Nat} (asked : c.upd.resetAt = some a) (early : c.now < a) : c.selfReset = c := by
  unfold Chip.selfReset
  rw [asked]
  exact if_neg (Nat.not_le.mpr early)

theorem Chip.selfReset_of_due {a : Nat} (asked : c.upd.resetAt = some a) (due : a ≤ c.now) {k : Chip}
    (pulsed : k = { c with upd := { c.upd with resetAt := none } }) (console : k.domOwns (k.get UPD_CFG_RST_GPIO) = false) :
    c.selfReset = k.emit (.pulse (k.get UPD_CFG_RST_GPIO) 10) := by
  subst pulsed
  unfold Chip.selfReset
  rw [asked]
  exact (if_pos due).trans (if_neg (Bool.eq_false_iff.mp console))

end Timers

/-- Settles O42: one clause for each branch of the timers. -/
theorem updateTimers : Obligations.UpdateTimers := by
  intro s t c k begun live
  subst begun
  refine ⟨fun none => ?idle, fun i js verifying ended => ?verified, fun none => ?noTrial, fun a since recent => ?recent,
    fun a since trial due counted => ?stored, fun early => ?early, fun trial limit isOpen => ?limited,
    fun trial limit isShut noStore noConfirm => ?waits, fun trial limit isShut confirm => ?confirm, fun none => ?noReset,
    fun a asked early => ?resting, fun a asked due pulsed console => ?pulse⟩
  case idle => exact .ofRunS (exec_verificationEnd ..) live (Chip.verifyEnd_of_none _ none)
  case verified =>
    have ends := Chip.verifyEnd_of_slot _ verifying ended
    by_cases good : (s.chip.begin t).imgErr i = 0
    · rw [if_pos good]
      exact .ofRunS (exec_verificationEnd ..) live (ends.trans (if_pos good))
    · rw [if_neg good]
      exact .ofRunS (exec_verificationEnd ..) live (ends.trans (if_neg good))
  case noTrial => exact .ofRun (exec_trialTimeStore ..) live (Chip.trialStore_of_none _ none)
  case recent => exact .ofRun (exec_trialTimeStore ..) live (Chip.trialStore_of_recent _ since recent)
  case stored => exact .ofRun (exec_trialTimeStore ..) live (Chip.trialStore_of_due _ since trial due counted)
  case early => exact .ofRunS (exec_trialTimeLimit ..) live (Chip.trialLimit_of_early _ early)
  case limited => exact .ofRunS (exec_trialTimeLimit ..) live (Chip.trialLimit_of_open _ trial limit isOpen)
  case waits => exact .ofRunS (exec_trialTimeLimit ..) live (Chip.trialLimit_of_shut _ trial limit isShut noStore noConfirm)
  case confirm => exact .ofRunS (exec_trialTimeLimit ..) live (Chip.trialLimit_of_confirm _ trial limit isShut confirm)
  case noReset => exact .ofRun (exec_selfResetPulse ..) live (Chip.selfReset_of_none _ none)
  case resting => exact .ofRun (exec_selfResetPulse ..) live (Chip.selfReset_of_early _ asked early)
  case pulse => exact .ofRun (exec_selfResetPulse ..) live (Chip.selfReset_of_due _ asked due pulsed console)

/-! ### The requests on CAN0 (R470, R471) -/

theorem exec_bootBegin (t : Nat) (q : Fin 256) (n : Nat) (s : State) : exec (.bootBegin t q n) s = bootRun t 1 q (fun c => c.svcBegin n) s := rfl
theorem exec_bootData (t : Nat) (q : Fin 256) (off : Nat) (b : List Byte) (s : State) :
    exec (.bootData t q off b) s = bootRun t 2 q (fun c => c.svcData off (b.take 32) false) s := rfl
theorem exec_bootVerify (t : Nat) (q : Fin 256) (s : State) : exec (.bootVerify t q) s = bootRun t 3 q (fun c => c.svcVerify) s := rfl
theorem exec_bootRun (t : Nat) (q : Fin 256) (s : State) : exec (.bootRun t q) s = bootRun t 4 q (fun c => c.svcRun) s := rfl

/-- A request to a chip that no reset holds gives what `bootRequest` makes of it. -/
theorem Gives.ofBoot {i : Instr} {s : State} {t op : Nat} {q : Fin 256} {f : Chip → Chip × Nat} {x : Chip} (meaning : exec i s = bootRun t op q f s)
    (free : (s.chip.begin t).sys.held = none) (effect : (s.chip.begin t).bootRequest op q f = x) : Gives i s t x.settle := by
  refine .ofRunAny meaning ?_
  rw [free, effect]
  rfl

section Request

variable (c : Chip) (op q : Nat) (f : Chip → Chip × Nat)

theorem Chip.bootRequest_of_unheard (unheard : c.sys.bootWait = false ∨ c.get SYS_BOOT_STAT_SOURCE ≠ 3) : c.bootRequest op q f = c :=
  if_pos unheard

section Heard

variable (waits : c.sys.bootWait = true) (source : c.get SYS_BOOT_STAT_SOURCE = 3)
include waits source

theorem Chip.bootRequest_heard : ¬ (c.sys.bootWait = false ∨ c.get SYS_BOOT_STAT_SOURCE ≠ 3) := by simp [waits, source]

theorem Chip.bootRequest_of_again {r : List Byte} (again : c.upd.svc.last = some (q, r)) :
    c.bootRequest op q f = c.emit (.can 0 (0x7E8 + c.get SYS_STRAP_SIDE) false true r) := by
  unfold Chip.bootRequest
  simp only [if_neg (c.bootRequest_heard waits source), again, if_true]

/-- A request of another sequence number than the one last answered is acted on and answered. -/
theorem Chip.bootRequest_of_new (new : ∀ n r, c.upd.svc.last = some (n, r) → n ≠ q) {x : Chip} {status : Nat} (acted : f c = (x, status)) :
    c.bootRequest op q f = x.bootReply op q status := by
  unfold Chip.bootRequest
  rw [if_neg (c.bootRequest_heard waits source), acted]
  cases last : c.upd.svc.last with
  | none => rfl
  | some answered =>
    obtain ⟨n, r⟩ := answered
    simp only [if_neg (new n r last)]

end Heard

end Request

section Service

variable (c : Chip)

theorem Chip.svcBegin_of_size {n : Nat} (least : 200 ≤ n) (most : n ≤ svcMax) :
    c.svcBegin n = ({ c with upd := { c.upd with svc := { c.upd.svc with size := n, got := 0, verified := false } } }, 0) :=
  if_neg fun bad => bad.elim (Nat.not_lt.mpr least) (Nat.not_lt.mpr most)

theorem Chip.svcData_of_next {off : Nat} {b : List Byte} (begun : c.upd.svc.size ≠ 0) (next : off = c.upd.svc.got) (inside : off < c.upd.svc.size)
    (aligned : off % b.length = 0) : c.svcData off b false =
      ({ c.wrBytes (0x20000000 + off) (b.take (c.upd.svc.size - off)) with
           upd := { c.upd with svc := { c.upd.svc with got := off + (b.take (c.upd.svc.size - off)).length, verified := false } } }, 0) := by
  have placed : ¬ (off % b.length ≠ 0 ∨ c.upd.svc.size ≤ off ∨ c.upd.svc.got < off ∨
      (off ≠ c.upd.svc.got ∧ (false = false ∨ off / 4096 ≠ c.upd.svc.got / 4096))) := by
    rintro (skew | beyond | ahead | ⟨elsewhere, _⟩)
    · exact skew aligned
    · omega
    · omega
    · exact elsewhere next
  unfold Chip.svcData
  dsimp only
  rw [if_neg begun, if_neg placed, if_pos next]

theorem Chip.svcVerify_of_complete (begun : c.upd.svc.size ≠ 0) (complete : c.upd.svc.size ≤ c.upd.svc.got) {e : Nat}
    (checked : e = c.containerErr 9 c.upd.svc.size (c.rdBytes 0x20000000 c.upd.svc.size)) :
    c.svcVerify = ({ c with upd := { c.upd with svc := { c.upd.svc with verified := decide (e = 0) } } }, e) := by
  subst checked
  exact if_neg fun short => short.elim begun (Nat.not_lt.mpr complete)

end Service

/-- Settles O43: whether a request is heard and new, and what each of the four then does. -/
theorem bootCommands : Obligations.BootCommands := by
  intro s t q c begun free
  subst begun
  refine ⟨fun n off b unheard => ?unheard, fun r n off b waits source again k emitted => ?again, fun waits source new => ?acted⟩
  case unheard =>
    have idle := fun op f => Chip.bootRequest_of_unheard (s.chip.begin t) op q f unheard
    exact ⟨.ofBoot (exec_bootBegin ..) free (idle ..), .ofBoot (exec_bootData ..) free (idle ..), .ofBoot (exec_bootVerify ..) free (idle ..),
      .ofBoot (exec_bootRun ..) free (idle ..)⟩
  case again =>
    subst emitted
    have repeats := fun op f => Chip.bootRequest_of_again (s.chip.begin t) op q f waits source again
    exact ⟨.ofBoot (exec_bootBegin ..) free (repeats ..), .ofBoot (exec_bootData ..) free (repeats ..),
      .ofBoot (exec_bootVerify ..) free (repeats ..), .ofBoot (exec_bootRun ..) free (repeats ..)⟩
  case acted =>
    have acts := fun op f {x status} => Chip.bootRequest_of_new (s.chip.begin t) op q f waits source new (x := x) (status := status)
    refine ⟨fun n bad => ?badSize, fun n least most => ?begin_, fun off b unbegun => ?noData, fun off b begun next inside aligned => ?data,
      fun short => ?short, fun e begun complete checked => ?verify, fun unverified => ?noRun, fun verified => ?run⟩
    case badSize => exact .ofBoot (exec_bootBegin ..) free (acts 1 _ (if_pos bad))
    case begin_ => exact .ofBoot (exec_bootBegin ..) free (acts 1 _ (Chip.svcBegin_of_size _ least most))
    case noData => exact .ofBoot (exec_bootData ..) free (acts 2 _ (if_pos unbegun))
    case data => exact .ofBoot (exec_bootData ..) free (acts 2 _ (Chip.svcData_of_next _ begun next inside aligned))
    case short => exact .ofBoot (exec_bootVerify ..) free (acts 3 _ (if_pos short))
    case verify => exact .ofBoot (exec_bootVerify ..) free (acts 3 _ (Chip.svcVerify_of_complete _ begun complete checked))
    case noRun => exact .ofBoot (exec_bootRun ..) free (acts 4 _ (if_neg (Bool.eq_false_iff.mp unverified)))
    case run => exact .ofBoot (exec_bootRun ..) free (acts 4 _ (if_pos verified))

end Sys2Proof.Machine

/-! ## Accesses of the cores: reads with their snapshots, and bus errors (spec/22 R491 to R496) -/

namespace Sys2Proof.Machine

theorem exec_snapshotRead (t : Nat) (who : Fin 7) (a : Nat) (s : State) : exec (.snapshotRead t who a) s = runAny t (fun c => c.busRead who a) s := rfl
theorem exec_busErrorAccess (t a w : Nat) (wr : Bool) (s : State) :
    exec (.busErrorAccess t a w wr) s = runAny t (fun c => c.busErrorAccess a w wr) s := rfl

/-! ### The regions -/

theorem within_eq_true {a lo hi : Nat} : within a lo hi = true ↔ lo ≤ a ∧ a < hi := decide_eq_true_iff

theorem within_eq_false {a lo hi : Nat} : within a lo hi = false ↔ a < lo ∨ hi ≤ a := by
  unfold within
  rw [decide_eq_false_iff_not]
  omega

theorem inBlocks_of_memory {a : Nat} (below : a < 0x40000000) : inBlocks a = false := by
  unfold inBlocks
  rw [within_eq_false.mpr (.inl below), within_eq_false.mpr (.inl (by omega))]
  rfl

section Hole

variable {a : Nat} (from_ : 0x52000000 ≤ a) (to_ : a < 0x80000000)
include from_ to_

/-- Between the registers of the vision part and the LPDDR4X no region lies. -/
theorem hole_outside : inBlocks a = false ∧ within a 0x10000000 0x10400000 = false ∧ within a 0x20000000 0x20200000 = false ∧ ¬ a < 0x10000 ∧
    within a 0 0x10000 = false ∧ inVision a = false := by
  have blocks : inBlocks a = false := by
    unfold inBlocks
    rw [within_eq_false.mpr (.inr (by omega)), within_eq_false.mpr (.inr from_)]
    rfl
  have vision : inVision a = false := by
    unfold inVision
    rw [within_eq_false.mpr (.inr from_), within_eq_false.mpr (.inl to_)]
    rfl
  exact ⟨blocks, within_eq_false.mpr (.inr (by omega)), within_eq_false.mpr (.inr (by omega)), by omega, within_eq_false.mpr (.inr (by omega)), vision⟩

end Hole

/-! ### Reads (R491 to R496) -/

section Read

variable (c : Chip) (who a : Nat)

/-- Outside the window of the CAN controllers, or while its block is in reset, a read takes no lock and gives none back. -/
theorem Chip.windowRead_of_outside (k : Chip) (outside : within a 0x400A0000 0x400D0000 = false ∨ k.inReset a = true) : k.windowRead a = k := by
  refine if_neg fun ⟨inside, _, _, awake⟩ => ?_
  obtain noCan | resting := outside
  · exact Bool.eq_false_iff.mp noCan inside
  · exact Bool.eq_false_iff.mp awake resting

theorem Chip.readWord_of_reset (resting : c.inReset a = true) : c.readWord a = 0 := by
  unfold Chip.readWord
  rw [resting]
  rfl

theorem Chip.busRead_of_unaligned (unaligned : a % 4 ≠ 0) : c.busRead who a = c.answer none := if_pos unaligned

variable (aligned : a % 4 = 0)
include aligned

theorem Chip.busRead_of_register (register : inBlocks a = true) :
    c.busRead who a = ((c.readBy who a).2.windowRead a).answer (some (c.readBy who a).1) :=
  (if_neg (not_not.mpr aligned)).trans (if_pos register)

theorem Chip.busRead_of_companion (register : inBlocks a = true) (companion : isCompanion a = true) (awake : c.inReset a = false)
    (fitted : (c.fuses.partN && inVision a) = false) (noCan : within a 0x400A0000 0x400D0000 = false) :
    c.busRead who a = c.answer (some (lookupD c.snaps (8 * a + who) 0)) := by
  have read : c.readBy who a = (lookupD c.snaps (8 * a + who) 0, c) := by
    unfold Chip.readBy
    rw [if_pos companion, awake, fitted]
    rfl
  rw [c.busRead_of_register who a aligned register, read, Chip.windowRead_of_outside a c (.inl noCan)]

theorem Chip.busRead_of_word (register : inBlocks a = true) (word : isCompanion a = false) (awake : c.inReset a = false)
    (noCan : within a 0x400A0000 0x400D0000 = false) :
    c.busRead who a = ({ c with snaps := (companions a).foldl (fun l x => insertD l (8 * x + who) (c.readWord x)) c.snaps } : Chip).answer
      (some (c.readWord a)) := by
  have read : c.readBy who a =
      (c.readWord a, { c with snaps := (companions a).foldl (fun l x => insertD l (8 * x + who) (c.readWord x)) c.snaps }) := by
    unfold Chip.readBy
    rw [if_neg (Bool.eq_false_iff.mp word), if_neg (Bool.eq_false_iff.mp awake)]
  rw [c.busRead_of_register who a aligned register, read]
  exact congrArg (Chip.answer · _) (Chip.windowRead_of_outside a _ (.inl noCan))

theorem Chip.busRead_of_reset (register : inBlocks a = true) (resting : c.inReset a = true) : c.busRead who a = c.answer (some 0) := by
  have read : c.readBy who a = (0, c) := by
    unfold Chip.readBy
    split
    · rw [resting]
      rfl
    · rw [c.readWord_of_reset a resting]
  rw [c.busRead_of_register who a aligned register, read, Chip.windowRead_of_outside a c (.inr resting)]

theorem Chip.busRead_of_memory (memory : within a 0x10000000 0x10400000 = true ∨ within a 0x20000000 0x20200000 = true) :
    c.busRead who a = c.answer (some (BitVec.ofNat 32 (c.rdLe a 4))) := by
  have below : a < 0x40000000 := by
    obtain mram | sram := memory
    · have := within_eq_true.mp mram
      omega
    · have := within_eq_true.mp sram
      omega
  have stored : (within a 0x10000000 0x10400000 || within a 0x20000000 0x20200000) = true := Bool.or_eq_true_iff.mpr memory
  exact (if_neg (not_not.mpr aligned)).trans ((if_neg (Bool.eq_false_iff.mp (inBlocks_of_memory below))).trans (if_pos stored))

theorem Chip.busRead_of_hole (from_ : 0x52000000 ≤ a) (to_ : a < 0x80000000) : c.busRead who a = c.answer none := by
  obtain ⟨noBlock, noMram, noSram, noRom, _, noVision⟩ := hole_outside from_ to_
  have noDdr : c.inDdr a = false := within_eq_false.mpr (.inl to_)
  unfold Chip.busRead
  simp [aligned, noBlock, noMram, noSram, noRom, noVision, noDdr]

end Read

/-- Settles O39: the region of the address says what a read answers. -/
theorem snapshotReads : Obligations.SnapshotReads := by
  intro s t a who c begun
  subst begun
  refine ⟨fun unaligned => ?unaligned, fun aligned register companion awake fitted noCan => ?companion,
    fun aligned register word awake noCan => ?word, fun aligned register resting => ?resting, fun aligned memory => ?memory,
    fun aligned from_ to_ => ?hole⟩
  all_goals refine .ofRunAny (exec_snapshotRead ..) ?_
  case unaligned => exact Chip.busRead_of_unaligned _ who a unaligned
  case companion => exact Chip.busRead_of_companion _ who a aligned register companion awake fitted noCan
  case word => exact Chip.busRead_of_word _ who a aligned register word awake noCan
  case resting => exact Chip.busRead_of_reset _ who a aligned register resting
  case memory => exact Chip.busRead_of_memory _ who a aligned memory
  case hole => exact Chip.busRead_of_hole _ who a aligned from_ to_

/-! ### Bus errors (R491, R493) -/

section Fails

variable (c : Chip) (a w : Nat) (wr : Bool)

theorem Chip.busErrorAccess_of_failing (noVision : inVision a = false) (fails : c.busFails a w wr = true) :
    c.busErrorAccess a w wr = c.answer none := by
  unfold Chip.busErrorAccess
  rw [if_pos fails, noVision]
  rfl

theorem Chip.busFails_of_badWidth (bad : w ∉ [1, 2, 4, 8] ∨ a % w ≠ 0) : c.busFails a w wr = true := by
  unfold Chip.busFails
  obtain width | skew := bad
  · rw [show [1, 2, 4, 8].contains w = false from Bool.eq_false_iff.mpr fun known => width (List.contains_iff_mem.mp known)]
    rfl
  · rw [bne_iff_ne.mpr skew, Bool.or_true, Bool.true_or]

theorem Chip.busFails_of_register (noVision : inVision a = false) (register : inBlocks a = true) (width : w ≠ 4) : c.busFails a w wr = true := by
  refine Bool.or_eq_true_iff.mpr (.inr ((if_pos register).trans ?_))
  rw [bne_iff_ne.mpr width, noVision, Bool.and_false]
  rfl

theorem Chip.busFails_of_mramWrite (mram : within a 0x10000000 0x10400000 = true) : c.busFails a w true = true := by
  have below : a < 0x40000000 := by
    have := within_eq_true.mp mram
    omega
  refine Bool.or_eq_true_iff.mpr (.inr ((if_neg (Bool.eq_false_iff.mp (inBlocks_of_memory below))).trans (if_pos ?_)))
  rw [mram]
  rfl

theorem Chip.busFails_of_hole (from_ : 0x52000000 ≤ a) (to_ : a < 0x80000000) : c.busFails a w wr = true := by
  obtain ⟨noBlock, noMram, noSram, _, noRom, noVision⟩ := hole_outside from_ to_
  refine Bool.or_eq_true_iff.mpr (.inr ?_)
  rw [noBlock, noMram, noRom, noSram, noVision]
  rfl

theorem Chip.busFails_of_sram (sram : within a 0x20000000 0x20200000 = true) (width : w ∈ [1, 2, 4, 8]) (aligned : a % w = 0) :
    c.busFails a w wr = false := by
  obtain ⟨from_, to_⟩ := within_eq_true.mp sram
  have noBlock : inBlocks a = false := inBlocks_of_memory (by omega)
  have noMram : within a 0x10000000 0x10400000 = false := within_eq_false.mpr (.inr (by omega))
  have noRom : within a 0 0x10000 = false := within_eq_false.mpr (.inr (by omega))
  unfold Chip.busFails
  rw [noBlock, noMram, noRom, sram, List.contains_iff_mem.mpr width, aligned]
  rfl

end Fails

/-- Settles O40: the width, the alignment and the region say whether an access fails. -/
theorem busErrors : Obligations.BusErrors := by
  intro s t a w wr c begun noVision
  subst begun
  exact ⟨fun fails => .ofRunAny (exec_busErrorAccess ..) (Chip.busErrorAccess_of_failing _ a w wr noVision fails),
    fun fine => .ofRunAny (exec_busErrorAccess ..) (if_neg (Bool.eq_false_iff.mp fine)),
    fun bad => Chip.busFails_of_badWidth _ a w wr bad,
    fun register width => Chip.busFails_of_register _ a w wr noVision register width,
    fun mram => Chip.busFails_of_mramWrite _ a w mram,
    fun from_ to_ => Chip.busFails_of_hole _ a w wr from_ to_,
    fun sram width aligned => Chip.busFails_of_sram _ a w wr sram width aligned⟩

end Sys2Proof.Machine
